-- ==== Sys2Proof/Word.lean ====
section
/-! DEFINITION. The words the manual treats as bits: bytes of cells, sample words and 32-bit words. -/

namespace Sys2Proof

/-- One byte of a cell, a frame, a recipe row or the configuration memory. -/
abbrev Byte := BitVec 8

/-- A 24-bit two's-complement sample word (00, Conventions). -/
abbrev Sample := BitVec 24

/-- A 32-bit word: frame indexes, carrier numbers, phases, capture ring words. -/
abbrev Word := BitVec 32

end Sys2Proof
end

