-- ==== Sys2Proof/Syntax.lean ====
section
/-! DEFINITION. The commands of the block: one constructor for each row of spec/opcode_table.json. A row of the
command catalogue has no operands here: its operands are in the cell at the head of the part's command queue (log 3). -/

namespace Sys2Proof

/-- The four test positions (00, Terms). -/
inductive Nest where
  | n1 | n2 | n3 | n4
  deriving DecidableEq, Repr

/-- The nest's number, 1 to 4. -/
def Nest.num : Nest → Nat
  | .n1 => 1
  | .n2 => 2
  | .n3 => 3
  | .n4 => 4

/-- The two label slots (08). -/
inductive SlotId where
  | a | b
  deriving DecidableEq, Repr

/-- The events and commands of the part. -/
inductive Instr where
  /-- POWER_ON_RESET (R213): power applied or the RESET input asserted. -/
  | powerOnReset
  /-- STARTUP_LOAD_END (R214). -/
  | startupLoadEnd
  /-- FRAME_ARRIVAL (R23): the bytes received from the converter. -/
  | frameArrival (bytes : List Byte)
  /-- ACQUISITION_COMPLETE (R31). -/
  | acquisitionComplete
  /-- BAD_RUN_LIMIT (R27). -/
  | badRunLimit
  /-- SILENCE_TIMEOUT (R28). -/
  | silenceTimeout
  /-- TAP_CELL_FORMED (R204): the tap channel, 1 to 9. -/
  | tapCellFormed (channel : Nat)
  /-- GUARD_BLOCK_END (R112). -/
  | guardBlockEnd
  /-- GUARD_HOLD_END (R115). -/
  | guardHoldEnd
  /-- GAP_PHASE_END (R42). -/
  | gapPhaseEnd (n : Nest)
  /-- SETTLE_TIME_ELAPSED (R44). -/
  | settleTimeElapsed (n : Nest)
  /-- SETTLE_BLOCK_END (R107). -/
  | settleBlockEnd (n : Nest)
  /-- SETTLE_CAP_REACHED (R45). -/
  | settleCapReached (n : Nest)
  /-- LANE_GRANT (R88). -/
  | laneGrant
  /-- WINDOW_COMPLETE (R48). -/
  | windowComplete (n : Nest)
  /-- EVALUATION_COMPLETE (R94). -/
  | evaluationComplete (n : Nest)
  /-- BURST_COUNT_END (R79). -/
  | burstCountEnd (n : Nest)
  /-- GLIDE_END (R78). -/
  | glideEnd (n : Nest)
  /-- RAMP_END (R74). -/
  | rampEnd (n : Nest)
  /-- DEADLINE_EXPIRY (R55). -/
  | deadlineExpiry (n : Nest)
  /-- STOP_LINE_ASSERT (R62). -/
  | stopLineAssert
  /-- STOP_LINE_RELEASE (R62). -/
  | stopLineRelease
  /-- CELL_ARRIVAL (R195): the bytes received on the line link. -/
  | cellArrival (bytes : List Byte)
  /-- ARBITER_SLOT (R206). -/
  | arbiterSlot
  /-- SLOT_FILL (R145). -/
  | slotFill
  /-- MESSAGE_START (R147). -/
  | messageStart
  /-- LABEL_MESSAGE_SENT (R147). -/
  | labelMessageSent
  /-- MARKING_CHARACTER (R150): the eight data bits, the parity bit and the stop bit as received. -/
  | markingCharacter (data : Byte) (parity stop : Bool)
  /-- ACK_TIMEOUT (R148). -/
  | ackTimeout (slot : SlotId)
  /-- CONFIG_WRITE_COMPLETE (R212). -/
  | configWriteComplete
  | writeRows
  | readRows
  | writeDirectory
  | readDirectory
  | activate
  | deactivate
  | writeBins
  | readBins
  | arrive
  | release
  | abort
  | stop
  | reserveStream
  | releaseStream
  | setCalibration
  | readCalibration
  | readLanes
  | setGuard
  | readGuard
  | readUnit
  | setMarking
  | readMarking
  | readCounts
  | clearCounts
  | resumeLine
  | enableNest
  | setYield
  | readYield
  | captureHead
  | captureRead
  | captureDrop
  | readCapture
  | status
  | setNotices
  | setTap
  | restart
  | reboot
  | configRead
  | configWrite
  /-- UNKNOWN_COMMAND (R200). -/
  | unknownCommand
  /-- TRANSMITTER_STOPPED (R159). -/
  | transmitterStopped
  deriving DecidableEq, Repr

end Sys2Proof
end

