-- ==== Sys2Proof/Config.lean ====
section
/-! DEFINITION. What an implementation fixes (the sizes and times the spec states) and the free values: choices the
spec leaves to the part. A free value has no body, so a statement about the model holds whatever it is. -/

namespace Sys2Proof.Config

/-- Frames in one millisecond (R32). -/
abbrev framesPerMs : Nat := 96

/-- Frames of a ramp and of a glide (R73, R74, R78). -/
abbrev rampFrames : Nat := 192

/-- Frames of a settle or guard block (R107, R112). -/
abbrev blockFrames : Nat := 240

/-- The latest frame, counted from the window's last, by which an evaluation completes (R94). -/
abbrev evaluationSpan : Nat := 48

/-- Value at which a saturating counter stops (00, Conventions). -/
abbrev counterMax : Nat := 4294967295

/-- Magnitude of a full-scale sample (00, Conventions). -/
abbrev fullScale : Nat := 8388607

/-- Words of the capture ring (R178). -/
abbrev ringSize : Nat := 1048576

/-- Bytes of the configuration memory (R211). -/
abbrev configSize : Nat := 131072

/-- Rows of recipe memory (R2). -/
abbrev rowCount : Nat := 4096

/-- Samples a stream buffer holds (R198). -/
abbrev streamSize : Nat := 2048

/-- Samples of a STREAM cell and of a TAP cell (R197, R204). -/
abbrev cellSamples : Nat := 48

/-- FREE VALUE (log 5, DESIGN CHOICE). The order in which the guard and the running nests take one frame, as a code
that `permute` reads; applied to `State.freeCount`. R87 allows either order of requests placed on one frame. -/
opaque turnCode : Nat → Nat

/-- FREE VALUE (log 6, DESIGN CHOICE). Whether, on a frame that both expires the deadline of nest number `n` and may
spoil its window or end its evaluation, the expiry is taken first (R56, R124). A window's frame is counted before. -/
opaque expiryFirst : (count n : Nat) → Bool

/-- FREE VALUE (log 7, DESIGN CHOICE). Whether the evaluation of nest number `n` completes on a frame produced inside
a gap, before its 48-frame span is over (R94). -/
opaque evaluationDone : (count n : Nat) → Bool

/-- FREE VALUE (log 8, DESIGN CHOICE). Whether the ack timers take a frame before the guard and the nests do. -/
opaque ackFirst : Nat → Bool

/-- FREE VALUE (log 8, DESIGN CHOICE). Whether slot B's ack timer takes a frame before slot A's. -/
opaque slotBFirst : Nat → Bool

/-- FREE VALUE (log 9, DESIGN CHOICE). How far the marking line has come when READ MARKING looks at it, or when a RESTART
stops it (R158, R159). -/
opaque markingProgress : Nat → Nat

/-- FREE VALUE (log 10, DESIGN CHOICE). Whether byte `i` of a configuration write had landed when a POWER-ON reset
ended the write (R212). -/
opaque byteLanded : (count i : Nat) → Bool

end Sys2Proof.Config
end

