-- ==== Sys2Proof/Machine/State.lean ====
section
/-! DEFINITION. The state of the part, block by block, as plain data, and its value right after POWER-ON. -/

namespace Sys2Proof.Machine

/-- One thing for each nest. -/
structure PerNest (α : Type) where
  n1 : α
  n2 : α
  n3 : α
  n4 : α
  deriving DecidableEq, Repr

/-- The same thing for each nest. -/
def PerNest.all {α : Type} (x : α) : PerNest α := ⟨x, x, x, x⟩

/-! ### Converter link (02) -/

/-- The three link states, in the order of the chapter's table. -/
inductive LinkState where
  | linkDown | acquiring | linkUp
  deriving DecidableEq, Repr

/-- A frame handed to the consumers (R33): its index, its number, the samples of channels 1 to 5, their overload flags
and its substituted flag. -/
structure ProducedFrame where
  index : Word
  number : BitVec 16
  samples : List Sample
  overloads : List Bool
  substituted : Bool
  deriving DecidableEq, Repr

structure Link where
  state : LinkState
  /-- last frame number, absent after POWER-ON (R36) -/
  lastNumber : Option (BitVec 16)
  /-- last good sample of channels 1 to 5 -/
  lastGood : List Sample
  frameIndex : Word
  badRun : Nat
  acquisitionCount : Nat
  silenceRunning : Bool
  badFrames : Nat
  missingFrames : Nat
  linkDowns : Nat
  /-- MODEL's own (log 21): the frame last produced -/
  current : ProducedFrame
  deriving DecidableEq, Repr

def Link.reset : Link :=
  { state := .linkDown, lastNumber := none, lastGood := List.replicate 5 0, frameIndex := 0, badRun := 0,
    acquisitionCount := 0, silenceRunning := false, badFrames := 0, missingFrames := 0, linkDowns := 0,
    current := ⟨0, 0, List.replicate 5 0, List.replicate 5 false, false⟩ }

/-! ### Recipe memory (01) -/

/-- Drive ranges and range codes (R3). -/
inductive Range where
  | low | mid | high
  deriving DecidableEq, Repr

inductive CapturePolicy where
  | off | failed | all
  deriving DecidableEq, Repr

/-- The fields of an INACTIVE or ACTIVE directory entry (R5). -/
structure ProgramFields where
  firstStep : Nat
  stepCount : Nat
  firstLimit : Nat
  limitCount : Nat
  taktMs : Nat
  retryBudget : Nat
  stopOnFail : Bool
  policy : CapturePolicy
  captureLimit : Nat
  gradeMargin : Nat
  rangeGapMs : Nat
  deriving DecidableEq, Repr

/-- One directory entry (R5). -/
inductive DirEntry where
  | empty
  | inactive (f : ProgramFields)
  | active (f : ProgramFields)
  deriving DecidableEq, Repr

/-- One bin table entry (R19); the label code without its padding. -/
structure BinEntry where
  bin : Nat
  label : Bool
  code : List Byte
  deriving DecidableEq, Repr

structure Recipe where
  /-- the bytes of the 4,096 rows, row r at addresses 16 r to 16 r + 15; an unlisted byte reads 0 (R22) -/
  rows : List Host.Cell
  directory : List DirEntry
  useCount : List Nat
  bins : List BinEntry
  deriving DecidableEq, Repr

/-- The default bin table of R19, in class order: PASS_A, PASS_B, FAIL_LOW, FAIL_HIG, FAIL_THD, FAIL_RUB, FAIL_UNS,
RETEST_N, RETEST_T, RETEST_L. -/
def defaultBins : List BinEntry :=
  [ ⟨0, true, [0x50, 0x41, 0x53, 0x53, 0x5F, 0x41]⟩,
    ⟨1, true, [0x50, 0x41, 0x53, 0x53, 0x5F, 0x42]⟩,
    ⟨2, true, [0x46, 0x41, 0x49, 0x4C, 0x5F, 0x4C, 0x4F, 0x57]⟩,
    ⟨3, true, [0x46, 0x41, 0x49, 0x4C, 0x5F, 0x48, 0x49, 0x47]⟩,
    ⟨4, true, [0x46, 0x41, 0x49, 0x4C, 0x5F, 0x54, 0x48, 0x44]⟩,
    ⟨5, true, [0x46, 0x41, 0x49, 0x4C, 0x5F, 0x52, 0x55, 0x42]⟩,
    ⟨6, true, [0x46, 0x41, 0x49, 0x4C, 0x5F, 0x55, 0x4E, 0x53]⟩,
    ⟨7, false, [0x52, 0x45, 0x54, 0x45, 0x53, 0x54, 0x5F, 0x4E]⟩,
    ⟨8, false, [0x52, 0x45, 0x54, 0x45, 0x53, 0x54, 0x5F, 0x54]⟩,
    ⟨9, false, [0x52, 0x45, 0x54, 0x45, 0x53, 0x54, 0x5F, 0x4C]⟩ ]

def Recipe.reset : Recipe :=
  { rows := [], directory := List.replicate 8 .empty, useCount := List.replicate 8 0, bins := defaultBins }

/-! ### Nest sequencers (03) -/

/-- The ten nest states (R37). -/
inductive NestState where
  | idle | reserved | gap | settle | condition | waitLanes | guardWait | window | evaluate | judged
  deriving DecidableEq, Repr

inductive DwellRule where
  | timed | settled | both | either
  deriving DecidableEq, Repr

/-- A step record as the sequencer keeps it for the step (R3, R41). For a CONDITION step the MEASURE fields hold
nothing that is read, and the other way round. -/
structure Step where
  measure : Bool
  frequency : Nat
  level : Int
  range : Range
  dwell : DwellRule
  settleMs : Nat
  capMs : Nat
  tolerance : Nat
  cycles : Nat
  /-- the window length N (R15) -/
  window : Nat
  guarded : Bool
  limitIndex : Option Nat
  bandLow : Nat
  bandHigh : Nat
  onCycles : Nat
  offCycles : Nat
  repeats : Nat
  deriving DecidableEq, Repr

/-- The four bounds of a limit record, each present or absent (R4). -/
structure Limits where
  lower : Option Int
  upper : Option Int
  thd : Option Int
  hoh : Option Int
  deriving DecidableEq, Repr

def Limits.none : Limits := ⟨Option.none, Option.none, Option.none, Option.none⟩

/-- The directory settings copied at ARRIVE (R39). -/
structure Settings where
  taktMs : Nat
  retryBudget : Nat
  stopOnFail : Bool
  policy : CapturePolicy
  captureLimit : Nat
  gradeMargin : Nat
  rangeGapMs : Nat
  deriving DecidableEq, Repr

inductive GapPhase where
  | rampDown | silence | rampUp
  deriving DecidableEq, Repr

structure Gap where
  phase : GapPhase
  left : Nat
  deriving DecidableEq, Repr

structure Sequencer where
  state : NestState
  record : Option Nat
  program : Option Nat
  settings : Settings
  stepIndex : Nat
  step : Option Step
  limits : Limits
  gap : Option Gap
  settleElapsed : Nat
  settledSeen : Bool
  windowCount : Nat
  deadline : Nat
  deadlineRunning : Bool
  retries : Nat
  deriving DecidableEq, Repr

def Sequencer.reset : Sequencer :=
  { state := .idle, record := none, program := none, settings := ⟨0, 0, false, .off, 0, 0, 0⟩, stepIndex := 0,
    step := none, limits := .none, gap := none, settleElapsed := 0, settledSeen := false, windowCount := 0,
    deadline := 0, deadlineRunning := false, retries := 0 }

/-! ### Tone generators (04) -/

/-- The envelope (R73, R74). `rampUp d`: d frames of the ramp are formed. `rampDown r d`: started from position r, d
frames formed. -/
inductive Envelope where
  | silent
  | rampUp (done : Nat)
  | full
  | rampDown (start done : Nat)
  deriving DecidableEq, Repr

structure Glide where
  start : Nat
  target : Nat
  done : Nat
  deriving DecidableEq, Repr

structure Burst where
  on : Bool
  cyclesLeft : Nat
  repeatsLeft : Nat
  deriving DecidableEq, Repr

structure PendingStep where
  frequency : Nat
  level : Int
  range : Range
  deriving DecidableEq, Repr

structure Tone where
  phase : Word
  increment : Word
  amplitude : Nat
  glide : Option Glide
  envelope : Envelope
  range : Range
  burst : Option Burst
  burstMute : Bool
  pendingStep : Option PendingStep
  deriving DecidableEq, Repr

def Tone.reset : Tone :=
  { phase := 0, increment := 0, amplitude := 0, glide := none, envelope := .silent, range := .mid, burst := none,
    burstMute := false, pendingStep := none }

/-! ### Harmonic analyser (05) -/

inductive LanePhase where
  | held | accumulating | evaluating
  deriving DecidableEq, Repr

inductive LaneRole where
  | fundamental | thd | hoh
  deriving DecidableEq, Repr

/-- What a lane that is not FREE carries (R84). -/
structure Assignment where
  nest : Nest
  phase : LanePhase
  harmonic : Nat
  role : LaneRole
  sumI : BitVec 64
  sumQ : BitVec 64
  deriving DecidableEq, Repr

/-- One entry of the lane request queue (R87); its request size is the plan's length (R86). -/
structure LaneRequest where
  nest : Nest
  size : Nat
  plan : List (Nat × LaneRole)
  deriving DecidableEq, Repr

/-- A nest's settle detector (R106 to R109). -/
structure Detector where
  running : Bool
  position : Nat
  sum : Nat
  reference : Option Int
  pairs : Nat
  tolerance : Nat
  substituted : Bool
  reported : Bool
  deriving DecidableEq, Repr

def Detector.stopped : Detector := ⟨false, 0, 0, none, 0, 0, false, false⟩

structure Analyser where
  /-- the 64 lanes; `none` is FREE -/
  lanes : List (Option Assignment)
  queue : List LaneRequest
  overload : PerNest Bool
  /-- an evaluation in flight, with the frames produced since the window's last -/
  evaluation : PerNest (Option Nat)
  calibration : PerNest Int
  detector : PerNest Detector
  deriving DecidableEq, Repr

def Analyser.reset : Analyser :=
  { lanes := List.replicate 64 none, queue := [], overload := .all false, evaluation := .all none,
    calibration := .all 0, detector := .all .stopped }

/-! ### Ambient guard (06) -/

structure Guard where
  loud : Bool
  enable : Bool
  threshold : Int
  hysteresis : Int
  /-- peak threshold; `none` is off -/
  peak : Option Nat
  holdMs : Nat
  position : Nat
  sum : Nat
  lastLevel : Option Int
  holdCount : Nat
  peakSince : Nat
  loudestSince : Option Int
  loudEntries : Nat
  /-- MODEL's own (log 21): the frame being taken has brought the hold count to its end -/
  holdDue : Bool
  deriving DecidableEq, Repr

def Guard.reset : Guard :=
  { loud := false, enable := false, threshold := -3000, hysteresis := 300, peak := none, holdMs := 20, position := 0,
    sum := 0, lastLevel := none, holdCount := 0, peakSince := 0, loudestSince := none, loudEntries := 0,
    holdDue := false }

/-! ### Unit records (07) -/

inductive RecordState where
  | free | running | judged | queued | labelling
  deriving DecidableEq, Repr

/-- The ten outcome classes, in the order of R19. -/
inductive UnitClass where
  | passA | passB | failLow | failHigh | failThd | failRub | failUnsettled | retestNoise | retestTimeout | retestLink
  deriving DecidableEq, Repr

/-- A step's outcome: PASS or its cause, in the order of R105. -/
inductive StepOutcome where
  | pass | unsettled | overload | noResponse | rub | thd | low | high
  deriving DecidableEq, Repr

inductive LabelOutcome where
  | applied | rejected | noAck | notLabelled
  deriving DecidableEq, Repr

/-- A unit record (R128); the record id is its place in the table. -/
structure UnitRecord where
  state : RecordState
  nest : Option Nest
  carrier : Word
  program : Nat
  arrival : Word
  retriesUsed : Nat
  stepsCompleted : Nat
  firstFailing : Option (Nat × StepOutcome)
  worstResponse : Option Int
  worstThd : Option Int
  worstHoh : Option Int
  worstOverall : Option Int
  unitClass : Option UnitClass
  /-- bin, label enable and label code copied at the verdict (R21) -/
  binCopy : Option BinEntry
  capturesCommitted : Nat
  capturesSkipped : Nat
  slot : Option SlotId
  labelOutcome : Option LabelOutcome
  deriving DecidableEq, Repr

/-- A FREE record: every field cleared (R128). -/
def UnitRecord.free : UnitRecord :=
  { state := .free, nest := none, carrier := 0, program := 0, arrival := 0, retriesUsed := 0, stepsCompleted := 0,
    firstFailing := none, worstResponse := none, worstThd := none, worstHoh := none, worstOverall := none,
    unitClass := none, binCopy := none, capturesCommitted := 0, capturesSkipped := 0, slot := none,
    labelOutcome := none }

/-! ### Label queue and marking port (08) -/

inductive SlotState where
  | free | waitLine | sending | awaitAck
  deriving DecidableEq, Repr

structure Slot where
  state : SlotState
  record : Option Nat
  message : List Byte
  ackLeft : Nat
  deriving DecidableEq, Repr

def Slot.free : Slot := ⟨.free, none, [], 0⟩

/-- The transmitter (R147). `stopping`: a RESTART cut the message and the character in progress is completing (R159). -/
inductive Transmitter where
  | idle
  | sending (slot : SlotId) (sent : Nat)
  | stopping (sent : Nat)
  deriving DecidableEq, Repr

/-- The receiver (R150); `ack` is whether the reply kind received was 'A'. -/
inductive Receiver where
  | expectKind
  | expectSlot (ack : Bool)
  | expectEnd (ack : Bool) (slot : SlotId)
  deriving DecidableEq, Repr

structure Marking where
  queue : List Nat
  slotA : Slot
  slotB : Slot
  lastFilled : Option SlotId
  transmitter : Transmitter
  receiver : Receiver
  ackMs : Nat
  charErrors : Nat
  strayAcks : Nat
  deriving DecidableEq, Repr

def Marking.reset : Marking :=
  { queue := [], slotA := .free, slotB := .free, lastFilled := none, transmitter := .idle, receiver := .expectKind,
    ackMs := 800, charErrors := 0, strayAcks := 0 }

/-! ### Yield block (09) -/

inductive LineState where
  | running | held
  deriving DecidableEq, Repr

inductive Admission where
  | enabled | quarantined
  deriving DecidableEq, Repr

/-- The production counters of R160 but for the two the marking port holds. -/
structure Counts where
  retired : Nat
  bins : List Nat
  applied : Nat
  rejected : Nat
  noAck : Nat
  notLabelled : Nat
  judged : PerNest Nat
  passed : PerNest Nat
  aborted : Nat
  discarded : Nat
  deriving DecidableEq, Repr

def Counts.zero : Counts :=
  { retired := 0, bins := List.replicate 16 0, applied := 0, rejected := 0, noAck := 0, notLabelled := 0,
    judged := .all 0, passed := .all 0, aborted := 0, discarded := 0 }

structure Yield where
  counts : Counts
  /-- oldest first; `true` is PASS -/
  window : List Bool
  passCount : Nat
  windowLength : Nat
  holdLevel : Nat
  quarantineLevel : Nat
  line : LineState
  streak : PerNest Nat
  admission : PerNest Admission
  deriving DecidableEq, Repr

def Yield.reset : Yield :=
  { counts := .zero, window := [], passCount := 0, windowLength := 200, holdLevel := 0, quarantineLevel := 0,
    line := .running, streak := .all 0, admission := .all .enabled }

/-! ### Capture ring (10) -/

inductive CaptureState where
  | provisional | committed | void
  deriving DecidableEq, Repr

/-- A record's descriptor (R179): its state, the nest it was reserved for, the ring word it starts at, its window
length N, first frame index, fill count and read cursor. Its header and samples are ring words. -/
structure CaptureRecord where
  state : CaptureState
  owner : Nest
  start : Nat
  length : Nat
  first : Word
  fill : Nat
  cursor : Nat
  deriving DecidableEq, Repr

structure Capture where
  /-- ring words; an unlisted word reads 0 (log 14) -/
  words : List (Nat × Word)
  records : List CaptureRecord
  occupied : Nat
  /-- the provisional mark of each nest: the ring word its record starts at -/
  mark : PerNest (Option Nat)
  nextStart : Nat
  deriving DecidableEq, Repr

def Capture.reset : Capture := { words := [], records := [], occupied := 0, mark := .all none, nextStart := 0 }

/-! ### Line port (11) -/

/-- The refusal reasons, in the order of their codes 1 to 20. -/
inductive Reason where
  | range | stopped | linkDown | held | quarantined | reserved | busy | noProgram | inUse | overlap | badRecord
  | queueFull | notJudged | notHeld | notReserved | notQuarantined | empty | pending | starting | unknown
  deriving DecidableEq, Repr

/-- A good COMMAND cell in the command queue (R196). -/
structure CommandCell where
  tag : Byte
  payload : List Byte
  deriving DecidableEq, Repr

/-- The command unit (R200): IDLE, or BUSY with a CONFIG WRITE (R212) or a REBOOT (R210). -/
inductive CommandUnit where
  | idle
  | writing (tag : Byte) (addr : Nat) (data : List Byte)
  | rebooting
  deriving DecidableEq, Repr

/-- A reply (R201); `reason = none` is DONE. -/
structure Reply where
  tag : Byte
  code : Byte
  reason : Option Reason
  data : List Byte
  deriving DecidableEq, Repr

/-- A step result (R105). -/
structure StepResult where
  nest : Nest
  record : Nat
  stepIndex : Nat
  frequency : Nat
  limitIndex : Option Nat
  response : Option Int
  thd : Option Int
  hoh : Option Int
  responseMargin : Option Int
  thdMargin : Option Int
  hohMargin : Option Int
  stepMargin : Option Int
  outcome : StepOutcome
  retries : Nat
  deriving DecidableEq, Repr

/-- Why the guard changed state (R119). -/
structure GuardCauses where
  block : Bool
  peak : Bool
  overload : Bool
  holdEnd : Bool
  disabled : Bool
  deriving DecidableEq, Repr

/-- The notices of R220. VERDICT, LABEL and DISCARD carry the record they are formed from. -/
inductive Notice where
  | verdict (record : Nat) (unit : UnitRecord) (aborted : Bool) (index : Word)
  | step (result : StepResult)
  | label (record : Nat) (unit : UnitRecord) (index : Word)
  | discard (record : Nat) (unit : UnitRecord) (byRestart : Bool)
  | hold (nest : Nest) (record : Nat) (unitClass : UnitClass) (window passCount level : Nat) (index : Word)
  | clear (window passCount : Nat) (index : Word)
  | quarantine (nest : Nest) (record : Nat) (carrier : Word) (unitClass : UnitClass) (streak level : Nat) (index : Word)
  | link (state : LinkState) (index : Word) (linkDowns : Nat)
  | guard (loud : Bool) (index : Word) (causes : GuardCauses) (level : Option Int) (loudEntries : Nat)
  deriving DecidableEq, Repr

/-- The eight notice enables (R202). -/
structure Enables where
  verdict : Bool
  step : Bool
  label : Bool
  discard : Bool
  hold : Bool
  quarantine : Bool
  link : Bool
  guard : Bool
  deriving DecidableEq, Repr

/-- A tap accumulator (R204): samples with their substituted flags, oldest first. -/
structure TapAccumulator where
  first : Word
  samples : List (Sample × Bool)
  deriving DecidableEq, Repr

/-- A TAP cell (R204). -/
structure TapCell where
  channel : Nat
  first : Word
  samples : List (Sample × Bool)
  deriving DecidableEq, Repr

inductive PaceState where
  | go | stop
  deriving DecidableEq, Repr

structure Pace where
  lastSent : PaceState
  pendingState : Option PaceState
  deriving DecidableEq, Repr

inductive PartState where
  | starting | ready
  deriving DecidableEq, Repr

/-- The outcome of one load group (R214, R218). -/
inductive GroupResult where
  | taken | default | rejected | checkFail | noImage
  deriving DecidableEq, Repr

/-- A directory entry that failed activation at start-up (R216). -/
structure FailedEntry where
  entry : Nat
  reason : Reason
  data : List Byte
  deriving DecidableEq, Repr

structure StartupResult where
  groups : List GroupResult
  failed : List FailedEntry
  deriving DecidableEq, Repr

structure Port where
  commands : List CommandCell
  unit : CommandUnit
  overrunFlag : Bool
  replies : List Reply
  notices : List Notice
  enables : Enables
  /-- bit c - 1 selects tap channel c -/
  tapSelection : BitVec 9
  taps : List TapAccumulator
  tapQueue : List TapCell
  streams : PerNest (List Sample)
  pace : PerNest Pace
  part : PartState
  startup : StartupResult
  /-- the configuration memory; an unlisted byte reads 0xFF (log 13) -/
  config : List Host.Cell
  badCells : Nat
  commandOverruns : Nat
  noticeDrops : Nat
  tapDrops : Nat
  streamDiscards : Nat
  streamOverruns : PerNest Nat
  streamUnderruns : PerNest Nat
  deriving DecidableEq, Repr

/-- The enables after POWER-ON and REBOOT (R202): 0x75. -/
def Enables.reset : Enables :=
  { verdict := true, step := false, label := true, discard := false, hold := true, quarantine := true, link := true,
    guard := false }

def TapAccumulator.empty : TapAccumulator := ⟨0, []⟩

def Port.reset : Port :=
  { commands := [], unit := .idle, overrunFlag := false, replies := [], notices := [], enables := .reset,
    tapSelection := 0, taps := List.replicate 9 .empty, tapQueue := [], streams := .all [],
    pace := .all ⟨.go, none⟩, part := .starting, startup := ⟨List.replicate 7 .noImage, []⟩, config := [],
    badCells := 0, commandOverruns := 0, noticeDrops := 0, tapDrops := 0, streamDiscards := 0,
    streamOverruns := .all 0, streamUnderruns := .all 0 }

/-- MODEL's own (log 21): what the part last put on its links. -/
structure Outputs where
  /-- the downstream frames composed by the last FRAME_ARRIVAL, in order -/
  downstream : List (List Byte)
  /-- the cell sent in the last ARBITER_SLOT -/
  upstream : Option (List Byte)
  deriving DecidableEq, Repr

/-! ### The whole part -/

structure State where
  link : Link
  recipe : Recipe
  nests : PerNest Sequencer
  tones : PerNest Tone
  analyser : Analyser
  guard : Guard
  records : List UnitRecord
  marking : Marking
  yield : Yield
  capture : Capture
  port : Port
  /-- the STOP input's level (R62) -/
  stopLine : Bool
  out : Outputs
  /-- MODEL's own (log 5): what the free values of Config are applied to -/
  freeCount : Nat
  /-- the commands waiting, first in first out -/
  pending : List Instr
  deriving DecidableEq, Repr

/-- The part right after POWER-ON: every block at the values of R22, R36, R66, R83, R110, R125, R143, R159, R177, R194
and R217, STARTING, nothing waiting. -/
def State.reset : State :=
  { link := .reset, recipe := .reset, nests := .all .reset, tones := .all .reset, analyser := .reset, guard := .reset,
    records := List.replicate 14 .free, marking := .reset, yield := .reset, capture := .reset, port := .reset,
    stopLine := false, out := ⟨[], none⟩, freeCount := 0, pending := [] }

/-- Why the model stops with a fault. -/
inductive Fault where
  /-- Raised by ARRIVE alone, when every check of R38 passes and no record is FREE. R126 says this cannot be ("ARRIVE
  therefore always finds a FREE record"), so no run from reset meets it. Safe (log 26). -/
  | noFreeRecord
  deriving DecidableEq, Repr

/-- Why the model refuses a command. -/
inductive Refusal where
  /-- Raised by exec's arms of commands that have no meaning yet; there is none left. Safe. -/
  | notModelled (mnemonic : String)
  deriving DecidableEq, Repr

end Sys2Proof.Machine
end

