-- ==== Sys2Proof/Machine/Ops.lean ====
section
/-! DEFINITION. The named operations over registers and memory that every family uses: per-nest access, the sparse
memories in canonical form, saturating counters, roundings, orders and queues. -/

namespace Sys2Proof

/-- The nest of a nest number, where it is 1 to 4. -/
def Nest.ofNum : Nat → Option Nest
  | 1 => some .n1
  | 2 => some .n2
  | 3 => some .n3
  | 4 => some .n4
  | _ => none

/-- Nest order 1 to 4. -/
def Nest.order : List Nest := [.n1, .n2, .n3, .n4]

def SlotId.other : SlotId → SlotId
  | .a => .b
  | .b => .a

namespace Machine

/-! ### Per-nest access -/

def PerNest.get {α : Type} (p : PerNest α) : Nest → α
  | .n1 => p.n1
  | .n2 => p.n2
  | .n3 => p.n3
  | .n4 => p.n4

def PerNest.set {α : Type} (p : PerNest α) (n : Nest) (x : α) : PerNest α :=
  match n with
  | .n1 => { p with n1 := x }
  | .n2 => { p with n2 := x }
  | .n3 => { p with n3 := x }
  | .n4 => { p with n4 := x }

def PerNest.map {α β : Type} (f : α → β) (p : PerNest α) : PerNest β := ⟨f p.n1, f p.n2, f p.n3, f p.n4⟩

/-- The four things in nest order. -/
def PerNest.toList {α : Type} (p : PerNest α) : List α := [p.n1, p.n2, p.n3, p.n4]

/-- Do `f` for every nest in nest order 1 to 4. -/
def inNestOrder {σ : Type} (f : Nest → σ → σ) (s : σ) : σ := f .n4 (f .n3 (f .n2 (f .n1 s)))

/-! ### Counters and rounding (00, Conventions) -/

/-- A saturating counter after `k` more counted events. -/
def count (c k : Nat) : Nat := min (c + k) Config.counterMax

/-- round(a / b), a fraction of one half going to the next larger integer. -/
def roundHalfUp (a b : Nat) : Nat := (2 * a + b) / (2 * b)

/-- round(a / b), a fraction of one half going to the integer of larger magnitude. -/
def roundHalfAway (a : Int) (b : Nat) : Int :=
  if 0 ≤ a then (roundHalfUp a.toNat b : Int) else -(roundHalfUp (-a).toNat b : Int)

/-- x clamped to [lo, hi]. -/
def clamp (lo hi x : Int) : Int := if x < lo then lo else if hi < x then hi else x

/-- The smaller of two optional values, an absent one taking no part (00, Absent). -/
def minPresent : Option Int → Option Int → Option Int
  | none, b => b
  | some a, none => some a
  | some a, some b => some (if b < a then b else a)

/-! ### Sparse memories

A list of (address, value) with strictly rising addresses and no entry equal to what an unlisted address reads as. -/

namespace Memory

variable {α : Type} [DecidableEq α]

/-- The value at an address; `d` is what an unlisted address reads as. -/
def read (d : α) : List (Nat × α) → Nat → α
  | [], _ => d
  | (b, v) :: m, a => if a = b then v else read d m a

/-- The memory with one value written. -/
def write (d : α) (a : Nat) (v : α) : List (Nat × α) → List (Nat × α)
  | [] => if v = d then [] else [(a, v)]
  | (b, w) :: m =>
    if a < b then (if v = d then (b, w) :: m else (a, v) :: (b, w) :: m)
    else if a = b then (if v = d then m else (a, v) :: m)
    else (b, w) :: write d a v m

/-- The canonical form. -/
def wf (d : α) : List (Nat × α) → Bool
  | [] => true
  | (a, v) :: m => decide (v ≠ d) && m.all (fun c => decide (a < c.1)) && wf d m

/-- `n` values from an address on. -/
def readMany (d : α) (m : List (Nat × α)) : (a n : Nat) → List α
  | _, 0 => []
  | a, n + 1 => read d m a :: readMany d m (a + 1) n

/-- The memory with values written from an address on. -/
def writeMany (d : α) : (a : Nat) → List α → List (Nat × α) → List (Nat × α)
  | _, [], m => m
  | a, v :: vs, m => writeMany d (a + 1) vs (write d a v m)

end Memory

/-! ### Orders

The free order in which several consumers take one frame (log 5). -/

/-- `x` put at place `k` of a list, or at its end. -/
def insertAt {α : Type} (k : Nat) (x : α) : List α → List α
  | [] => [x]
  | y :: ys => if k = 0 then x :: y :: ys else y :: insertAt (k - 1) x ys

/-- The permutation of a list that a code names: every permutation has a code. -/
def permute {α : Type} : (code : Nat) → List α → List α
  | _, [] => []
  | code, x :: xs => insertAt (code % (xs.length + 1)) x (permute (code / (xs.length + 1)) xs)

/-! ### The state's blocks -/

def State.nest (s : State) (n : Nest) : Sequencer := s.nests.get n

def State.setNest (s : State) (n : Nest) (q : Sequencer) : State := { s with nests := s.nests.set n q }

def State.tone (s : State) (n : Nest) : Tone := s.tones.get n

def State.setTone (s : State) (n : Nest) (t : Tone) : State := { s with tones := s.tones.set n t }

/-- The unit record of an id. An id above 13 is used by no command (R141); it reads as a FREE record (log 27). -/
def State.record (s : State) (id : Nat) : UnitRecord := s.records.getD id .free

def State.setRecord (s : State) (id : Nat) (r : UnitRecord) : State := { s with records := s.records.set id r }

def Analyser.setDetector (a : Analyser) (n : Nest) (d : Detector) : Analyser :=
  { a with detector := a.detector.set n d }

/-- The state with a nest's settle detector replaced. -/
def State.setDetector (s : State) (n : Nest) (d : Detector) : State :=
  { s with analyser := s.analyser.setDetector n d }

/-- The state with the free counter advanced: the next free value is a fresh one. -/
def State.spend (s : State) : State := { s with freeCount := s.freeCount + 1 }

/-- "Running": GAP, SETTLE, CONDITION, WAIT_LANES, GUARD_WAIT, WINDOW or EVALUATE (R37). -/
def NestState.running : NestState → Bool
  | .idle | .reserved | .judged => false
  | .gap | .settle | .condition | .waitLanes | .guardWait | .window | .evaluate => true

def DirEntry.fields : DirEntry → Option ProgramFields
  | .empty => none
  | .inactive f => some f
  | .active f => some f

def DirEntry.isActive : DirEntry → Bool
  | .active _ => true
  | .empty | .inactive _ => false

/-- Directory entry e; there are eight (R5). -/
def Recipe.entry (r : Recipe) (e : Nat) : DirEntry := r.directory.getD e .empty

def Recipe.uses (r : Recipe) (e : Nat) : Nat := r.useCount.getD e 0

/-- The bytes of `count` rows from row `first` on (R2). -/
def Recipe.readRows (r : Recipe) (first n : Nat) : List Byte := Memory.readMany 0 r.rows (16 * first) (16 * n)

end Machine

end Sys2Proof
end

