-- ==== Sys2Proof/Machine/Operands.lean ====
section
/-! DEFINITION. Every field encoding of R218 to R224, both ways: the fields of a command's operands and of records,
and the bytes of replies, notices, cells and frames. Fields are most significant byte first (R218). -/

namespace Sys2Proof.Machine

/-! ### Bytes to numbers -/

/-- The unsigned number of some bytes, most significant first. -/
def unsignedOf (bs : List Byte) : Nat := bs.foldl (fun acc b => 256 * acc + b.toNat) 0

/-- The two's-complement number of some bytes, most significant first. -/
def signedOf (bs : List Byte) : Int :=
  let v := unsignedOf bs
  let m := 256 ^ bs.length
  if 2 * v < m then (v : Int) else (v : Int) - (m : Int)

/-- The `len` bytes at an offset. -/
def bytesAt (bs : List Byte) (off len : Nat) : List Byte := (bs.drop off).take len

/-- The unsigned field at an offset. -/
def fieldAt (bs : List Byte) (off len : Nat) : Nat := unsignedOf (bytesAt bs off len)

/-- The signed field at an offset. -/
def signedAt (bs : List Byte) (off len : Nat) : Int := signedOf (bytesAt bs off len)

/-- A cdB bound that may be absent: 0x8000 is absent (R218). -/
def boundAt (bs : List Byte) (off : Nat) : Option Int :=
  if fieldAt bs off 2 = 0x8000 then none else some (signedAt bs off 2)

/-! ### Numbers to bytes -/

/-- A number in `k` bytes, most significant first, modulo 256^k. -/
def toBytes : (k : Nat) → Nat → List Byte
  | 0, _ => []
  | k + 1, v => toBytes k (v / 256) ++ [BitVec.ofNat 8 v]

/-- A signed number in `k` bytes, two's complement. -/
def signedBytes (k : Nat) (v : Int) : List Byte := toBytes k (v % (256 ^ k : Nat)).toNat

/-- A one-byte field that may be absent: 0xFF. -/
def optByte : Option Nat → List Byte
  | none => [0xFF]
  | some v => toBytes 1 v

/-- A two-byte unsigned field that may be absent: 0xFFFF. -/
def optIndex : Option Nat → List Byte
  | none => [0xFF, 0xFF]
  | some v => toBytes 2 v

/-- A level, bound, ratio or threshold (cdB) that may be absent: 0x8000. -/
def optLevel : Option Int → List Byte
  | none => [0x80, 0x00]
  | some v => signedBytes 2 v

/-- A margin (cdB) that may be absent: 0x80000000. -/
def optMargin : Option Int → List Byte
  | none => [0x80, 0x00, 0x00, 0x00]
  | some v => signedBytes 4 v

def boolByte (b : Bool) : List Byte := if b then [1] else [0]

def optBool : Option Bool → List Byte
  | none => [0xFF]
  | some b => boolByte b

/-- A slot: 'A' or 'B', or 0x00 when absent. -/
def slotByte : Option SlotId → List Byte
  | none => [0x00]
  | some .a => [0x41]
  | some .b => [0x42]

/-- A label code: its characters, then 0x00 up to eight bytes. -/
def codeBytes (c : List Byte) : List Byte := (c ++ List.replicate 8 0).take 8

/-- A 24-bit sample. -/
def sampleBytes (x : Sample) : List Byte := toBytes 3 x.toNat

/-- A list of varying length: a one-byte count, then its items. -/
def listBytes {α : Type} (item : α → List Byte) (xs : List α) : List Byte :=
  toBytes 1 xs.length ++ xs.flatMap item

/-- Bits packed most significant bit first, the last byte filled with zeros (R176, R219). `acc` holds the `k` bits of
the byte being filled. -/
def packBits : (acc k : Nat) → List Bool → List Byte
  | acc, k, [] => if k = 0 then [] else [BitVec.ofNat 8 (acc * 2 ^ (8 - k))]
  | acc, k, b :: bs =>
    let acc' := 2 * acc + b.toNat
    if k = 7 then BitVec.ofNat 8 acc' :: packBits 0 0 bs else packBits acc' (k + 1) bs

/-! ### Enumerations: position in the list where the field is defined, from 0 (R218) -/

def LinkState.code : LinkState → Nat
  | .linkDown => 0
  | .acquiring => 1
  | .linkUp => 2

def CapturePolicy.code : CapturePolicy → Nat
  | .off => 0
  | .failed => 1
  | .all => 2

def CapturePolicy.ofCode : Nat → Option CapturePolicy
  | 0 => some .off
  | 1 => some .failed
  | 2 => some .all
  | _ => none

/-- Position of a lane state in the list FREE, HELD, ACCUMULATING, EVALUATING of R84. -/
def LanePhase.code : LanePhase → Nat
  | .held => 1
  | .accumulating => 2
  | .evaluating => 3

def RecordState.code : RecordState → Nat
  | .free => 0
  | .running => 1
  | .judged => 2
  | .queued => 3
  | .labelling => 4

def UnitClass.code : UnitClass → Nat
  | .passA => 0
  | .passB => 1
  | .failLow => 2
  | .failHigh => 3
  | .failThd => 4
  | .failRub => 5
  | .failUnsettled => 6
  | .retestNoise => 7
  | .retestTimeout => 8
  | .retestLink => 9

/-- Outcomes and causes: 0 for PASS, 1 to 7 in the priority order of R104. -/
def StepOutcome.code : StepOutcome → Nat
  | .pass => 0
  | .unsettled => 1
  | .overload => 2
  | .noResponse => 3
  | .rub => 4
  | .thd => 5
  | .low => 6
  | .high => 7

def LabelOutcome.code : LabelOutcome → Nat
  | .applied => 0
  | .rejected => 1
  | .noAck => 2
  | .notLabelled => 3

def SlotState.code : SlotState → Nat
  | .free => 0
  | .waitLine => 1
  | .sending => 2
  | .awaitAck => 3

def Receiver.code : Receiver → Nat
  | .expectKind => 0
  | .expectSlot _ => 1
  | .expectEnd _ _ => 2

def LineState.code : LineState → Nat
  | .running => 0
  | .held => 1

def Admission.code : Admission → Nat
  | .enabled => 0
  | .quarantined => 1

def CaptureState.code : CaptureState → Nat
  | .provisional => 0
  | .committed => 1
  | .void => 2

def PaceState.code : PaceState → Nat
  | .go => 0
  | .stop => 1

def GroupResult.code : GroupResult → Nat
  | .taken => 0
  | .default => 1
  | .rejected => 2
  | .checkFail => 3
  | .noImage => 4

/-- The codes of the refusal reasons (11). -/
def Reason.code : Reason → Nat
  | .range => 1
  | .stopped => 2
  | .linkDown => 3
  | .held => 4
  | .quarantined => 5
  | .reserved => 6
  | .busy => 7
  | .noProgram => 8
  | .inUse => 9
  | .overlap => 10
  | .badRecord => 11
  | .queueFull => 12
  | .notJudged => 13
  | .notHeld => 14
  | .notReserved => 15
  | .notQuarantined => 16
  | .empty => 17
  | .pending => 18
  | .starting => 19
  | .unknown => 20

/-- Range codes as a downstream frame carries them: 01 LOW, 10 MID, 11 HIGH (R222). -/
def Range.code : Range → Nat
  | .low => 1
  | .mid => 2
  | .high => 3

/-- Drive ranges as a step record carries them: 1 LOW, 2 MID, 3 HIGH (R221). -/
def Range.ofCode : Nat → Option Range
  | 1 => some .low
  | 2 => some .mid
  | 3 => some .high
  | _ => none

/-- Dwell rules as a step record carries them (R221). -/
def DwellRule.ofCode : Nat → Option DwellRule
  | 1 => some .timed
  | 2 => some .settled
  | 3 => some .both
  | 4 => some .either
  | _ => none

/-- yes or no: 1 or 0. -/
def yesNo : Nat → Option Bool
  | 0 => some false
  | 1 => some true
  | _ => none

/-- The two characters of a class code (R133). -/
def UnitClass.chars : UnitClass → List Byte
  | .passA => [0x50, 0x41]
  | .passB => [0x50, 0x42]
  | .failLow => [0x46, 0x4C]
  | .failHigh => [0x46, 0x48]
  | .failThd => [0x46, 0x54]
  | .failRub => [0x46, 0x52]
  | .failUnsettled => [0x46, 0x55]
  | .retestNoise => [0x52, 0x4E]
  | .retestTimeout => [0x52, 0x54]
  | .retestLink => [0x52, 0x4C]

/-! ### Checks of links and images -/

/-- One bit of the CRC-16 of R23: generator x^16 + x^12 + x^5 + 1, most significant bit first. -/
def crc16Bit (c : BitVec 16) : BitVec 16 := if c.msb then (c <<< 1) ^^^ 0x1021 else c <<< 1

def crc16Byte (c : BitVec 16) (b : Byte) : BitVec 16 :=
  let x := c ^^^ (b.setWidth 16 <<< 8)
  crc16Bit (crc16Bit (crc16Bit (crc16Bit (crc16Bit (crc16Bit (crc16Bit (crc16Bit x)))))))

/-- The check of cells and frames (R23, R195): initial value 0xFFFF, no final inversion. -/
def crc16 (bs : List Byte) : BitVec 16 := bs.foldl crc16Byte 0xFFFF

/-- One bit of the CRC-32 of R216, least significant bit first: the register holds the generator 0x04C11DB7 bit
reversed (log 20). -/
def crc32Bit (c : Word) : Word := if c.getLsbD 0 then (c >>> 1) ^^^ 0xEDB88320 else c >>> 1

def crc32Byte (c : Word) (b : Byte) : Word :=
  let x := c ^^^ b.setWidth 32
  crc32Bit (crc32Bit (crc32Bit (crc32Bit (crc32Bit (crc32Bit (crc32Bit (crc32Bit x)))))))

/-- The recipe image's check (R216): initial value all ones, every bit inverted at the end. -/
def crc32 (bs : List Byte) : Word := ~~~ (bs.foldl crc32Byte 0xFFFFFFFF)

/-- Some bytes with their check behind them (R219, R222). -/
def withCheck (bs : List Byte) : List Byte := bs ++ toBytes 2 (crc16 bs).toNat

/-! ### Records of recipe memory (R221) -/

/-- A step record's fields as its 32 bytes hold them, nothing checked. -/
structure RawStep where
  kind : Nat
  range : Nat
  frequency : Nat
  level : Int
  dwell : Nat
  settleMs : Nat
  capMs : Nat
  tolerance : Nat
  cycles : Nat
  guarded : Nat
  limitIndex : Option Nat
  bandLow : Nat
  bandHigh : Nat
  onCycles : Nat
  offCycles : Nat
  repeats : Nat
  deriving DecidableEq, Repr

def RawStep.ofBytes (bs : List Byte) : RawStep :=
  { kind := fieldAt bs 0 1, range := fieldAt bs 1 1, frequency := fieldAt bs 2 4, level := signedAt bs 6 2,
    dwell := fieldAt bs 9 1, settleMs := fieldAt bs 10 2, capMs := fieldAt bs 12 2, tolerance := fieldAt bs 14 2,
    cycles := fieldAt bs 16 2, guarded := fieldAt bs 18 1,
    limitIndex := if fieldAt bs 19 2 = 0xFFFF then none else some (fieldAt bs 19 2),
    bandLow := fieldAt bs 21 1, bandHigh := fieldAt bs 22 1,
    onCycles := fieldAt bs 8 2, offCycles := fieldAt bs 10 2, repeats := fieldAt bs 12 2 }

/-- N = floor((2 C 9,600,000 + f) / (2 f)) (R15). -/
def windowLength (cycles frequency : Nat) : Nat := roundHalfUp (cycles * 9600000) frequency

/-- The step a record's fields describe. ACTIVATE has checked them, so the codes are codes (R14); a field that is no
code, which no ACTIVE program has, reads as the first of its list (log 27). -/
def RawStep.toStep (r : RawStep) : Step :=
  { measure := decide (r.kind = 1), frequency := r.frequency, level := r.level,
    range := (Range.ofCode r.range).getD .low, dwell := (DwellRule.ofCode r.dwell).getD .timed,
    settleMs := r.settleMs, capMs := r.capMs, tolerance := r.tolerance, cycles := r.cycles,
    window := windowLength r.cycles r.frequency, guarded := decide (r.guarded = 1), limitIndex := r.limitIndex,
    bandLow := r.bandLow, bandHigh := r.bandHigh, onCycles := r.onCycles, offCycles := r.offCycles,
    repeats := r.repeats }

/-- A limit record row's bounds. -/
def Limits.ofBytes (bs : List Byte) : Limits := ⟨boundAt bs 0, boundAt bs 2, boundAt bs 4, boundAt bs 6⟩

/-- Step record i of a program: rows first + 2 i and first + 2 i + 1 (R2). -/
def Recipe.rawStep (r : Recipe) (f : ProgramFields) (i : Nat) : RawStep :=
  RawStep.ofBytes (r.readRows (f.firstStep + 2 * i) 2)

/-- Limit record m of a program: row first + m (R2). -/
def Recipe.limits (r : Recipe) (f : ProgramFields) (m : Nat) : Limits := Limits.ofBytes (r.readRows (f.firstLimit + m) 1)

/-! ### Directory and bin entries (R221) -/

/-- The fields of a 20-byte directory entry, or the position in R5's table of the first field out of its range (R10). -/
def ProgramFields.ofBytes (bs : List Byte) : Except Nat ProgramFields :=
  let firstStep := fieldAt bs 1 2
  let stepCount := fieldAt bs 3 2
  let firstLimit := fieldAt bs 5 2
  let limitCount := fieldAt bs 7 2
  let takt := fieldAt bs 9 2
  let budget := fieldAt bs 11 1
  let capLimit := fieldAt bs 14 1
  let grade := fieldAt bs 15 2
  let gapMs := fieldAt bs 17 1
  if ¬ firstStep ≤ 4095 then .error 0
  else if ¬ (1 ≤ stepCount ∧ stepCount ≤ 256) then .error 1
  else if ¬ firstLimit ≤ 4095 then .error 2
  else if ¬ limitCount ≤ 256 then .error 3
  else if ¬ (100 ≤ takt ∧ takt ≤ 60000) then .error 4
  else if ¬ budget ≤ 15 then .error 5
  else match yesNo (fieldAt bs 12 1) with
    | none => .error 6
    | some stopOnFail => match CapturePolicy.ofCode (fieldAt bs 13 1) with
      | none => .error 7
      | some policy =>
        if ¬ capLimit ≤ 16 then .error 8
        else if ¬ grade ≤ 3000 then .error 9
        else if ¬ gapMs ≤ 50 then .error 10
        else .ok ⟨firstStep, stepCount, firstLimit, limitCount, takt, budget, stopOnFail, policy, capLimit, grade, gapMs⟩

def ProgramFields.bytes (f : ProgramFields) : List Byte :=
  toBytes 2 f.firstStep ++ toBytes 2 f.stepCount ++ toBytes 2 f.firstLimit ++ toBytes 2 f.limitCount ++
  toBytes 2 f.taktMs ++ toBytes 1 f.retryBudget ++ boolByte f.stopOnFail ++ toBytes 1 f.policy.code ++
  toBytes 1 f.captureLimit ++ toBytes 2 f.gradeMargin ++ toBytes 1 f.rangeGapMs

/-- An EMPTY entry's fields, each absent (R11). -/
def ProgramFields.absentBytes : List Byte :=
  [0xFF, 0xFF, 0xFF, 0xFF, 0xFF, 0xFF, 0xFF, 0xFF, 0xFF, 0xFF, 0xFF, 0xFF, 0xFF, 0xFF, 0x80, 0x00, 0xFF]

/-- A directory entry as READ DIRECTORY reports it: state, fields, use count and one zero byte. -/
def DirEntry.bytes (e : DirEntry) (uses : Nat) : List Byte :=
  match e with
  | .empty => [0] ++ ProgramFields.absentBytes ++ [0, 0]
  | .inactive f => [1] ++ f.bytes ++ toBytes 1 uses ++ [0]
  | .active f => [2] ++ f.bytes ++ toBytes 1 uses ++ [0]

/-- A character of a label code is printable: 0x21 to 0x7E (R19). -/
def printable (b : Byte) : Bool := decide (0x21 ≤ b.toNat) && decide (b.toNat ≤ 0x7E)

/-- A label code field without the zeros behind it (R218). -/
def labelCodeOf (bs : List Byte) : List Byte := (bs.reverse.dropWhile (fun b => decide (b = 0))).reverse

/-- What is refused RANGE in a bin entry: its bin, its label enable (R20, check 2). -/
def binFieldsBad (bs : List Byte) : Bool := decide (15 < fieldAt bs 0 1) || (yesNo (fieldAt bs 1 1)).isNone

/-- What is wrong with a bin entry's label code (R20, check 3): empty, or a character that is not printable. Eight 0x00
bytes are the empty code, so they are BAD_RECORD here (log 38). -/
def binCodeBad (bs : List Byte) : Bool :=
  let code := labelCodeOf (bytesAt bs 2 8)
  code.isEmpty || !code.all printable

def BinEntry.ofBytes (bs : List Byte) : BinEntry :=
  ⟨fieldAt bs 0 1, decide (fieldAt bs 1 1 = 1), labelCodeOf (bytesAt bs 2 8)⟩

def BinEntry.bytes (e : BinEntry) : List Byte := toBytes 1 e.bin ++ boolByte e.label ++ codeBytes e.code

/-! ### Settings carried by commands and by configuration groups -/

/-- The five guard settings as SET GUARD and the GUARD group carry them (R117, R224): eleven bytes. -/
structure GuardSettings where
  enable : Bool
  threshold : Int
  hysteresis : Int
  peak : Option Nat
  holdMs : Nat
  deriving DecidableEq, Repr

/-- Both checks of R117; `.error i` names the field at position i. -/
def GuardSettings.ofBytes (bs : List Byte) : Except Nat GuardSettings :=
  let threshold := signedAt bs 1 2
  let hysteresis := signedAt bs 3 2
  let peak := fieldAt bs 5 4
  let hold := fieldAt bs 9 2
  match yesNo (fieldAt bs 0 1) with
  | none => .error 0
  | some enable =>
    if ¬ (-14000 ≤ threshold ∧ threshold ≤ 0) then .error 1
    else if ¬ (0 ≤ hysteresis ∧ hysteresis ≤ 2000) then .error 2
    else if ¬ peak ≤ 8388607 then .error 3
    else if ¬ (1 ≤ hold ∧ hold ≤ 1000) then .error 4
    else if enable ∧ threshold - hysteresis < -14000 then .error 2
    else .ok ⟨enable, threshold, hysteresis, if peak = 0 then none else some peak, hold⟩

/-- The eight enables in one byte (R219). -/
def Enables.ofByte (b : Byte) : Enables :=
  { verdict := b.getLsbD 0, step := b.getLsbD 1, label := b.getLsbD 2, discard := b.getLsbD 3, hold := b.getLsbD 4,
    quarantine := b.getLsbD 5, link := b.getLsbD 6, guard := b.getLsbD 7 }

def Enables.code (e : Enables) : Nat :=
  e.verdict.toNat + 2 * e.step.toNat + 4 * e.label.toNat + 8 * e.discard.toNat + 16 * e.hold.toNat +
  32 * e.quarantine.toNat + 64 * e.link.toNat + 128 * e.guard.toNat

/-! ### Notices and upstream cells (R219, R220) -/

def GuardCauses.code (c : GuardCauses) : Nat :=
  c.block.toNat + 2 * c.peak.toNat + 4 * c.overload.toNat + 8 * c.holdEnd.toNat + 16 * c.disabled.toNat

def optNest (n : Option Nest) : List Byte := optByte (n.map Nest.num)

def Notice.code : Notice → Nat
  | .verdict .. => 1
  | .step .. => 2
  | .label .. => 3
  | .discard .. => 4
  | .hold .. => 5
  | .clear .. => 6
  | .quarantine .. => 7
  | .link .. => 8
  | .guard .. => 9

/-- A notice's payload fields in order (R220). A record's verdict is 0xFF when ABORTED. -/
def Notice.payload : Notice → List Byte
  | .verdict id u aborted index =>
    toBytes 1 id ++ optNest u.nest ++ toBytes 4 u.carrier.toNat ++ toBytes 1 u.program ++
    optByte (if aborted then none else u.unitClass.map UnitClass.code) ++
    optByte (if aborted then none else u.binCopy.map BinEntry.bin) ++
    optBool (if aborted then none else u.binCopy.map BinEntry.label) ++
    toBytes 2 u.stepsCompleted ++ toBytes 1 u.retriesUsed ++ optIndex (u.firstFailing.map Prod.fst) ++
    optByte (u.firstFailing.map (fun p => p.2.code)) ++ optMargin u.worstOverall ++ toBytes 4 index.toNat
  | .step r =>
    toBytes 1 r.nest.num ++ toBytes 1 r.record ++ toBytes 2 r.stepIndex ++ toBytes 4 r.frequency ++
    optIndex r.limitIndex ++ optLevel r.response ++ optLevel r.thd ++ optLevel r.hoh ++ optMargin r.responseMargin ++
    optMargin r.thdMargin ++ optMargin r.hohMargin ++ optMargin r.stepMargin ++ toBytes 1 r.outcome.code ++
    toBytes 1 r.retries
  | .label id u index =>
    toBytes 1 id ++ optNest u.nest ++ toBytes 4 u.carrier.toNat ++ optByte (u.unitClass.map UnitClass.code) ++
    optByte (u.binCopy.map BinEntry.bin) ++ codeBytes ((u.binCopy.map BinEntry.code).getD []) ++ slotByte u.slot ++
    optByte (u.labelOutcome.map LabelOutcome.code) ++ toBytes 4 index.toNat
  | .discard id u byRestart =>
    toBytes 1 id ++ optNest u.nest ++ toBytes 4 u.carrier.toNat ++ optByte (u.unitClass.map UnitClass.code) ++
    optByte (u.binCopy.map BinEntry.bin) ++ codeBytes ((u.binCopy.map BinEntry.code).getD []) ++
    toBytes 1 u.state.code ++ slotByte u.slot ++ boolByte byRestart
  | .hold n id c w pass level index =>
    toBytes 1 LineState.held.code ++ toBytes 1 n.num ++ toBytes 1 id ++ toBytes 1 c.code ++ toBytes 2 w ++
    toBytes 2 pass ++ toBytes 2 level ++ toBytes 4 index.toNat
  | .clear w pass index =>
    toBytes 1 LineState.running.code ++ toBytes 2 w ++ toBytes 2 pass ++ toBytes 4 index.toNat
  | .quarantine n id carrier c streak level index =>
    toBytes 1 n.num ++ toBytes 1 id ++ toBytes 4 carrier.toNat ++ toBytes 1 c.code ++ toBytes 2 streak ++
    toBytes 1 level ++ toBytes 4 index.toNat
  | .link st index downs => toBytes 1 st.code ++ toBytes 4 index.toNat ++ toBytes 4 downs
  | .guard loud index causes level entries =>
    boolByte loud ++ toBytes 4 index.toNat ++ toBytes 1 causes.code ++ optLevel level ++ toBytes 4 entries

/-- A cell of the line link: kind, tag or channel, payload length, payload, check (R219). -/
def cellBytes (kind tag : Byte) (payload : List Byte) : List Byte :=
  withCheck ([kind, tag] ++ toBytes 1 payload.length ++ payload)

def Reply.cell (r : Reply) : List Byte :=
  cellBytes 0x81 r.tag
    ([r.code] ++ boolByte r.reason.isSome ++ toBytes 1 ((r.reason.map Reason.code).getD 0) ++ r.data)

def Notice.cell (n : Notice) : List Byte := cellBytes 0x82 (BitVec.ofNat 8 n.code) n.payload

def paceCell (n : Nest) (p : PaceState) : List Byte := cellBytes 0x83 (BitVec.ofNat 8 n.num) (toBytes 1 p.code)

def TapCell.cell (t : TapCell) : List Byte :=
  cellBytes 0x84 (BitVec.ofNat 8 t.channel)
    (toBytes 4 t.first.toNat ++ packBits 0 0 (t.samples.map Prod.snd) ++
      t.samples.flatMap (fun p => sampleBytes p.1))

/-! ### Converter frames (R222) -/

/-- An upstream frame as received: its number, five samples and five overload flags; `none` is a bad frame (R23). -/
structure UpstreamFrame where
  number : BitVec 16
  samples : List Sample
  overloads : List Bool
  deriving DecidableEq, Repr

def UpstreamFrame.ofBytes (bs : List Byte) : Option UpstreamFrame :=
  if bs.length = 20 ∧ fieldAt bs 18 2 = (crc16 (bs.take 18)).toNat then
    some
      { number := BitVec.ofNat 16 (fieldAt bs 0 2)
        samples := [2, 5, 8, 11, 14].map (fun off => BitVec.ofNat 24 (fieldAt bs off 3))
        overloads := [0, 1, 2, 3, 4].map (fun i => (fieldAt bs 17 1).testBit i) }
  else none

/-- A downstream frame: number, four drive samples, four range codes, check. -/
def downstreamBytes (number : BitVec 16) (drives : PerNest Sample) (ranges : PerNest Range) : List Byte :=
  withCheck
    (toBytes 2 number.toNat ++ drives.toList.flatMap sampleBytes ++
      toBytes 1 (ranges.n1.code + 4 * ranges.n2.code + 16 * ranges.n3.code + 64 * ranges.n4.code))

/-! ### Label message (R146, R223) -/

/-- A number in `k` decimal digits with leading zeros. -/
def decimalDigits : (k : Nat) → Nat → List Byte
  | 0, _ => []
  | k + 1, v => decimalDigits k (v / 10) ++ [BitVec.ofNat 8 (0x30 + v % 10)]

def slotLetter : SlotId → Byte
  | .a => 0x41
  | .b => 0x42

/-- The 26 characters of a slot's label message, from the copies in the record. -/
def labelMessage (slot : SlotId) (u : UnitRecord) : List Byte :=
  let code := (u.binCopy.map BinEntry.code).getD []
  let body := [slotLetter slot] ++ (code ++ List.replicate 8 0x20).take 8 ++ decimalDigits 10 u.carrier.toNat ++
    decimalDigits 2 ((u.binCopy.map BinEntry.bin).getD 0) ++ ((u.unitClass.map UnitClass.chars).getD [0x20, 0x20])
  [0x02] ++ body ++ [body.foldl (fun a b => a ^^^ b) 0] ++ [0x03]

end Sys2Proof.Machine
end

