-- ==== Sys2Proof/Machine/Flags.lean ====
section
/-! DEFINITION. What the part reports: notices behind their enables (R202), the command unit's taking of a command and
its one reply (R200, R201), and the pace states of the stream buffers (R199). -/

namespace Sys2Proof.Machine

/-! ### Notices (R202) -/

/-- Whether a notice's enable is on. HOLD and CLEAR share one enable (R166). -/
def Enables.allow (e : Enables) : Notice → Bool
  | .verdict .. => e.verdict
  | .step .. => e.step
  | .label .. => e.label
  | .discard .. => e.discard
  | .hold .. => e.hold
  | .clear .. => e.hold
  | .quarantine .. => e.quarantine
  | .link .. => e.link
  | .guard .. => e.guard

/-- The port after an event that forms a notice: nothing when its enable is off, dropped and counted when the queue
holds 32 (R202). -/
def Port.notice (p : Port) (n : Notice) : Port :=
  if p.enables.allow n then
    if p.notices.length < 32 then { p with notices := p.notices ++ [n] }
    else { p with noticeDrops := count p.noticeDrops 1 }
  else p

def State.notice (s : State) (n : Notice) : State := { s with port := s.port.notice n }

/-! ### Stream buffers and PACE (R198, R199) -/

/-- The current pace state: the pending one where present, else the one last sent. -/
def Pace.current (p : Pace) : PaceState := p.pendingState.getD p.lastSent

/-- The pace state after its current state becomes `new`. -/
def Pace.change (p : Pace) (new : PaceState) : Pace :=
  { p with pendingState := if new = p.lastSent then none else some new }

/-- The pace rule after an append. -/
def Pace.afterAppend (p : Pace) (fill : Nat) : Pace :=
  if 1536 ≤ fill ∧ p.current = .go then p.change .stop else p

/-- The pace rule after a removal or an emptying. -/
def Pace.afterRemoval (p : Pace) (fill : Nat) : Pace :=
  if fill ≤ 512 ∧ p.current = .stop then p.change .go else p

/-- A nest's stream buffer emptied or flushed, with its pace rule (R64, R65, R198). -/
def Port.emptyStream (p : Port) (n : Nest) : Port :=
  { p with streams := p.streams.set n [], pace := p.pace.set n ((p.pace.get n).afterRemoval 0) }

/-- The next drive sample of a RESERVED nest: the oldest of its buffer, or zero and one underrun (R34, R198). -/
def Port.drainStream (p : Port) (n : Nest) : Sample × Port :=
  match p.streams.get n with
  | [] => (0, { p with streamUnderruns := p.streamUnderruns.set n (count (p.streamUnderruns.get n) 1),
                       pace := p.pace.set n ((p.pace.get n).afterRemoval 0) })
  | x :: xs => (x, { p with streams := p.streams.set n xs,
                            pace := p.pace.set n ((p.pace.get n).afterRemoval xs.length) })

/-- The 48 samples of a STREAM cell appended to a RESERVED nest's buffer: what fits is kept, each sample that does not
is counted, and the pace rule is applied once (R197). -/
def Port.appendStream (p : Port) (n : Nest) (xs : List Sample) : Port :=
  let old := p.streams.get n
  let kept := xs.take (Config.streamSize - old.length)
  let new := old ++ kept
  { p with streams := p.streams.set n new,
           streamOverruns := p.streamOverruns.set n (count (p.streamOverruns.get n) (xs.length - kept.length)),
           pace := p.pace.set n ((p.pace.get n).afterAppend new.length) }

/-! ### Taking a command (R200, R201) -/

/-- How a command's own rule answers: DONE with data, REFUSED with a reason and data, or later, when it keeps the
command unit BUSY beyond its taking. -/
inductive Answer where
  | done (data : List Byte)
  | refused (reason : Reason) (data : List Byte)
  | later
  deriving DecidableEq, Repr

/-- The codes of the command catalogue (11). -/
def catalogue : List Byte :=
  [0x10, 0x11, 0x12, 0x13, 0x14, 0x15, 0x16, 0x17, 0x20, 0x21, 0x22, 0x23, 0x24, 0x25, 0x30, 0x31, 0x32, 0x38, 0x39,
   0x40, 0x48, 0x49, 0x50, 0x51, 0x52, 0x53, 0x54, 0x55, 0x60, 0x61, 0x62, 0x63, 0x70, 0x71, 0x72, 0x73, 0x74, 0x75,
   0x76]

/-- The command cell the command unit takes next, where it can take one: IDLE, a cell waiting, fewer than 8 replies. -/
def Port.takeable (p : Port) : Option CommandCell :=
  if p.unit = .idle ∧ p.replies.length < 8 then p.commands.head? else none

/-- The state with the head command gone from the command queue. -/
def State.popCommand (s : State) : State := { s with port := { s.port with commands := s.port.commands.tail } }

/-- The state with one reply joining the reply queue. -/
def State.reply (s : State) (r : Reply) : State := { s with port := { s.port with replies := s.port.replies ++ [r] } }

/-- The reply of a command cell, whose first payload byte is echoed (R219). -/
def replyTo (cell : CommandCell) (reason : Option Reason) (data : List Byte) : Reply :=
  ⟨cell.tag, cell.payload.headD 0, reason, data⟩

/-- The reply a command's answer gives, joining the reply queue; none when the command completes later. -/
def State.answer (s : State) (cell : CommandCell) : Answer → State
  | .done data => s.reply (replyTo cell none data)
  | .refused reason data => s.reply (replyTo cell (some reason) data)
  | .later => s

/-- The checks and the effect of one taken cell, in R200's order: STARTING, then the length of the operands, then the
command's own rule `act`. -/
def carryOut (cell : CommandCell) (fits : List Byte → Bool) (act : List Byte → State → State × Answer) (s : State) :
    State :=
  if s.port.part = .starting then s.answer cell (.refused .starting [])
  else if fits cell.payload.tail then
    let r := act cell.payload.tail s
    r.1.answer cell r.2
  else s.answer cell (.refused .range [])

/-- The event "the command unit takes the command with this code": the head of the command queue, when it is such a
command and the unit can take one; otherwise the event does not happen (log 1, log 3). -/
def takeCommand (code : Byte) (fits : List Byte → Bool) (act : List Byte → State → State × Answer) (s : State) : State :=
  match s.port.takeable with
  | none => s
  | some cell => if cell.payload.head? = some code then carryOut cell fits act s.popCommand else s

/-- A command with `n` bytes of operands. -/
def operands (n : Nat) (bs : List Byte) : Bool := decide (bs.length = n)

/-- Answer a command that reads and changes nothing. -/
def answerOnly (data : List Byte) (s : State) : State × Answer := (s, .done data)

/-- Refuse a command: the state stays as it was (00, Refusals). -/
def refuse (reason : Reason) (data : List Byte) (s : State) : State × Answer := (s, .refused reason data)

end Sys2Proof.Machine
end

