-- ==== Sys2Proof/Machine/Yield.lean ====
section
/-! DEFINITION. The yield block (09): what a verdict does to it, hold, streaks and quarantine, and the meanings of READ
COUNTS, CLEAR COUNTS, RESUME LINE, ENABLE NEST, SET YIELD and READ YIELD. -/

namespace Sys2Proof.Machine

/-- PASS_A and PASS_B pass; the FAIL classes fail; the RETEST classes are neither (R133). -/
def UnitClass.windowEntry : UnitClass → Option Bool
  | .passA | .passB => some true
  | .failLow | .failHigh | .failThd | .failRub | .failUnsettled => some false
  | .retestNoise | .retestTimeout | .retestLink => none

def UnitClass.passes (c : UnitClass) : Bool := decide (c.windowEntry = some true)

/-! ### The window (R164) -/

/-- The number of PASS entries of a window. -/
def passesIn (w : List Bool) : Nat := w.countP (fun b => b)

/-- Drop the oldest entries until the window holds `w`, the pass count falling with each PASS that leaves (R164, R172). -/
def Yield.trim (y : Yield) (w : Nat) : Yield :=
  let out := y.window.take (y.window.length - w)
  { y with window := y.window.drop (y.window.length - w), passCount := y.passCount - passesIn out }

/-- One entry joins at the tail; from a full window the head leaves. -/
def Yield.join (y : Yield) (pass : Bool) : Yield :=
  ({ y with window := y.window ++ [pass], passCount := y.passCount + pass.toNat } : Yield).trim y.windowLength

/-- The window after a verdict of a class: a retest adds no entry (R164). -/
def Yield.takeVerdict (y : Yield) (c : UnitClass) : Yield :=
  match c.windowEntry with
  | none => y
  | some pass => y.join pass

/-- Whether the hold's three conditions hold (R165). -/
def Yield.holds (y : Yield) : Bool :=
  decide (0 < y.holdLevel) && decide (y.windowLength ≤ y.window.length) && decide (y.passCount < y.holdLevel)

/-! ### A verdict with a class (R163) -/

/-- Step 1: the nest's judged and passed counters. -/
def Counts.judge (k : Counts) (n : Nest) (c : UnitClass) : Counts :=
  { k with judged := k.judged.set n (count (k.judged.get n) 1),
           passed := if c.passes then k.passed.set n (count (k.passed.get n) 1) else k.passed }

/-- Step 3: the hold is evaluated; a RUNNING line becomes HELD with a HOLD notice (R165, R166). -/
def State.evaluateHold (s : State) (n : Nest) (id : Nat) (c : UnitClass) : State :=
  if s.yield.holds ∧ s.yield.line = .running then
    ({ s with yield := { s.yield with line := .held } } : State).notice
      (.hold n id c s.yield.windowLength s.yield.passCount s.yield.holdLevel s.link.frameIndex)
  else s

/-- Step 4: the streak (R169). -/
def Yield.takeStreak (y : Yield) (n : Nest) (c : UnitClass) : Yield :=
  { y with streak := y.streak.set n (if c.passes then 0 else min (y.streak.get n + 1) 65535) }

/-- Step 5: quarantine is evaluated at a FAIL or RETEST verdict (R170). -/
def State.evaluateQuarantine (s : State) (n : Nest) (id : Nat) (carrier : Word) (c : UnitClass) : State :=
  if c.passes = false ∧ 0 < s.yield.quarantineLevel ∧ s.yield.quarantineLevel ≤ s.yield.streak.get n ∧
      s.yield.admission.get n = .enabled then
    ({ s with yield := { s.yield with admission := s.yield.admission.set n .quarantined } } : State).notice
      (.quarantine n id carrier c (s.yield.streak.get n) s.yield.quarantineLevel s.link.frameIndex)
  else s

/-- What a verdict with a class does here, in R163's order. -/
def State.yieldVerdict (s : State) (n : Nest) (id : Nat) (carrier : Word) (c : UnitClass) : State :=
  let s1 : State :=
    { s with yield := ({ s.yield with counts := s.yield.counts.judge n c } : Yield).takeVerdict c }
  let s2 := s1.evaluateHold n id c
  let s3 : State := { s2 with yield := s2.yield.takeStreak n c }
  s3.evaluateQuarantine n id carrier c

/-! ### Counted events (R160, R161) -/

def Counts.retire (k : Counts) (bin : Nat) (o : LabelOutcome) : Counts :=
  { k with retired := count k.retired 1
           bins := k.bins.set bin (count (k.bins.getD bin 0) 1)
           applied := if o = .applied then count k.applied 1 else k.applied
           rejected := if o = .rejected then count k.rejected 1 else k.rejected
           noAck := if o = .noAck then count k.noAck 1 else k.noAck
           notLabelled := if o = .notLabelled then count k.notLabelled 1 else k.notLabelled }

def State.withCounts (s : State) (f : Counts → Counts) : State :=
  { s with yield := { s.yield with counts := f s.yield.counts } }

def State.countAborted (s : State) : State := s.withCounts (fun k => { k with aborted := count k.aborted 1 })

def State.countDiscarded (s : State) : State := s.withCounts (fun k => { k with discarded := count k.discarded 1 })

/-! ### Commands -/

/-- The 33 counters in READ COUNTS' order (R174). -/
def countsBytes (k : Counts) (m : Marking) : List Byte :=
  ([k.retired] ++ k.bins ++ [k.applied, k.rejected, k.noAck, k.notLabelled] ++ k.judged.toList ++ k.passed.toList ++
    [k.aborted, k.discarded, m.charErrors, m.strayAcks]).flatMap (toBytes 4)

def actReadCounts (_ : List Byte) (s : State) : State × Answer :=
  answerOnly (countsBytes s.yield.counts s.marking) s

/-- CLEAR COUNTS (R175): all 33 counters, two of which the marking port holds. -/
def actClearCounts (_ : List Byte) (s : State) : State × Answer :=
  ({ s with yield := { s.yield with counts := .zero }, marking := { s.marking with charErrors := 0, strayAcks := 0 } },
    .done [])

/-- RESUME LINE (R167). -/
def actResumeLine (_ : List Byte) (s : State) : State × Answer :=
  if s.yield.line = .running then refuse .notHeld [] s
  else
    (({ s with yield := { s.yield with line := .running, window := [], passCount := 0 } } : State).notice
      (.clear s.yield.window.length s.yield.passCount s.link.frameIndex), .done [])

/-- ENABLE NEST (R171). -/
def actEnableNest (bs : List Byte) (s : State) : State × Answer :=
  match Nest.ofNum (fieldAt bs 0 1) with
  | none => refuse .range [] s
  | some n =>
    if s.yield.admission.get n = .enabled then refuse .notQuarantined [] s
    else
      ({ s with yield := { s.yield with streak := s.yield.streak.set n 0,
                                        admission := s.yield.admission.set n .enabled } }, .done [])

/-- Check 1 of R172: the position of the first of W, L, Q out of its range. A Q byte of 0xFF is the absent marker of a
field that may not be absent, which R218 refuses RANGE, so 255 cannot be sent (log 38). -/
def yieldFieldBad (w l q : Nat) : Option Nat :=
  if ¬ (16 ≤ w ∧ w ≤ 1024) then some 0 else if ¬ l ≤ w then some 1 else if 255 ≤ q then some 2 else none

/-- The settings replaced (R172); trimming is the command's own. -/
def Yield.withSettings (y : Yield) (w l q : Nat) : Yield :=
  { y with windowLength := w, holdLevel := l, quarantineLevel := q }

/-- SET YIELD (R172). -/
def actSetYield (bs : List Byte) (s : State) : State × Answer :=
  let w := fieldAt bs 0 2
  let l := fieldAt bs 2 2
  let q := fieldAt bs 4 1
  match yieldFieldBad w l q with
  | some i => refuse .range (toBytes 1 i) s
  | none =>
    if s.yield.line = .held then refuse .held [] s
    else ({ s with yield := (s.yield.withSettings w l q).trim w }, .done [])

/-- READ YIELD's data in R176's order. -/
def yieldBytes (y : Yield) : List Byte :=
  toBytes 2 y.windowLength ++ toBytes 2 y.holdLevel ++ toBytes 1 y.quarantineLevel ++ toBytes 1 y.line.code ++
  toBytes 2 y.window.length ++ toBytes 2 y.passCount ++ packBits 0 0 y.window ++
  Nest.order.flatMap (fun n => toBytes 2 (y.streak.get n) ++ toBytes 1 (y.admission.get n).code)

def actReadYield (_ : List Byte) (s : State) : State × Answer := answerOnly (yieldBytes s.yield) s

def execReadCounts (s : State) : Host.Outcome State Fault Refusal := .next (takeCommand 0x50 (operands 0) actReadCounts s)

def execClearCounts (s : State) : Host.Outcome State Fault Refusal :=
  .next (takeCommand 0x51 (operands 0) actClearCounts s)

def execResumeLine (s : State) : Host.Outcome State Fault Refusal := .next (takeCommand 0x52 (operands 0) actResumeLine s)

def execEnableNest (s : State) : Host.Outcome State Fault Refusal := .next (takeCommand 0x53 (operands 1) actEnableNest s)

def execSetYield (s : State) : Host.Outcome State Fault Refusal := .next (takeCommand 0x54 (operands 5) actSetYield s)

def execReadYield (s : State) : Host.Outcome State Fault Refusal := .next (takeCommand 0x55 (operands 0) actReadYield s)

end Sys2Proof.Machine
end

