-- ==== Sys2Proof/Machine/Records.lean ====
section
/-! DEFINITION. Unit records and verdicts (07): opening, folding, classing, the verdict with a class, ABORTED, discard
and retirement of a record, and the meaning of READ UNIT. -/

namespace Sys2Proof.Machine

/-- The lowest-numbered FREE record (R126). -/
def State.lowestFree (s : State) : Option Nat := s.records.findIdx? (fun r => decide (r.state = .free))

/-- The record an ARRIVE opens (R129). -/
def UnitRecord.opened (n : Nest) (carrier : Word) (program : Nat) (arrival : Word) : UnitRecord :=
  { UnitRecord.free with state := .running, nest := some n, carrier := carrier, program := program, arrival := arrival }

/-! ### Folding (R130, R131) -/

/-- The first failing step and cause after one more result. -/
def UnitRecord.noteFailure (u : UnitRecord) (r : StepResult) : Option (Nat × StepOutcome) :=
  match u.firstFailing with
  | some f => some f
  | none => if r.outcome = .pass then none else some (r.stepIndex, r.outcome)

/-- A step result folded into its record. An UNSETTLED result has no margins, so it changes no margin field (R131). -/
def UnitRecord.fold (u : UnitRecord) (r : StepResult) : UnitRecord :=
  { u with stepsCompleted := u.stepsCompleted + 1
           retriesUsed := r.retries
           worstResponse := minPresent u.worstResponse r.responseMargin
           worstThd := minPresent u.worstThd r.thdMargin
           worstHoh := minPresent u.worstHoh r.hohMargin
           worstOverall := minPresent u.worstOverall r.stepMargin
           firstFailing := u.noteFailure r }

/-- A step result folded into the RUNNING record and sent as a STEP notice, in that order (R105). -/
def State.foldResult (s : State) (r : StepResult) : State :=
  (s.setRecord r.record ((s.record r.record).fold r)).notice (.step r)

/-- The end of a CONDITION step: steps completed rises by one (R131). -/
def State.foldCondition (s : State) (n : Nest) : State :=
  match (s.nest n).record with
  | none => s
  | some id => s.setRecord id { s.record id with stepsCompleted := (s.record id).stepsCompleted + 1 }

/-! ### The class (R134, R135) -/

/-- The class of a first failing cause. -/
def StepOutcome.failClass : StepOutcome → UnitClass
  | .pass => .passA
  | .unsettled => .failUnsettled
  | .overload => .failHigh
  | .noResponse => .failLow
  | .rub => .failRub
  | .thd => .failThd
  | .low => .failLow
  | .high => .failHigh

/-- The class that the record gives when the sequencer names none. -/
def UnitRecord.ownClass (u : UnitRecord) (gradeMargin : Nat) : UnitClass :=
  match u.firstFailing with
  | some (_, cause) => cause.failClass
  | none =>
    match u.worstOverall with
    | none => .passA
    | some m => if m < (gradeMargin : Int) then .passB else .passA

/-! ### Verdicts (R136, R138) -/

/-- The record at a verdict with a class: steps 1 to 3 of R136. -/
def UnitRecord.judge (u : UnitRecord) (retries : Nat) (c : UnitClass) (bin : Option BinEntry) : UnitRecord :=
  { u with state := .judged, retriesUsed := retries, unitClass := some c, binCopy := bin }

/-- The record table at a verdict with a class, and then the yield block (R136). `named` is the class the sequencer
names, if any. -/
def State.recordVerdict (s : State) (n : Nest) (named : Option UnitClass) : State :=
  match (s.nest n).record with
  | none => s
  | some id =>
    let u := s.record id
    let c := named.getD (u.ownClass (s.nest n).settings.gradeMargin)
    let u' := u.judge (s.nest n).retries c (s.recipe.bins[c.code]?)
    let s1 := (s.setRecord id u').notice (.verdict id u' false s.link.frameIndex)
    s1.yieldVerdict n id u.carrier c

/-- The record table at a verdict of ABORTED (R138). -/
def State.recordAborted (s : State) (n : Nest) : State :=
  match (s.nest n).record with
  | none => s
  | some id =>
    let u : UnitRecord := { s.record id with retriesUsed := (s.nest n).retries }
    (((s.setRecord id u).notice (.verdict id u true s.link.frameIndex)).countAborted).setRecord id .free

/-! ### Leaving the table (R140, R153, R154) -/

/-- A record discarded: DISCARD notice, discarded counter, record freed, in that order (R140). -/
def State.discard (s : State) (id : Nat) (byRestart : Bool) : State :=
  ((s.notice (.discard id (s.record id) byRestart)).countDiscarded).setRecord id .free

/-- A record retired with a label outcome: steps 1 to 4 of R153. -/
def State.retire (s : State) (id : Nat) (o : LabelOutcome) : State :=
  let u : UnitRecord := { s.record id with labelOutcome := some o }
  let s1 := (s.setRecord id u).withCounts (fun k => k.retire ((u.binCopy.map BinEntry.bin).getD 0) o)
  (s1.notice (.label id u s.link.frameIndex)).setRecord id .free

/-! ### READ UNIT (R141) -/

/-- The record's state and every field of R128, in its order. -/
def unitBytes (id : Nat) (u : UnitRecord) : List Byte :=
  toBytes 1 u.state.code ++ toBytes 1 id ++ optNest u.nest ++ toBytes 4 u.carrier.toNat ++ toBytes 1 u.program ++
  toBytes 4 u.arrival.toNat ++ toBytes 1 u.retriesUsed ++ toBytes 2 u.stepsCompleted ++
  optIndex (u.firstFailing.map Prod.fst) ++ optByte (u.firstFailing.map (fun p => p.2.code)) ++
  optMargin u.worstResponse ++ optMargin u.worstThd ++ optMargin u.worstHoh ++ optMargin u.worstOverall ++
  optByte (u.unitClass.map UnitClass.code) ++ optByte (u.binCopy.map BinEntry.bin) ++
  optBool (u.binCopy.map BinEntry.label) ++ codeBytes ((u.binCopy.map BinEntry.code).getD []) ++
  toBytes 1 u.capturesCommitted ++ toBytes 2 u.capturesSkipped ++ slotByte u.slot ++
  optByte (u.labelOutcome.map LabelOutcome.code)

def actReadUnit (bs : List Byte) (s : State) : State × Answer :=
  let id := fieldAt bs 0 1
  if 13 < id then refuse .range [] s
  else if (s.record id).state = .free then refuse .empty [] s
  else answerOnly (unitBytes id (s.record id)) s

def execReadUnit (s : State) : Host.Outcome State Fault Refusal := .next (takeCommand 0x40 (operands 1) actReadUnit s)

end Sys2Proof.Machine
end

