-- ==== Sys2Proof/Machine/Capture.lean ====
section
/-! DEFINITION. The capture ring (10): reservation, sample writes, commit, void, reclamation and release, and the meanings
of CAPTURE HEAD, CAPTURE READ, CAPTURE DROP and READ CAPTURE. -/

namespace Sys2Proof.Machine

/-- Words a record of window length N takes: header and body (R178). -/
def CaptureRecord.size (r : CaptureRecord) : Nat := r.length + 4

def Capture.freeWords (c : Capture) : Nat := Config.ringSize - c.occupied

/-- Ring word `i` of a record, the ring order wrapping from the last word to the first (R178). -/
def CaptureRecord.word (r : CaptureRecord) (i : Nat) : Nat := (r.start + i) % Config.ringSize

def Capture.readWord (c : Capture) (r : CaptureRecord) (i : Nat) : Word := Memory.read 0 c.words (r.word i)

def Capture.writeWord (c : Capture) (r : CaptureRecord) (i : Nat) (w : Word) : Capture :=
  { c with words := Memory.write 0 (r.word i) w c.words }

/-! ### The header (R179, R223) -/

/-- Word 3 of a header: the cause in its most significant byte, 0xFF while absent, and N below. -/
def causeWord (cause : Option StepOutcome) (n : Nat) : Word :=
  BitVec.ofNat 32 (((cause.map StepOutcome.code).getD 0xFF) * 2 ^ 24 + n % 2 ^ 24)

def Capture.writeHeader (c : Capture) (r : CaptureRecord) (carrier : Word) (stepIndex frequency : Nat) : Capture :=
  (((c.writeWord r 0 carrier).writeWord r 1 (BitVec.ofNat 32 (r.owner.num * 2 ^ 24 + stepIndex * 2 ^ 16))).writeWord r 2
    (BitVec.ofNat 32 frequency)).writeWord r 3 (causeWord none r.length)

/-! ### Reclamation (R186) -/

def CaptureRecord.isVoid (r : CaptureRecord) : Bool := decide (r.state = .void)

/-- VOID records leave the head and their words are freed. -/
def Capture.reclaim (c : Capture) : Capture :=
  let gone := c.records.takeWhile CaptureRecord.isVoid
  { c with records := c.records.dropWhile CaptureRecord.isVoid
           occupied := c.occupied - (gone.map CaptureRecord.size).sum }

/-! ### Reservation (R181, R182) -/

/-- A record reserved for a nest's window: it joins at the tail in PROVISIONAL. -/
def Capture.reserve (c : Capture) (n : Nest) (carrier : Word) (stepIndex : Nat) (st : Step) (first : Word) : Capture :=
  let r : CaptureRecord :=
    { state := .provisional, owner := n, start := c.nextStart, length := st.window, first := first, fill := 0, cursor := 0 }
  let c1 := c.writeHeader r carrier stepIndex st.frequency
  { c1 with records := c1.records ++ [r], occupied := c1.occupied + r.size, mark := c1.mark.set n (some r.start)
            nextStart := (r.start + r.size) % Config.ringSize }

/-- A nest's window asks for a reservation: the cases of R181 in order. A unit has no PROVISIONAL record when its nest
enters WINDOW. -/
def State.reserveCapture (s : State) (n : Nest) : State :=
  match (s.nest n).record, (s.nest n).step with
  | some id, some st =>
    let u := s.record id
    if (s.nest n).settings.policy = .off then s
    else if (s.nest n).settings.captureLimit ≤ u.capturesCommitted then s
    else
      let c := s.capture.reclaim
      if c.freeWords < st.window + 4 then
        ({ s with capture := c } : State).setRecord id { u with capturesSkipped := min (u.capturesSkipped + 1) 65535 }
      else { s with capture := c.reserve n u.carrier (s.nest n).stepIndex st (s.link.frameIndex + 1) }
  | _, _ => s

/-! ### Filling, commit and void (R183 to R185) -/

/-- The record a nest's provisional mark names. -/
def Capture.provisional (c : Capture) (n : Nest) : Option CaptureRecord :=
  match c.mark.get n with
  | none => none
  | some a => c.records.find? (fun r => decide (r.state = .provisional) && decide (r.start = a) && decide (r.owner = n))

/-- The record a nest's provisional mark names, replaced by `f` of it. -/
def Capture.change (c : Capture) (n : Nest) (f : CaptureRecord → CaptureRecord) : Capture :=
  match c.mark.get n with
  | none => c
  | some a =>
    { c with records := c.records.map (fun r =>
        if r.state = .provisional ∧ r.start = a ∧ r.owner = n then f r else r) }

/-- A window frame's sample, sign-extended, in the next body word (R183). -/
def Capture.writeSample (c : Capture) (n : Nest) (x : Sample) : Capture :=
  match c.provisional n with
  | none => c
  | some r => (c.writeWord r (4 + r.fill) (x.signExtend 32)).change n (fun r => { r with fill := r.fill + 1 })

def State.captureSample (s : State) (n : Nest) (x : Sample) : State := { s with capture := s.capture.writeSample n x }

/-- The record becomes VOID and the mark absent (R185). -/
def Capture.voidRecord (c : Capture) (n : Nest) : Capture :=
  let c1 := c.change n (fun r => { r with state := .void })
  { c1 with mark := c1.mark.set n none }

def State.voidCapture (s : State) (n : Nest) : State := { s with capture := s.capture.voidRecord n }

/-- The record becomes COMMITTED with its cause, and the mark absent (R184). -/
def Capture.commitRecord (c : Capture) (n : Nest) (outcome : StepOutcome) : Capture :=
  match c.provisional n with
  | none => c
  | some r =>
    let c1 := (c.writeWord r 3 (causeWord (some outcome) r.length)).change n (fun r => { r with state := .committed })
    { c1 with mark := c1.mark.set n none }

/-- At an evaluation completion the provisional record is committed or voided (R184). -/
def State.decideCapture (s : State) (n : Nest) (outcome : StepOutcome) : State :=
  match s.capture.provisional n, (s.nest n).record with
  | some _, some id =>
    if (s.nest n).settings.policy = .all ∨ ((s.nest n).settings.policy = .failed ∧ outcome ≠ .pass) then
      ({ s with capture := s.capture.commitRecord n outcome } : State).setRecord id
        { s.record id with capturesCommitted := (s.record id).capturesCommitted + 1 }
    else s.voidCapture n
  | _, _ => s

/-! ### Reading out (R187 to R192) -/

/-- The first record that is not VOID, counted from the head. -/
def Capture.firstLive (c : Capture) : Option CaptureRecord := c.records.find? (fun r => !r.isVoid)

/-- A COMMITTED head record leaves the ring and its words are freed (R190). -/
def Capture.releaseHead (c : Capture) : Capture :=
  match c.records with
  | [] => c
  | r :: rest => { c with records := rest, occupied := c.occupied - r.size }

/-- The three steps by which a command finds its record, after its operands are checked (R187): `act` is given the
COMMITTED head and the state with the VOID records before it reclaimed. -/
def State.withHead (s : State) (act : CaptureRecord → State → State × Answer) : State × Answer :=
  match s.capture.firstLive with
  | none => refuse .empty [] s
  | some r =>
    match r.state with
    | .provisional => refuse .pending [] s
    | .committed => act r { s with capture := s.capture.reclaim }
    | .void => refuse .empty [] s

/-- The header fields read back from the ring words (R179): carrier number, nest, step index, frequency, N, cause. -/
def Capture.headerBytes (c : Capture) (r : CaptureRecord) : List Byte :=
  let w1 := (c.readWord r 1).toNat
  let w3 := (c.readWord r 3).toNat
  toBytes 4 (c.readWord r 0).toNat ++ toBytes 1 (w1 / 2 ^ 24) ++ toBytes 2 (w1 / 2 ^ 16 % 256) ++
  toBytes 4 (c.readWord r 2).toNat ++ toBytes 4 (w3 % 2 ^ 24) ++ toBytes 1 (w3 / 2 ^ 24)

/-- CAPTURE HEAD (R188): header fields, first frame index, N, read cursor, records behind the head (log 30). -/
def actCaptureHead (_ : List Byte) (s : State) : State × Answer :=
  s.withHead fun r s' =>
    answerOnly (s'.capture.headerBytes r ++ toBytes 4 r.first.toNat ++ toBytes 4 r.length ++ toBytes 4 r.cursor ++
      toBytes 2 (s'.capture.records.length - 1)) s'

/-- The head record with its cursor moved. -/
def Capture.setHeadCursor (c : Capture) (k : Nat) : Capture :=
  match c.records with
  | [] => c
  | r :: rest => { c with records := { r with cursor := k } :: rest }

/-- `k` body words of a record from its cursor on. -/
def Capture.bodyWords (c : Capture) (r : CaptureRecord) (k : Nat) : List Word :=
  (List.range k).map (fun j => c.readWord r (4 + r.cursor + j))

/-- CAPTURE READ (R189): first frame index, cursor, words, and whether the record was released. Mode 0 is ADVANCE and 1
is PEEK. -/
def actCaptureRead (bs : List Byte) (s : State) : State × Answer :=
  let k := fieldAt bs 0 1
  let mode := fieldAt bs 1 1
  if ¬ (1 ≤ k ∧ k ≤ 56) then refuse .range [] s
  else if 1 < mode then refuse .range [] s
  else
    s.withHead fun r s' =>
      let returned := min k (r.length - r.cursor)
      let words := s'.capture.bodyWords r returned
      let released := decide (mode = 0) && decide (r.cursor + returned = r.length)
      let data := toBytes 4 r.first.toNat ++ toBytes 4 r.cursor ++ listBytes (fun w => toBytes 4 w.toNat) words ++
        boolByte released
      if mode = 1 then answerOnly data s'
      else if released then ({ s' with capture := s'.capture.releaseHead }, .done data)
      else ({ s' with capture := s'.capture.setHeadCursor (r.cursor + returned) }, .done data)

/-- CAPTURE DROP (R191): carrier number, nest, step index and the body words not read. -/
def actCaptureDrop (_ : List Byte) (s : State) : State × Answer :=
  s.withHead fun r s' =>
    ({ s' with capture := s'.capture.releaseHead }, .done ((s'.capture.headerBytes r).take 7 ++ toBytes 4 (r.length - r.cursor)))

/-- READ CAPTURE's data in R192's order. The head's state is 0xFF when the ring is EMPTY (log 12). -/
def captureBytes (c : Capture) : List Byte :=
  toBytes 4 c.occupied ++ toBytes 4 c.freeWords ++
  toBytes 2 (c.records.countP (fun r => decide (r.state = .provisional))) ++
  toBytes 2 (c.records.countP (fun r => decide (r.state = .committed))) ++
  toBytes 2 (c.records.countP CaptureRecord.isVoid) ++
  optByte (c.records.head?.map (fun r => r.state.code)) ++
  Nest.order.flatMap (fun n =>
    match c.provisional n with
    | none => [0]
    | some r => [1] ++ toBytes 4 r.fill ++ toBytes 4 r.length)

def actReadCapture (_ : List Byte) (s : State) : State × Answer := answerOnly (captureBytes s.capture) s

/-- The ring emptied at a RESTART (R194): every record leaves, whatever its state. -/
def Capture.emptied (c : Capture) : Capture := { c with records := [], occupied := 0, mark := .all none }

def execCaptureHead (s : State) : Host.Outcome State Fault Refusal :=
  .next (takeCommand 0x60 (operands 0) actCaptureHead s)

def execCaptureRead (s : State) : Host.Outcome State Fault Refusal :=
  .next (takeCommand 0x61 (operands 2) actCaptureRead s)

def execCaptureDrop (s : State) : Host.Outcome State Fault Refusal :=
  .next (takeCommand 0x62 (operands 0) actCaptureDrop s)

def execReadCapture (s : State) : Host.Outcome State Fault Refusal :=
  .next (takeCommand 0x63 (operands 0) actReadCapture s)

end Sys2Proof.Machine
end

