-- ==== Sys2Proof/Machine/Levels.lean ====
section
/-! DEFINITION. Levels, amplitudes and the sine table, computed exactly with integers: the log converter of R95 to R98
and R107, the amplitude of R71, the increment of R69, the table of R70. -/

namespace Sys2Proof.Machine

/-- The largest value of `lo` to `lo + span` at which a falling test holds, or `lo` when it holds at none, by halving. -/
def largestFrom (test : Int → Bool) : (fuel : Nat) → (lo hi : Int) → Int
  | 0, lo, _ => lo
  | fuel + 1, lo, hi =>
    if hi ≤ lo then lo
    else
      let mid := (lo + hi + 1) / 2
      if test mid then largestFrom test fuel mid hi else largestFrom test fuel lo (mid - 1)

/-- Whether 1,000 log10(p / q) is at least r - 1/2, in integers: p^2000 is at least 10^(2 r - 1) q^2000. -/
def levelAtLeast (p q : Nat) (r : Int) : Bool :=
  let e := 2 * r - 1
  if 0 ≤ e then decide (10 ^ e.toNat * q ^ 2000 ≤ p ^ 2000) else decide (q ^ 2000 ≤ p ^ 2000 * 10 ^ (-e).toNat)

/-- round(1,000 log10(p / q)) clamped to [lo, hi], and `lo` when p is zero. 1,000 log10 of a fraction never has a
fraction of exactly one half, so half up and half away from zero give the same integer (log 19). -/
def levelOf (p q : Nat) (lo hi : Int) : Int := if p = 0 then lo else largestFrom (levelAtLeast p q) 16 lo hi

/-- Whether 8,388,607 x 10^(D / 2,000) is at least a - 1/2, for D at most 0. -/
def amplitudeAtLeast (d a : Int) : Bool :=
  decide ((2 * a - 1).toNat ^ 2000 * 10 ^ (-d).toNat ≤ (2 * Config.fullScale) ^ 2000)

/-- The amplitude of a drive level in cdB dBFS: round(8,388,607 x 10^(D / 2,000)), half up (R71). -/
def amplitudeOf (d : Int) : Nat := (largestFrom (amplitudeAtLeast d) 24 0 Config.fullScale).toNat

/-- The phase increment of a frequency in cHz: round(f 2^32 / 9,600,000), half up (R69). -/
def incrementOf (f : Nat) : Word := BitVec.ofNat 32 (roundHalfUp (f * 2 ^ 32) 9600000)

/-- The level of a 240-frame block with a given sum of squares (R107, R112). -/
def blockLevel (sum : Nat) : Int := levelOf sum (Config.blockFrames * Config.fullScale ^ 2) (-14000) 0

/-! ### The sine table (R70)

Entries of the first quarter are computed in fixed point with 80 fraction bits from the series of the sine; the error
is far below the distance of every entry from a half (log 18). -/

/-- pi x 2^80, rounded down. -/
def piFixed : Nat := 3797952473636338580787993

/-- The series' remaining terms: `term` is x^k / k! and `x2` is x^2, both times 2^80; signs alternate. -/
def sineSeries : (fuel k : Nat) → (term x2 : Nat) → (positive : Bool) → Int → Int
  | 0, _, _, _, _, acc => acc
  | fuel + 1, k, term, x2, positive, acc =>
    let next := term * x2 / 2 ^ 80 / ((k + 1) * (k + 2))
    sineSeries fuel (k + 2) next x2 (!positive) (if positive then acc + next else acc - next)

/-- round(32,767 sin(2 pi j / 16,384)) for j from 0 to 4,096. -/
def quarterSine (j : Nat) : Int :=
  let x := piFixed * j / 8192
  (2 * 32767 * sineSeries 14 1 x (x * x / 2 ^ 80) false x + 2 ^ 80) / 2 ^ 81

/-- Entry i of the sine table (R70). -/
def sineEntry (i : Nat) : Int :=
  let j := i % 4096
  match i / 4096 % 4 with
  | 0 => quarterSine j
  | 1 => quarterSine (4096 - j)
  | 2 => -quarterSine j
  | _ => -quarterSine (4096 - j)

/-- The table index of a phase: its top 14 bits. -/
def tableIndex (phase : Word) : Nat := phase.toNat / 2 ^ 18

end Sys2Proof.Machine
end

