-- ==== Sys2Proof/Machine/Analyser.lean ====
section
/-! DEFINITION. The harmonic analyser (05): the lane pool and plans, correlation, evaluation, judging a step, the settle
detector, and the meanings of SET CALIBRATION, READ CALIBRATION and READ LANES. -/

namespace Sys2Proof.Machine

/-! ### The lane pool (R84) -/

def laneOf (n : Nest) (l : Option Assignment) : Bool := l.any (fun x => decide (x.nest = n))

def Analyser.freeLanes (a : Analyser) : Nat := a.lanes.countP Option.isNone

def Analyser.lanesOf (a : Analyser) (n : Nest) : Nat := a.lanes.countP (laneOf n)

/-- The assignments of a nest's lanes. -/
def Analyser.assigned (a : Analyser) (n : Nest) : List Assignment := (a.lanes.filter (laneOf n)).filterMap id

/-- A plan's harmonics put on the first FREE lanes, HELD (R88). -/
def assignLanes (n : Nest) : List (Nat × LaneRole) → List (Option Assignment) → List (Option Assignment)
  | [], ls => ls
  | _ :: _, [] => []
  | p :: ps, some x :: ls => some x :: assignLanes n (p :: ps) ls
  | p :: ps, none :: ls => some ⟨n, .held, p.1, p.2, 0, 0⟩ :: assignLanes n ps ls

/-- `f` done to every lane of a nest. -/
def Analyser.mapLanes (a : Analyser) (n : Nest) (f : Assignment → Assignment) : Analyser :=
  { a with lanes := a.lanes.map (fun l => if laneOf n l then l.map f else l) }

def Analyser.setOverload (a : Analyser) (n : Nest) (b : Bool) : Analyser := { a with overload := a.overload.set n b }

def Analyser.setEvaluation (a : Analyser) (n : Nest) (e : Option Nat) : Analyser :=
  { a with evaluation := a.evaluation.set n e }

/-- Every lane of the nest FREE, its overload mark no, and no evaluation in flight (R54, R90). -/
def Analyser.release (a : Analyser) (n : Nest) : Analyser :=
  (({ a with lanes := a.lanes.map (fun l => if laneOf n l then none else l) } : Analyser).setOverload n false).setEvaluation
    n none

/-- The nest's entry to WINDOW: its lanes ACCUMULATING with both sums zero, the mark no (R92, R93). -/
def Analyser.startWindow (a : Analyser) (n : Nest) : Analyser :=
  (a.mapLanes n (fun x => { x with phase := .accumulating, sumI := 0, sumQ := 0 })).setOverload n false

/-- A nest sent back to GUARD_WAIT: its lanes are HELD and their sums unused (R121). -/
def Analyser.hold (a : Analyser) (n : Nest) : Analyser :=
  a.mapLanes n (fun x => { x with phase := .held, sumI := 0, sumQ := 0 })

/-- The window's N-th frame: the lanes EVALUATING and the evaluation in flight (R94). -/
def Analyser.startEvaluation (a : Analyser) (n : Nest) : Analyser :=
  (a.mapLanes n (fun x => { x with phase := .evaluating })).setEvaluation n (some 0)

/-! ### Sizing a request (R85, R86) -/

/-- The harmonics from `lo` to `hi` that the band cut keeps at frequency `f`. -/
def keptHarmonics (f lo hi : Nat) : List Nat :=
  (List.range' lo (hi + 1 - lo)).filter (fun k => decide (k * f ≤ 4320000))

/-- The lane plan of a MEASURE step. -/
def lanePlan (st : Step) (lim : Limits) : List (Nat × LaneRole) :=
  [(1, .fundamental)] ++
  (if lim.thd.isSome then (keptHarmonics st.frequency 2 5).map (fun k => (k, .thd)) else []) ++
  (if lim.hoh.isSome then (keptHarmonics st.frequency st.bandLow st.bandHigh).map (fun k => (k, .hoh)) else [])

/-! ### Correlation (R92, R93) -/

/-- The reference index of harmonic k at a phase. -/
def referenceIndex (k : Nat) (phase : Word) : Nat := (k * phase.toNat) % 2 ^ 32 / 2 ^ 18

/-- One window frame added to a lane's sums. -/
def Assignment.add (l : Assignment) (x : Sample) (phase : Word) : Assignment :=
  let i := referenceIndex l.harmonic phase
  { l with sumI := l.sumI + BitVec.ofInt 64 (x.toInt * sineEntry ((i + 4096) % 16384))
           sumQ := l.sumQ + BitVec.ofInt 64 (x.toInt * sineEntry i) }

/-- One window frame for a nest's lanes and its overload mark. -/
def Analyser.windowFrame (a : Analyser) (n : Nest) (x : Sample) (phase : Word) (overload : Bool) : Analyser :=
  (a.mapLanes n (fun l => l.add x phase)).setOverload n (a.overload.get n || overload)

/-! ### Levels (R95 to R99) -/

/-- P_k = I_k^2 + Q_k^2. -/
def Assignment.power (l : Assignment) : Nat := l.sumI.toInt.natAbs ^ 2 + l.sumQ.toInt.natAbs ^ 2

/-- The summed power of some lanes in one role. -/
def rolePower (ls : List Assignment) (r : LaneRole) : Nat :=
  ((ls.filter (fun l => decide (l.role = r))).map Assignment.power).sum

/-- L1: the raw level clamped, the offset added, the sum clamped (R96, R97). The square of a_1 is 4 P_1 over the square
of N x 32,767 x 8,388,607. -/
def responseLevel (p1 n : Nat) (cal : Int) : Int :=
  clamp (-20000) 20000 (levelOf (4 * p1) ((n * 32767 * Config.fullScale) ^ 2) (-14000) 600 + cal)

/-- THD or HOH: absent when the plan holds no lane of the role, +3,000 when P_1 is zero (R98, R99). -/
def ratioLevel (ls : List Assignment) (r : LaneRole) : Option Int :=
  if ls.any (fun l => decide (l.role = r)) then
    if rolePower ls .fundamental = 0 then some 3000
    else some (levelOf (rolePower ls r) (rolePower ls .fundamental) (-14000) 3000)
  else none

/-! ### Judging a step (R103 to R105) -/

/-- upper - value, where both are present. -/
def upperMargin (upper value : Option Int) : Option Int :=
  match upper, value with
  | some u, some v => some (u - v)
  | _, _ => none

def negative (m : Option Int) : Bool := m.any (fun v => decide (v < 0))

/-- The outcome of an evaluation, in the priority order of R104. -/
def judgeStep (overload silent : Bool) (lim : Limits) (l1 : Int) (thdMargin hohMargin : Option Int) : StepOutcome :=
  if overload then .overload
  else if silent then .noResponse
  else if negative hohMargin then .rub
  else if negative thdMargin then .thd
  else if lim.lower.any (fun b => decide (l1 < b)) then .low
  else if lim.upper.any (fun b => decide (b < l1)) then .high
  else .pass

/-- The step result of an evaluation's lanes (R95 to R105). -/
def evaluate (ls : List Assignment) (overload : Bool) (cal : Int) (n : Nest) (id stepIndex retries : Nat) (st : Step)
    (lim : Limits) : StepResult :=
  let p1 := rolePower ls .fundamental
  let l1 := responseLevel p1 st.window cal
  let thd := ratioLevel ls .thd
  let hoh := ratioLevel ls .hoh
  let responseMargin := minPresent (lim.lower.map (fun b => l1 - b)) (lim.upper.map (fun b => b - l1))
  let thdMargin := upperMargin lim.thd thd
  let hohMargin := upperMargin lim.hoh hoh
  { nest := n, record := id, stepIndex := stepIndex, frequency := st.frequency, limitIndex := st.limitIndex
    response := some l1, thd := thd, hoh := hoh
    responseMargin := responseMargin, thdMargin := thdMargin, hohMargin := hohMargin
    stepMargin := minPresent (minPresent responseMargin thdMargin) hohMargin
    outcome := judgeStep overload (decide (p1 = 0)) lim l1 thdMargin hohMargin
    retries := retries }

/-- The result of an UNSETTLED step (R45, R105). -/
def unsettledResult (n : Nest) (id stepIndex retries : Nat) (st : Step) : StepResult :=
  { nest := n, record := id, stepIndex := stepIndex, frequency := st.frequency, limitIndex := st.limitIndex
    response := none, thd := none, hoh := none, responseMargin := none, thdMargin := none, hohMargin := none
    stepMargin := none, outcome := .unsettled, retries := retries }

/-! ### The settle detector (R106 to R109) -/

def Detector.started (tolerance : Nat) : Detector := { Detector.stopped with running := true, tolerance := tolerance }

/-- One frame of SETTLE (R107). -/
def Detector.take (d : Detector) (x : Sample) (substituted : Bool) : Detector :=
  { d with position := d.position + 1, sum := d.sum + x.toInt.natAbs ^ 2, substituted := d.substituted || substituted }

/-- The pair count and the reference after a block of level `b` (R108, R109). -/
def Detector.compare (d : Detector) (b : Int) : Nat × Option Int :=
  if d.substituted then (0, none)
  else
    match d.reference with
    | none => (d.pairs, some b)
    | some r => (if (b - r).natAbs ≤ d.tolerance then d.pairs + 1 else 0, some b)

/-- The end of a block: judged, and the next one started. -/
def Detector.blockEnd (d : Detector) : Detector :=
  let c := d.compare (blockLevel d.sum)
  { d with position := 0, sum := 0, substituted := false, pairs := c.1, reference := c.2
           reported := d.reported || decide (3 ≤ c.1) }

/-! ### Commands -/

/-- SET CALIBRATION (R101). -/
def actSetCalibration (bs : List Byte) (s : State) : State × Answer :=
  let offset := signedAt bs 1 2
  match Nest.ofNum (fieldAt bs 0 1) with
  | none => refuse .range [] s
  | some n =>
    if ¬ (-20000 ≤ offset ∧ offset ≤ 20000) then refuse .range [] s
    else
      ({ s with analyser := { s.analyser with calibration := s.analyser.calibration.set n offset } }, .done [])

/-- READ CALIBRATION (R102). -/
def actReadCalibration (_ : List Byte) (s : State) : State × Answer :=
  answerOnly (s.analyser.calibration.toList.flatMap (signedBytes 2)) s

/-- The state of a nest's lanes; NONE is 0xFF (R91, log 12). -/
def Analyser.laneStateByte (a : Analyser) (n : Nest) : List Byte :=
  optByte ((a.assigned n).head?.map (fun x => x.phase.code))

/-- READ LANES' data in R91's order. -/
def lanesBytes (a : Analyser) : List Byte :=
  toBytes 1 a.freeLanes ++ listBytes (fun (r : LaneRequest) => toBytes 1 r.nest.num ++ toBytes 1 r.size) a.queue ++
  Nest.order.flatMap (fun n => toBytes 1 (a.lanesOf n) ++ a.laneStateByte n)

def actReadLanes (_ : List Byte) (s : State) : State × Answer := answerOnly (lanesBytes s.analyser) s

def execSetCalibration (s : State) : Host.Outcome State Fault Refusal :=
  .next (takeCommand 0x30 (operands 3) actSetCalibration s)

def execReadCalibration (s : State) : Host.Outcome State Fault Refusal :=
  .next (takeCommand 0x31 (operands 0) actReadCalibration s)

def execReadLanes (s : State) : Host.Outcome State Fault Refusal :=
  .next (takeCommand 0x32 (operands 0) actReadLanes s)

end Sys2Proof.Machine
end

