-- ==== Sys2Proof/Machine/Marking.lean ====
section
/-! DEFINITION. Label queue and marking port (08): slots, label messages, the transmitter, applicator replies, ack timers
and retirement, and the meanings of SLOT_FILL, MESSAGE_START, LABEL_MESSAGE_SENT, MARKING_CHARACTER, ACK_TIMEOUT,
TRANSMITTER_STOPPED, SET MARKING and READ MARKING. -/

namespace Sys2Proof.Machine

def Marking.slot (m : Marking) : SlotId → Slot
  | .a => m.slotA
  | .b => m.slotB

def Marking.setSlot (m : Marking) (i : SlotId) (x : Slot) : Marking :=
  match i with
  | .a => { m with slotA := x }
  | .b => { m with slotB := x }

def State.setSlot (s : State) (i : SlotId) (x : Slot) : State := { s with marking := s.marking.setSlot i x }

/-! ### The transmitter (R147) -/

/-- The slot whose message goes next: of two in WAIT_LINE the one filled earlier, which is not the last slot filled. -/
def Marking.nextMessage (m : Marking) : Option SlotId :=
  match decide (m.slotA.state = .waitLine), decide (m.slotB.state = .waitLine) with
  | true, true => some (if m.lastFilled = some .a then .b else .a)
  | true, false => some .a
  | false, true => some .b
  | false, false => none

/-- An IDLE transmitter starts a message that waits (R147). -/
def Marking.startMessage (m : Marking) : Marking :=
  match m.transmitter, m.nextMessage with
  | .idle, some i => { m.setSlot i { m.slot i with state := .sending } with transmitter := .sending i 0 }
  | _, _ => m

def State.startMessage (s : State) : State := { s with marking := s.marking.startMessage }

/-! ### Filling slots (R145) -/

/-- The slot a record at the head of the queue goes to, where one is FREE. -/
def Marking.freeSlot (m : Marking) : Option SlotId :=
  match decide (m.slotA.state = .free), decide (m.slotB.state = .free) with
  | true, true => some (match m.lastFilled with | some i => i.other | none => .a)
  | true, false => some .a
  | false, true => some .b
  | false, false => none

/-- One slot filled from the head of the queue: the record becomes LABELLING with its slot, the message is composed, the
slot waits for the line, and the transmitter decides at once. -/
def State.fillSlot (s : State) (i : SlotId) (id : Nat) (rest : List Nat) : State :=
  let u : UnitRecord := { s.record id with state := .labelling, slot := some i }
  let s1 := s.setRecord id u
  let m := s1.marking.setSlot i ⟨.waitLine, some id, labelMessage i u, 0⟩
  ({ s1 with marking := { m with queue := rest, lastFilled := some i } } : State).startMessage

/-- The fill check: every slot that can be filled is filled (R145). There are two slots, so two fills at most. -/
def State.fillSlots : (fuel : Nat) → State → State
  | 0, s => s
  | fuel + 1, s =>
    match s.marking.queue, s.marking.freeSlot with
    | id :: rest, some i => (s.fillSlot i id rest).fillSlots fuel
    | _, _ => s

def State.fillCheck (s : State) : State := s.fillSlots 2

/-- A record joins the label queue in state QUEUED (R139, R144). -/
def State.enqueueLabel (s : State) (id : Nat) : State :=
  let s1 := s.setRecord id { s.record id with state := .queued }
  ({ s1 with marking := { s1.marking with queue := s1.marking.queue ++ [id] } } : State).fillCheck

/-! ### Retirement from a slot (R153) -/

/-- The slot's record retired with an outcome, the slot freed, and the fill check run. -/
def State.retireSlot (s : State) (i : SlotId) (o : LabelOutcome) : State :=
  let s1 := match (s.marking.slot i).record with
    | some id => s.retire id o
    | none => s
  (s1.setSlot i .free).fillCheck

/-- One more frame for a slot's ack timer: it falls by one in AWAIT_ACK alone (R148). -/
def Slot.tick (x : Slot) : Slot := if x.state = .awaitAck then { x with ackLeft := x.ackLeft - 1 } else x

/-- A slot whose ack timer has run out: label outcome NO_ACK (R148). -/
def State.ackExpired (s : State) (i : SlotId) : State :=
  if (s.marking.slot i).state = .awaitAck ∧ (s.marking.slot i).ackLeft = 0 then s.retireSlot i .noAck else s

/-- One produced frame for a slot. -/
def State.ackFrame (s : State) (i : SlotId) : State := (s.setSlot i (s.marking.slot i).tick).ackExpired i

/-! ### Applicator replies (R149 to R151) -/

def State.countCharError (s : State) : State :=
  { s with marking := { s.marking with charErrors := count s.marking.charErrors 1 } }

def State.setReceiver (s : State) (r : Receiver) : State := { s with marking := { s.marking with receiver := r } }

/-- A complete reply: it answers its slot in AWAIT_ACK and is a stray otherwise (R151). -/
def State.completeReply (s : State) (ack : Bool) (i : SlotId) : State :=
  if (s.marking.slot i).state = .awaitAck then s.retireSlot i (if ack then .applied else .rejected)
  else { s with marking := { s.marking with strayAcks := count s.marking.strayAcks 1 } }

/-- Even parity over the eight data bits and the parity bit (R149). -/
def evenParity (data : Byte) (parity : Bool) : Bool :=
  ([0, 1, 2, 3, 4, 5, 6, 7].foldl (fun p i => xor p (data.getLsbD i)) parity) == false

/-- A character received without error, judged by the receiver's state: the table of R150. 'A' is 0x41, 'B' 0x42, 'N'
0x4E, the end character 0x03. -/
def State.assembleReply (s : State) (c : Byte) : State :=
  match s.marking.receiver with
  | .expectKind =>
    if c = 0x41 then s.setReceiver (.expectSlot true)
    else if c = 0x4E then s.setReceiver (.expectSlot false)
    else s.countCharError
  | .expectSlot ack =>
    if c = 0x41 then s.setReceiver (.expectEnd ack .a)
    else if c = 0x42 then s.setReceiver (.expectEnd ack .b)
    else s.countCharError.setReceiver .expectKind
  | .expectEnd ack i =>
    if c = 0x03 then (s.setReceiver .expectKind).completeReply ack i
    else if c = 0x41 then s.countCharError.setReceiver (.expectSlot true)
    else if c = 0x4E then s.countCharError.setReceiver (.expectSlot false)
    else s.countCharError.setReceiver .expectKind

/-! ### Settings and observation -/

/-- SET MARKING (R157). -/
def actSetMarking (bs : List Byte) (s : State) : State × Answer :=
  let t := fieldAt bs 0 2
  if ¬ (50 ≤ t ∧ t ≤ 5000) then refuse .range [] s
  else ({ s with marking := { s.marking with ackMs := t } }, .done [])

/-- How many characters of a message in progress are sent: at least as many as were told, at most 25, since the 26th
ends the message (R147), and otherwise free (log 9). -/
def charsSent (told free : Nat) : Nat := told + free % max 1 (26 - told)

/-- The transmitter as READ MARKING finds it: a message going out has come a free way further. -/
def Transmitter.lookedAt (t : Transmitter) (free : Nat) : Transmitter :=
  match t with
  | .sending i k => .sending i (charsSent k free)
  | .idle | .stopping _ => t

/-- State code and characters sent: IDLE 0, SENDING 1. The number is sent as one byte, 0 while the transmitter is IDLE:
R218 gives it no width and R158 no value there (DESIGN CHOICE, log 11). -/
def Transmitter.bytes : Transmitter → List Byte
  | .idle => [0, 0]
  | .sending _ k => [1] ++ toBytes 1 k
  | .stopping k => [1] ++ toBytes 1 k

def Slot.bytes (x : Slot) : List Byte :=
  toBytes 1 x.state.code ++ optByte x.record ++ toBytes 4 (if x.state = .awaitAck then x.ackLeft else 0)

/-- READ MARKING's data in R158's order. -/
def markingBytes (m : Marking) : List Byte :=
  toBytes 2 m.ackMs ++ slotByte m.lastFilled ++ listBytes (toBytes 1) m.queue ++ m.slotA.bytes ++ m.slotB.bytes ++
  toBytes 1 m.receiver.code ++ m.transmitter.bytes ++ toBytes 4 m.charErrors ++ toBytes 4 m.strayAcks

/-- READ MARKING (R158). Nothing of the part changes; the model notes how far the message had come, so that a later
read never reports fewer characters (log 9). -/
def actReadMarking (_ : List Byte) (s : State) : State × Answer :=
  let m : Marking := { s.marking with transmitter := s.marking.transmitter.lookedAt (Config.markingProgress s.freeCount) }
  (({ s with marking := m } : State).spend, .done (markingBytes m))

/-! ### RESTART and its share of the marking line (R159) -/

/-- The slots in the order they were filled: the last slot filled is the later one. -/
def Marking.fillOrder (m : Marking) : List SlotId := if m.lastFilled = some .a then [.b, .a] else [.a, .b]

/-- The LABELLING records discarded in the order their slots were filled, then the QUEUED ones head first. -/
def State.discardLabels (s : State) : State :=
  let labelling := s.marking.fillOrder.filterMap (fun i => (s.marking.slot i).record)
  (labelling ++ s.marking.queue).foldl (fun st id => st.discard id true) s

/-- The transmitter cut by a RESTART (R159, step 1): how many characters had gone out is settled here, so that every read
until the character in progress completes tells the same number (R158, log 9). -/
def Transmitter.cut (t : Transmitter) (free : Nat) : Transmitter :=
  match t with
  | .sending _ k => .stopping (charsSent k free)
  | .idle => .idle
  | .stopping k => .stopping k

/-- The label slots and queue at a RESTART (R159, steps 1 to 4). -/
def State.restartMarking (s : State) : State :=
  let s1 := s.discardLabels
  let tx := s1.marking.transmitter.cut (Config.markingProgress s1.freeCount)
  ({ s1 with marking := { s1.marking with queue := [], slotA := .free, slotB := .free, lastFilled := none,
                                          transmitter := tx, receiver := .expectKind } } : State).spend

/-! ### Meanings -/

/-- SLOT_FILL (R145). -/
def execSlotFill (s : State) : Host.Outcome State Fault Refusal := .next s.fillCheck

/-- MESSAGE_START (R147). -/
def execMessageStart (s : State) : Host.Outcome State Fault Refusal := .next s.startMessage

/-- The 26th character's stop bit completes: the slot awaits its answer with its timer loaded, the transmitter is IDLE,
and the other slot's message starts if it waits (R147, R148). -/
def Marking.messageSent (m : Marking) : Marking :=
  match m.transmitter with
  | .sending i _ =>
    ({ m.setSlot i { m.slot i with state := .awaitAck, ackLeft := Config.framesPerMs * m.ackMs } with
        transmitter := .idle } : Marking).startMessage
  | .idle | .stopping _ => m

/-- LABEL_MESSAGE_SENT (R147). -/
def execLabelMessageSent (s : State) : Host.Outcome State Fault Refusal :=
  .next { s with marking := s.marking.messageSent }

/-- MARKING_CHARACTER (R149, R150): a parity or framing error is counted and abandons the reply. -/
def execMarkingCharacter (data : Byte) (parity stop : Bool) (s : State) : Host.Outcome State Fault Refusal :=
  .next (if evenParity data parity ∧ stop = true then s.assembleReply data
    else s.countCharError.setReceiver .expectKind)

/-- ACK_TIMEOUT (R148). -/
def execAckTimeout (i : SlotId) (s : State) : Host.Outcome State Fault Refusal := .next (s.ackExpired i)

/-- The character in progress at a RESTART completes and the transmitter stops; a slot filled meanwhile may start
(R147, R159). -/
def Marking.transmitterStopped (m : Marking) : Marking :=
  match m.transmitter with
  | .stopping _ => ({ m with transmitter := .idle } : Marking).startMessage
  | .idle | .sending _ _ => m

/-- TRANSMITTER_STOPPED (R159). -/
def execTransmitterStopped (s : State) : Host.Outcome State Fault Refusal :=
  .next { s with marking := s.marking.transmitterStopped }

def execSetMarking (s : State) : Host.Outcome State Fault Refusal := .next (takeCommand 0x48 (operands 2) actSetMarking s)

def execReadMarking (s : State) : Host.Outcome State Fault Refusal :=
  .next (takeCommand 0x49 (operands 0) actReadMarking s)

end Sys2Proof.Machine
end

