-- ==== Sys2Proof/Machine/Tone.lean ====
section
/-! DEFINITION. The tone generator (04): what one frame does to it, ramps, glides, range gaps, direct starts, bursts and
silence, and the meanings of GLIDE_END and RAMP_END. -/

namespace Sys2Proof.Machine

/-! ### Envelope (R73, R74) -/

/-- The ramp-down's position once `done` of its 192 frames are formed. -/
def rampDownPosition (start done : Nat) : Nat := roundHalfUp (start * (Config.rampFrames - done)) Config.rampFrames

/-- The envelope position of the frame about to be formed (R72). -/
def Envelope.position : Envelope → Nat
  | .silent => 0
  | .rampUp done => done
  | .full => Config.rampFrames
  | .rampDown start done => rampDownPosition start (done + 1)

/-- The present position r_now: that of the last frame formed (R74). -/
def Envelope.lastPosition : Envelope → Nat
  | .silent => 0
  | .rampUp done => done - 1
  | .full => Config.rampFrames
  | .rampDown start done => rampDownPosition start done

/-- The end of a ramp-down: after its 192nd frame the envelope is SILENT (R74). -/
def Envelope.rampEnd : Envelope → Envelope
  | .rampDown start done => if Config.rampFrames ≤ done then .silent else .rampDown start done
  | e => e

/-- The envelope after one more frame is formed. -/
def Envelope.advance : Envelope → Envelope
  | .silent => .silent
  | .rampUp done => if Config.rampFrames ≤ done + 1 then .full else .rampUp (done + 1)
  | .full => .full
  | .rampDown start done => (Envelope.rampDown start (done + 1)).rampEnd

/-! ### Glide (R78) -/

/-- The amplitude of the frame about to be formed. -/
def Tone.frameAmplitude (t : Tone) : Nat :=
  match t.glide with
  | none => t.amplitude
  | some g => ((g.start : Int) + roundHalfAway (((g.target : Int) - g.start) * (g.done + 1)) Config.rampFrames).toNat

/-- The end of a glide: after its 192nd frame it is absent and the amplitude holds the target. -/
def Tone.glideEnd (t : Tone) : Tone :=
  match t.glide with
  | none => t
  | some g => if Config.rampFrames ≤ g.done then { t with glide := none, amplitude := g.target } else t

/-- The glide after one more frame is formed: the amplitude holds that frame's value. -/
def Tone.glideAdvance (t : Tone) : Tone :=
  match t.glide with
  | none => t
  | some g => ({ t with glide := some { g with done := g.done + 1 }, amplitude := t.frameAmplitude } : Tone).glideEnd

/-! ### One frame (R68, R72) -/

/-- The output before the STOP line and the mute: round(A s r / (32,767 x 192)), half away from zero. -/
def Tone.sounding (t : Tone) : Int :=
  roundHalfAway ((t.frameAmplitude : Int) * sineEntry (tableIndex t.phase) * t.envelope.position)
    (32767 * Config.rampFrames)

/-- The frame's output, in the order of precedence of R72. -/
def Tone.output (t : Tone) (stopLine : Bool) : Sample :=
  if stopLine then 0
  else if t.envelope = .silent ∨ t.burstMute = true then 0
  else BitVec.ofInt 24 t.sounding

/-- Whether the frame's addition carries the phase past its top: the frame of a wrap (R68). -/
def Tone.wraps (t : Tone) : Bool := decide (2 ^ 32 ≤ t.phase.toNat + t.increment.toNat)

/-- The generator after one frame is formed: phase, glide and envelope advance. -/
def Tone.advance (t : Tone) : Tone :=
  ({ t with phase := t.phase + t.increment, envelope := t.envelope.advance } : Tone).glideAdvance

/-- What the first frame of a gap's silence and of its ramp-up does before the frame is formed (R75): on a silence
frame the range code takes the pending drive range; on the first ramp-up frame the whole pending step takes effect. -/
def Tone.beginFrame (t : Tone) (gap : Option Gap) : Tone :=
  match gap, t.pendingStep with
  | some ⟨.silence, _⟩, some p => { t with range := p.range }
  | some ⟨.rampUp, _⟩, some p =>
    { t with range := p.range, increment := incrementOf p.frequency, amplitude := amplitudeOf p.level, glide := none,
             burstMute := false, burst := none, envelope := .rampUp 0, pendingStep := none }
  | _, _ => t

/-! ### Orders of the sequencer -/

/-- Whether the tone is silent or muted, so that a ramp-down is left out (R42, R74). -/
def Tone.quiet (t : Tone) : Bool := decide (t.envelope = .silent) || t.burstMute

/-- A ramp-down asked for (R74): from SILENT or muted no ramp is run, the envelope is SILENT at once and a glide goes on
(R78); otherwise the ramp starts from the position of the last frame formed, and any glide stops where it stands. -/
def Tone.rampDown (t : Tone) : Tone :=
  if t.quiet then { t with envelope := .silent, burstMute := false }
  else { t with envelope := .rampDown t.envelope.lastPosition 0, glide := none }

/-- The generator at a verdict with a class (R53, R74): ramped down, the burst and the pending step cleared. The range code
keeps the value it holds. A verdict behind a gap's ramp-down (or where it was left out) and before the gap's first silent
frame finds the old range still held, since R75 changes it on that frame; R74 can be read as giving the new range
there. That the old one stays is the model's choice (DESIGN CHOICE, log 39). -/
def Tone.verdict (t : Tone) : Tone := { t.rampDown with burst := none, pendingStep := none }

/-- A step that begins with a range gap is handed over and held as the pending step (R75). -/
def Tone.hold (t : Tone) (st : Step) : Tone := { t with pendingStep := some ⟨st.frequency, st.level, st.range⟩ }

/-- A step that begins directly (R77): the increment at once, mute and burst cleared, a glide from the amplitude of the
last frame formed. -/
def Tone.directStart (t : Tone) (st : Step) : Tone :=
  { t with increment := incrementOf st.frequency, burstMute := false, burst := none, envelope := .full,
           glide := some ⟨t.amplitude, amplitudeOf st.level, 0⟩ }

/-- The burst of a CONDITION step loaded at its beginning (R79). -/
def Tone.loadBurst (t : Tone) (st : Step) : Tone :=
  { t with burst := some ⟨true, st.onCycles, st.repeats⟩, burstMute := false }

/-- The generator silenced at once when its nest becomes IDLE (R81). -/
def Tone.silence (t : Tone) : Tone :=
  { t with envelope := .silent, glide := none, burst := none, pendingStep := none, burstMute := false }

/-- One wrap during a CONDITION step: the burst's cycles left fall by one (R79). -/
def Tone.burstWrap (t : Tone) : Tone :=
  { t with burst := t.burst.map (fun b => { b with cyclesLeft := b.cyclesLeft - 1 }) }

/-- A burst phase whose cycle count has reached zero (R79): the generator after it, and whether the last burst is over.
-/
def Tone.burstEnd (t : Tone) (st : Step) : Tone × Bool :=
  match t.burst with
  | none => (t, false)
  | some b =>
    if b.on ∧ 0 < st.offCycles then
      ({ t with burst := some { b with on := false, cyclesLeft := st.offCycles }, burstMute := true }, false)
    else if 1 < b.repeatsLeft then
      ({ t with burst := some ⟨true, st.onCycles, b.repeatsLeft - 1⟩, burstMute := false }, false)
    else ({ t with burst := none }, true)

/-! ### Meanings -/

/-- GLIDE_END (R78). -/
def execGlideEnd (n : Nest) (s : State) : Host.Outcome State Fault Refusal := .next (s.setTone n (s.tone n).glideEnd)

/-- RAMP_END (R74). -/
def execRampEnd (n : Nest) (s : State) : Host.Outcome State Fault Refusal :=
  .next (s.setTone n { s.tone n with envelope := (s.tone n).envelope.rampEnd })

end Sys2Proof.Machine
end

