-- ==== Sys2Proof/Machine/Nests.lean ====
section
/-! DEFINITION. The nest sequencer (03): steps, gaps, settling, lane requests and grants, windows, evaluations, verdicts
and endings, the meanings of its internal events, and of ARRIVE, RELEASE, ABORT, STOP, RESERVE STREAM, RELEASE STREAM,
STOP_LINE_ASSERT and STOP_LINE_RELEASE.

An operation that may bring a unit to its verdict answers the state and the ending, if there is one: verdicts that fall
on one frame are handled in nest order after the frame's other work (R163, log 32). -/

namespace Sys2Proof.Machine

/-- How a unit's run is over: its class decided by its record, or named by the sequencer (R53). -/
inductive Ending where
  | byRecord
  | named (c : UnitClass)
  deriving DecidableEq, Repr

def Ending.unitClass : Ending → Option UnitClass
  | .byRecord => none
  | .named c => some c

def State.modNest (s : State) (n : Nest) (f : Sequencer → Sequencer) : State := s.setNest n (f (s.nest n))

def State.modTone (s : State) (n : Nest) (f : Tone → Tone) : State := s.setTone n (f (s.tone n))

def State.modAnalyser (s : State) (f : Analyser → Analyser) : State := { s with analyser := f s.analyser }

/-! ### Grants (R46, R48, R88) -/

def Sequencer.guarded (q : Sequencer) : Bool := q.step.any (fun st => st.guarded)

/-- The entry to WINDOW: count zero, lanes accumulating, a capture reservation asked for (R48, R92). -/
def State.enterWindow (s : State) (n : Nest) : State :=
  ((s.modNest n (fun q => { q with state := .window, windowCount := 0 })).modAnalyser
    (fun a => a.startWindow n)).reserveCapture n

/-- The head request granted: FREE lanes assigned, the mark no, and the nest in WINDOW or GUARD_WAIT (R46, R88). -/
def State.grant (s : State) (r : LaneRequest) (rest : List LaneRequest) : State :=
  let s1 := s.modAnalyser (fun a =>
    ({ a with lanes := assignLanes r.nest r.plan a.lanes, queue := rest } : Analyser).setOverload r.nest false)
  if (s1.nest r.nest).guarded ∧ s1.guard.loud then s1.modNest r.nest (fun q => { q with state := .guardWait })
  else s1.enterWindow r.nest

/-- Heads granted one after the other while they fit; each turn takes one entry off the queue. -/
def State.grantHeads : (fuel : Nat) → State → State
  | 0, s => s
  | fuel + 1, s =>
    match s.analyser.queue with
    | [] => s
    | r :: rest => if r.size ≤ s.analyser.freeLanes then (s.grant r rest).grantHeads fuel else s

/-- The grant check (R88). -/
def State.grantCheck (s : State) : State := s.grantHeads s.analyser.queue.length

/-- A nest enters WAIT_LANES and its request joins at the tail; the settle detector stops (R46, R87, R106). -/
def State.requestLanes (s : State) (n : Nest) : State :=
  match (s.nest n).step with
  | none => s
  | some st =>
    let plan := lanePlan st (s.nest n).limits
    (((s.modNest n (fun q => { q with state := .waitLanes })).setDetector n .stopped).modAnalyser
      (fun a => { a with queue := a.queue ++ [⟨n, plan.length, plan⟩] })).grantCheck

/-- A nest's lanes released, with the grant check (R90). -/
def State.releaseLanes (s : State) (n : Nest) : State := (s.modAnalyser (fun a => a.release n)).grantCheck

/-- A nest's request withdrawn, with the grant check (R89). -/
def State.withdraw (s : State) (n : Nest) : State :=
  (s.modAnalyser (fun a => { a with queue := a.queue.filter (fun r => decide (r.nest ≠ n)) })).grantCheck

/-! ### Settling (R44) -/

/-- What the test of the dwell rule gives. -/
inductive SettleTest where
  | wait | settled | unsettled
  deriving DecidableEq, Repr

def timeElapsed (st : Step) (elapsed : Nat) : Bool := decide (Config.framesPerMs * st.settleMs ≤ elapsed)

def capReached (st : Step) (elapsed : Nat) : Bool := decide (Config.framesPerMs * st.capMs ≤ elapsed)

/-- The dwell rule (R44). -/
def dwellHolds (st : Step) (elapsed : Nat) (seen : Bool) : Bool :=
  match st.dwell with
  | .timed => timeElapsed st elapsed
  | .settled => seen
  | .both => timeElapsed st elapsed && seen
  | .either => timeElapsed st elapsed || seen

/-- The rule tested before the cap (R44). -/
def settleTest (st : Step) (elapsed : Nat) (seen : Bool) : SettleTest :=
  if dwellHolds st elapsed seen then .settled else if capReached st elapsed then .unsettled else .wait

/-- The test for a nest; a nest that is not in SETTLE waits. -/
def Sequencer.settleTest (q : Sequencer) : SettleTest :=
  match q.state, q.step with
  | .settle, some st => Sys2Proof.Machine.settleTest st q.settleElapsed q.settledSeen
  | _, _ => .wait

/-- An UNSETTLED result folded and sent as a STEP notice (R45). -/
def State.foldUnsettled (s : State) (n : Nest) : State :=
  match (s.nest n).record, (s.nest n).step with
  | some id, some st => s.foldResult (unsettledResult n id (s.nest n).stepIndex (s.nest n).retries st)
  | _, _ => s

/-- A nest leaves SETTLE UNSETTLED: the result folded and sent, the settle detector stopped, its open block discarded
(R45, R106). -/
def State.unsettle (s : State) (n : Nest) : State := (s.foldUnsettled n).setDetector n .stopped

/-! ### The beginning of a step (R41 to R43) -/

/-- The directory fields of the nest's program. -/
def State.programFields (s : State) (n : Nest) : Option ProgramFields :=
  match (s.nest n).program with
  | none => none
  | some p => (s.recipe.entry p).fields

/-- The step's record, and the limit record a MEASURE step names, read at its beginning (R41). -/
def Recipe.stepOf (r : Recipe) (f : ProgramFields) (i : Nat) : Step × Limits :=
  let st := (r.rawStep f i).toStep
  (st, if st.measure then (match st.limitIndex with | some m => r.limits f m | none => .none) else .none)

def State.loadStep (s : State) (n : Nest) : State :=
  match s.programFields n with
  | none => s
  | some f =>
    let x := s.recipe.stepOf f (s.nest n).stepIndex
    s.modNest n (fun q => { q with step := some x.1, limits := x.2 })

/-- Whether the step begins with a range gap (R41). -/
def State.wantsGap (s : State) (n : Nest) (st : Step) : Bool :=
  decide ((s.nest n).stepIndex = 0) || decide (st.range ≠ (s.tone n).range)

def Gap.rampUp : Gap := ⟨.rampUp, Config.rampFrames⟩

/-- The gap from its silence on, which is empty when G is 0 (R42). -/
def Gap.silenceOf (rangeGapMs : Nat) : Gap :=
  if rangeGapMs = 0 then .rampUp else ⟨.silence, rangeGapMs * Config.framesPerMs⟩

/-- A range gap begins: its first phase, and the step held by the tone generator (R42, R75). -/
def State.openGap (s : State) (n : Nest) (st : Step) : State :=
  let q := s.nest n
  let t := s.tone n
  if q.stepIndex = 0 then
    (s.setNest n { q with state := .gap, gap := some .rampUp }).setTone n (t.hold st)
  else if t.quiet then
    (s.setNest n { q with state := .gap, gap := some (.silenceOf q.settings.rangeGapMs) }).setTone n (t.rampDown.hold st)
  else
    (s.setNest n { q with state := .gap, gap := some ⟨.rampDown, Config.rampFrames⟩ }).setTone n (t.rampDown.hold st)

/-- The nest enters SETTLE with its detector started afresh, or CONDITION with its bursts loaded (R42 to R44, R79). -/
def State.enterStep (s : State) (n : Nest) (st : Step) : State :=
  if st.measure then
    (s.modNest n (fun q => { q with state := .settle, gap := none, settleElapsed := 0, settledSeen := false })).setDetector n
      (.started st.tolerance)
  else (s.modNest n (fun q => { q with state := .condition, gap := none })).modTone n (fun t => t.loadBurst st)

/-! ### The end of a step (R51) -/

def State.stepCount (s : State) (n : Nest) : Nat :=
  match s.programFields n with
  | none => 0
  | some f => f.stepCount

/-- Whether a step that finishes is the unit's last: a failure under stop-on-fail, or index step count - 1. -/
def State.unitOver (s : State) (n : Nest) (failed : Bool) : Bool :=
  (failed && (s.nest n).settings.stopOnFail) || decide (s.stepCount n ≤ (s.nest n).stepIndex + 1)

def State.nextIndex (s : State) (n : Nest) : State := s.modNest n (fun q => { q with stepIndex := q.stepIndex + 1 })

/-- The steps from the present index on, until one waits for a frame, a grant or an event, or the unit is over. A step
that is UNSETTLED at its entry finishes at once, so the next begins on the same event (R40, R45, R51). A program has at
most 256 steps (R5). -/
def State.runSteps : (fuel : Nat) → Nest → State → State × Option Ending
  | 0, _, s => (s, none)
  | fuel + 1, n, s =>
    let s1 := s.loadStep n
    match (s1.nest n).step with
    | none => (s1, none)
    | some st =>
      if s1.wantsGap n st then (s1.openGap n st, none)
      else
        let s2 := (s1.modTone n (fun t => t.directStart st)).enterStep n st
        match (s2.nest n).settleTest with
        | .wait => (s2, none)
        | .settled => (s2.requestLanes n, none)
        | .unsettled =>
          let s3 := s2.unsettle n
          if s3.unitOver n true then (s3, some .byRecord) else State.runSteps fuel n (s3.nextIndex n)

/-- A step finishes (R51). -/
def State.finishStep (s : State) (n : Nest) (failed : Bool) : State × Option Ending :=
  if s.unitOver n failed then (s, some .byRecord) else State.runSteps 256 n (s.nextIndex n)

/-- The dwell rule and the cap tested for a nest in SETTLE (R44). -/
def State.testSettle (s : State) (n : Nest) : State × Option Ending :=
  match (s.nest n).settleTest with
  | .wait => (s, none)
  | .settled => (s.requestLanes n, none)
  | .unsettled => (s.unsettle n).finishStep n true

/-- A gap phase whose last frame is counted (R42). -/
def State.gapPhaseEnd (s : State) (n : Nest) : State × Option Ending :=
  match (s.nest n).gap, (s.nest n).step with
  | some ⟨.rampDown, _⟩, _ =>
    (s.modNest n (fun q => { q with gap := some (.silenceOf q.settings.rangeGapMs) }), none)
  | some ⟨.silence, _⟩, _ => (s.modNest n (fun q => { q with gap := some .rampUp }), none)
  | some ⟨.rampUp, _⟩, some st => (s.enterStep n st).testSettle n
  | _, _ => (s, none)

/-- The settle detector's block is complete (R107 to R109). -/
def State.settleBlockEnd (s : State) (n : Nest) : State :=
  let d := (s.analyser.detector.get n).blockEnd
  (s.setDetector n d).modNest n (fun q => { q with settledSeen := q.settledSeen || d.reported })

/-- A burst phase whose cycles are counted; the last one ends the step (R52, R79). -/
def State.burstPhaseEnd (s : State) (n : Nest) : State × Option Ending :=
  match (s.nest n).step with
  | none => (s, none)
  | some st =>
    let r := (s.tone n).burstEnd st
    let s1 := s.setTone n r.1
    if r.2 then (s1.foldCondition n).finishStep n false else (s1, none)

/-! ### Windows and evaluations (R48 to R50) -/

/-- The window's N-th frame is counted: EVALUATE, and the evaluation begins (R48, R94). -/
def State.windowComplete (s : State) (n : Nest) : State :=
  (s.modNest n (fun q => { q with state := .evaluate })).modAnalyser (fun a => a.startEvaluation n)

/-- A window spoiled with the class its cause names: lanes and capture given back, then a retry or the end of the run
(R49, R90, R123). -/
def State.spoil (s : State) (n : Nest) (cause : UnitClass) : State × Option Ending :=
  let s1 := (s.releaseLanes n).voidCapture n
  if (s1.nest n).retries < (s1.nest n).settings.retryBudget then
    ((s1.modNest n (fun q => { q with retries := q.retries + 1 })).requestLanes n, none)
  else (s1, some (.named cause))

/-- The step result of the nest's evaluation. -/
def State.stepResult (s : State) (n : Nest) (id : Nat) (st : Step) : StepResult :=
  evaluate (s.analyser.assigned n) (s.analyser.overload.get n) (s.analyser.calibration.get n) n id (s.nest n).stepIndex
    (s.nest n).retries st (s.nest n).limits

/-- The evaluation completion: fold and STEP notice, release and grant check, capture decided, step finished (R50). -/
def State.completeEvaluation (s : State) (n : Nest) : State × Option Ending :=
  match (s.nest n).record, (s.nest n).step with
  | some id, some st =>
    let r := s.stepResult n id st
    (((s.foldResult r).releaseLanes n).decideCapture n r.outcome).finishStep n (decide (r.outcome ≠ .pass))
  | _, _ => (s, none)

/-! ### Verdicts and endings (R53 to R60) -/

/-- A program's use count after one unit's verdict or abort (R6). -/
def State.lowerUse (s : State) (n : Nest) : State :=
  match (s.nest n).program with
  | none => s
  | some p => { s with recipe := { s.recipe with useCount := s.recipe.useCount.set p (s.recipe.uses p - 1) } }

/-- A verdict with a class (R53): deadline, use count, JUDGED, ramp-down, record and yield, in that order. -/
def State.verdict (s : State) (n : Nest) (e : Ending) : State :=
  let s1 := (s.modNest n (fun q => { q with deadlineRunning := false })).lowerUse n
  let s2 := (s1.modNest n (fun q => { q with state := .judged, gap := none })).setDetector n .stopped
  (s2.modTone n (fun t => t.verdict)).recordVerdict n e.unitClass

/-- The verdict of an ending, if there is one. -/
def State.deliver (s : State) (n : Nest) : Option Ending → State
  | none => s
  | some e => s.verdict n e

/-- What the nest's state holds is given back (R54). -/
def State.giveBack (s : State) (n : Nest) : State :=
  match (s.nest n).state with
  | .waitLanes => s.withdraw n
  | .guardWait => s.releaseLanes n
  | .window => (s.releaseLanes n).voidCapture n
  | .evaluate => (s.releaseLanes n).voidCapture n
  | .idle | .reserved | .gap | .settle | .condition | .judged => s

/-- The deadline's expiry taken inside a frame's work: what the nest holds is given back, and the verdict follows with
the frame's others (R54, R55). -/
def State.timeOut (s : State) (n : Nest) : State × Option Ending := (s.giveBack n, some (.named .retestTimeout))

/-- A running unit ended with a named class (R54, R55, R57). -/
def State.endRun (s : State) (n : Nest) (c : UnitClass) : State := (s.giveBack n).verdict n (.named c)

/-- The nest gives its unit up: IDLE, record and program absent, step index 0 (R58 to R60). -/
def Sequencer.emptied (q : Sequencer) : Sequencer :=
  { q with state := .idle, record := none, program := none, stepIndex := 0, gap := none, deadlineRunning := false }

/-- The nest IDLE and its tone silent at once (R81). -/
def State.emptyNest (s : State) (n : Nest) : State :=
  (s.modNest n Sequencer.emptied).modTone n Tone.silence

/-- A running unit aborted: given back, then R59's five steps. -/
def State.abortRunning (s : State) (n : Nest) : State :=
  let s1 := ((s.giveBack n).modNest n (fun q => { q with deadlineRunning := false })).lowerUse n
  ((s1.setDetector n .stopped).recordAborted n).emptyNest n

/-- A JUDGED unit discarded (R60). -/
def State.discardJudged (s : State) (n : Nest) (byRestart : Bool) : State :=
  match (s.nest n).record with
  | none => s
  | some id => (s.discard id byRestart).emptyNest n

def State.abortIfRunning (n : Nest) (s : State) : State :=
  if (s.nest n).state.running then s.abortRunning n else s

/-- Every running nest aborted, in nest order (R61). -/
def State.stopAll (s : State) : State := inNestOrder State.abortIfRunning s

/-- What RESTART does to one nest (R67). -/
def State.restartNest (n : Nest) (s : State) : State :=
  let s1 :=
    if (s.nest n).state.running then s.abortRunning n
    else if (s.nest n).state = .judged then s.discardJudged n true
    else if (s.nest n).state = .reserved then { s with port := s.port.emptyStream n }
    else s
  (s1.setNest n .reset).modTone n Tone.silence

/-- The deadline's expiry: RETEST_TIMEOUT in whichever running state (R55). -/
def State.expire (s : State) (n : Nest) : State :=
  if (s.nest n).state.running ∧ (s.nest n).deadlineRunning ∧ (s.nest n).deadline = 0 then s.endRun n .retestTimeout else s

/-! ### ARRIVE (R38, R39) -/

/-- The first of R38's checks that refuses, or the nest that takes the unit. -/
def arriveCheck (bs : List Byte) (s : State) : Except Reason Nest :=
  let p := fieldAt bs 5 1
  match Nest.ofNum (fieldAt bs 0 1) with
  | none => .error .range
  | some n =>
    if 7 < p then .error .range
    else if s.stopLine then .error .stopped
    else if s.link.state ≠ .linkUp then .error .linkDown
    else if s.yield.line = .held then .error .held
    else if s.yield.admission.get n = .quarantined then .error .quarantined
    else if (s.nest n).state = .reserved then .error .reserved
    else if (s.nest n).state ≠ .idle then .error .busy
    else if (s.recipe.entry p).isActive then .ok n
    else .error .noProgram

/-- The settings copied at ARRIVE. -/
def ProgramFields.settings (f : ProgramFields) : Settings :=
  ⟨f.taktMs, f.retryBudget, f.stopOnFail, f.policy, f.captureLimit, f.gradeMargin, f.rangeGapMs⟩

/-- The nest as ARRIVE leaves it before its gap opens (R39, steps 3 to 5). -/
def Sequencer.seat (q : Sequencer) (id p : Nat) (f : ProgramFields) : Sequencer :=
  { q with record := some id, program := some p, settings := f.settings, deadline := Config.framesPerMs * f.taktMs
           deadlineRunning := true, retries := 0, stepIndex := 0 }

/-- The gap of step 0 (R39, step 6). -/
def State.openFirstGap (s : State) (n : Nest) : State :=
  let s1 := s.loadStep n
  match (s1.nest n).step with
  | none => s1
  | some st => s1.openGap n st

/-- A unit admitted with record `id` (R39). -/
def State.seat (s : State) (n : Nest) (id : Nat) (carrier : Word) (p : Nat) (f : ProgramFields) : State :=
  let s1 := s.setRecord id (.opened n carrier p s.link.frameIndex)
  let s2 : State :=
    { s1 with recipe := { s1.recipe with useCount := s1.recipe.useCount.set p (s1.recipe.uses p + 1) } }
  (s2.modNest n (fun q => q.seat id p f)).openFirstGap n

/-- ARRIVE, where a record is FREE. -/
def actArrive (bs : List Byte) (s : State) : State × Answer :=
  let p := fieldAt bs 5 1
  match arriveCheck bs s with
  | .error r => refuse r [] s
  | .ok n =>
    match s.lowestFree, (s.recipe.entry p).fields with
    | some id, some f => (s.seat n id (BitVec.ofNat 32 (fieldAt bs 1 4)) p f, .done (toBytes 1 id))
    | _, _ => refuse .noProgram [] s

/-- Whether the command taken next is an ARRIVE that passes every check while no record is FREE, which R126 says cannot
be (log 26). -/
def State.arriveStuck (s : State) : Bool :=
  match s.port.takeable with
  | none => false
  | some cell =>
    decide (cell.payload.head? = some 0x20) && decide (s.port.part = .ready) && operands 6 cell.payload.tail &&
    (match arriveCheck cell.payload.tail s with | .ok _ => true | .error _ => false) && s.lowestFree.isNone

/-! ### RELEASE, ABORT, STOP and the stream commands -/

/-- A judged unit handed on (R58, R139). -/
def State.releaseUnit (s : State) (n : Nest) (id : Nat) (label : Bool) : State :=
  (if label then s.enqueueLabel id else s.retire id .notLabelled).emptyNest n

def UnitRecord.labelled (u : UnitRecord) : Bool := u.binCopy.any (fun b => b.label)

/-- RELEASE (R58). -/
def actRelease (bs : List Byte) (s : State) : State × Answer :=
  match Nest.ofNum (fieldAt bs 0 1) with
  | none => refuse .range [] s
  | some n =>
    if (s.nest n).state = .idle ∨ (s.nest n).state = .reserved then refuse .empty [] s
    else if (s.nest n).state ≠ .judged then refuse .notJudged [] s
    else
      match (s.nest n).record with
      | none => refuse .empty [] s
      | some id =>
        if (s.record id).labelled ∧ 8 ≤ s.marking.queue.length then refuse .queueFull [] s
        else (s.releaseUnit n id (s.record id).labelled, .done [])

/-- ABORT (R59, R60). -/
def actAbort (bs : List Byte) (s : State) : State × Answer :=
  match Nest.ofNum (fieldAt bs 0 1) with
  | none => refuse .range [] s
  | some n =>
    if (s.nest n).state = .idle ∨ (s.nest n).state = .reserved then refuse .empty [] s
    else if (s.nest n).state = .judged then (s.discardJudged n false, .done [])
    else (s.abortRunning n, .done [])

/-- STOP (R61, R208): the nests aborted, in nest order. -/
def actStop (_ : List Byte) (s : State) : State × Answer :=
  (s.stopAll,
    .done (listBytes (fun (n : Nest) => toBytes 1 n.num) (Nest.order.filter (fun n => (s.nest n).state.running))))

/-- RESERVE STREAM (R64). -/
def actReserveStream (bs : List Byte) (s : State) : State × Answer :=
  match Nest.ofNum (fieldAt bs 0 1) with
  | none => refuse .range [] s
  | some n =>
    if (s.nest n).state = .reserved then refuse .reserved [] s
    else if (s.nest n).state ≠ .idle then refuse .busy [] s
    else
      ((({ s with port := s.port.emptyStream n } : State).modNest n (fun q => { q with state := .reserved })).modTone n
        (fun t => { t with range := .mid }), .done [])

/-- RELEASE STREAM (R65). -/
def actReleaseStream (bs : List Byte) (s : State) : State × Answer :=
  match Nest.ofNum (fieldAt bs 0 1) with
  | none => refuse .range [] s
  | some n =>
    if (s.nest n).state ≠ .reserved then refuse .notReserved [] s
    else
      (({ s with port := s.port.emptyStream n } : State).modNest n (fun q => { q with state := .idle }), .done [])

/-! ### Meanings of the internal events

Each acts when its moment has come and leaves the state unchanged otherwise (log 1, log 2). -/

/-- An operation that may end the unit's run, with its verdict. -/
def State.withVerdict (n : Nest) (r : State × Option Ending) : State := r.1.deliver n r.2

/-- GAP_PHASE_END (R42). -/
def execGapPhaseEnd (n : Nest) (s : State) : Host.Outcome State Fault Refusal :=
  .next (if (s.nest n).state = .gap ∧ (s.nest n).gap.any (fun g => decide (g.left = 0)) then
    State.withVerdict n (s.gapPhaseEnd n) else s)

/-- SETTLE_TIME_ELAPSED (R44). -/
def execSettleTimeElapsed (n : Nest) (s : State) : Host.Outcome State Fault Refusal :=
  .next (if (s.nest n).step.any (fun st => timeElapsed st (s.nest n).settleElapsed) ∧
      (s.nest n).settleTest = .settled then s.requestLanes n else s)

/-- SETTLE_BLOCK_END (R107). -/
def execSettleBlockEnd (n : Nest) (s : State) : Host.Outcome State Fault Refusal :=
  .next (if (s.nest n).state = .settle ∧ (s.analyser.detector.get n).position = Config.blockFrames then
    State.withVerdict n ((s.settleBlockEnd n).testSettle n) else s)

/-- SETTLE_CAP_REACHED (R45): the step is UNSETTLED. -/
def execSettleCapReached (n : Nest) (s : State) : Host.Outcome State Fault Refusal :=
  .next (if (s.nest n).settleTest = .unsettled then State.withVerdict n ((s.unsettle n).finishStep n true) else s)

/-- LANE_GRANT (R88). -/
def execLaneGrant (s : State) : Host.Outcome State Fault Refusal := .next s.grantCheck

/-- WINDOW_COMPLETE (R48). -/
def execWindowComplete (n : Nest) (s : State) : Host.Outcome State Fault Refusal :=
  .next (if (s.nest n).state = .window ∧ (s.nest n).step.any (fun st => decide (st.window ≤ (s.nest n).windowCount)) then
    s.windowComplete n else s)

/-- EVALUATION_COMPLETE (R94): ignored by a nest that is not in EVALUATE (R50). -/
def execEvaluationComplete (n : Nest) (s : State) : Host.Outcome State Fault Refusal :=
  .next (if (s.nest n).state = .evaluate ∧ (s.analyser.evaluation.get n).isSome then
    State.withVerdict n (s.completeEvaluation n) else s)

/-- BURST_COUNT_END (R79). -/
def execBurstCountEnd (n : Nest) (s : State) : Host.Outcome State Fault Refusal :=
  .next (if (s.nest n).state = .condition ∧ (s.tone n).burst.any (fun b => decide (b.cyclesLeft = 0)) then
    State.withVerdict n (s.burstPhaseEnd n) else s)

/-- DEADLINE_EXPIRY (R55). -/
def execDeadlineExpiry (n : Nest) (s : State) : Host.Outcome State Fault Refusal := .next (s.expire n)

/-! ### Meanings of the STOP line and the commands -/

/-- STOP_LINE_ASSERT (R62): a change of the level. -/
def execStopLineAssert (s : State) : Host.Outcome State Fault Refusal :=
  .next (if s.stopLine then s else { s.stopAll with stopLine := true })

/-- STOP_LINE_RELEASE (R62). -/
def execStopLineRelease (s : State) : Host.Outcome State Fault Refusal := .next { s with stopLine := false }

def execArrive (s : State) : Host.Outcome State Fault Refusal :=
  if s.arriveStuck then .fault .noFreeRecord else .next (takeCommand 0x20 (operands 6) actArrive s)

def execRelease (s : State) : Host.Outcome State Fault Refusal := .next (takeCommand 0x21 (operands 1) actRelease s)

def execAbort (s : State) : Host.Outcome State Fault Refusal := .next (takeCommand 0x22 (operands 1) actAbort s)

def execStop (s : State) : Host.Outcome State Fault Refusal := .next (takeCommand 0x23 (operands 0) actStop s)

def execReserveStream (s : State) : Host.Outcome State Fault Refusal :=
  .next (takeCommand 0x24 (operands 1) actReserveStream s)

def execReleaseStream (s : State) : Host.Outcome State Fault Refusal :=
  .next (takeCommand 0x25 (operands 1) actReleaseStream s)

end Sys2Proof.Machine
end

