-- ==== Sys2Proof/Machine/Guard.lean ====
section
/-! DEFINITION. The ambient guard (06): block and peak detectors, QUIET and LOUD, the hold, what an entry to LOUD does to
windows, and the meanings of GUARD_BLOCK_END, GUARD_HOLD_END, SET GUARD and READ GUARD. -/

namespace Sys2Proof.Machine

/-! ### One frame's work in progress

The guard and the nests take one frame one after the other; what has been done so far. -/

structure Turn where
  state : State
  /-- the verdicts that this frame brings, not yet given -/
  endings : PerNest (Option Ending)
  /-- the nests' states when the frame was produced: the states it counts for (R40) -/
  before : PerNest NestState
  /-- the nests that have taken the frame -/
  taken : PerNest Bool
  /-- whether the guard has entered LOUD on the frame -/
  entered : Bool
  /-- the notice of that entry, formed after the verdicts it brings (R114, log 23) -/
  notice : Option Notice
  deriving DecidableEq, Repr

/-- Nothing done; `taken` is whether the nests have taken the frame already. -/
def Turn.start (s : State) (taken : Bool) : Turn :=
  { state := s, endings := .all none, before := s.nests.map (fun q => q.state), taken := .all taken, entered := false
    notice := none }

def Turn.withState (t : Turn) (f : State → State) : Turn := { t with state := f t.state }

/-- An operation that may end nest `n`'s run, its verdict kept for the frame's end. -/
def Turn.run (t : Turn) (n : Nest) (f : State → State × Option Ending) : Turn :=
  let r := f t.state
  { t with state := r.1, endings := match r.2 with
      | none => t.endings
      | some e => t.endings.set n (some e) }

/-- The verdict that the frame brings to a nest: the one kept, or the expiry of its deadline. -/
def Turn.judge (n : Nest) (t : Turn) (s : State) : State :=
  match t.endings.get n with
  | some e => s.verdict n e
  | none => s.expire n

/-- The end of a frame's work: its verdicts in nest order (R163), then the notice of an entry to LOUD. -/
def Turn.finish (t : Turn) : State :=
  let s := inNestOrder (fun n s => t.judge n s) t.state
  match t.notice with
  | none => s
  | some x => s.notice x

/-- Some nests in the free order in which one event reaches them (log 5). -/
def State.freeOrder (s : State) (ns : List Nest) : List Nest := permute (Config.turnCode s.freeCount / 120) ns

/-! ### Causes (R113) -/

/-- The level above which a completed block is a cause, in the present guard state (R114, R115). -/
def Guard.blockLimit (g : Guard) : Int := if g.loud then g.threshold - g.hysteresis else g.threshold

/-- A frame's causes: its channel 5 magnitude and overload flag, and the level of a block it completes. -/
def Guard.causes (g : Guard) (magnitude : Nat) (overload : Bool) (level : Option Int) : GuardCauses :=
  { block := level.any (fun b => decide (g.blockLimit < b)), peak := g.peak.any (fun p => decide (p < magnitude))
    overload := overload, holdEnd := false, disabled := false }

def GuardCauses.any (c : GuardCauses) : Bool := c.block || c.peak || c.overload

/-- The hold restarted or cleared: count, peak and loudest block since hold (R114, R115). -/
def Guard.clearHold (g : Guard) : Guard := { g with holdCount := 0, peakSince := 0, loudestSince := none }

/-- The larger of an optional level and one more. -/
def maxLevel : Option Int → Option Int → Option Int
  | a, none => a
  | none, some b => some b
  | some a, some b => some (if a < b then b else a)

/-- A cause-free frame in LOUD (R115). -/
def Guard.holdFrame (g : Guard) (magnitude : Nat) (level : Option Int) : Guard :=
  { g with holdCount := g.holdCount + 1, peakSince := max g.peakSince magnitude
           loudestSince := maxLevel g.loudestSince level
           holdDue := decide (Config.framesPerMs * g.holdMs ≤ g.holdCount + 1) }

/-! ### Entry to LOUD (R114, R120, R121) -/

/-- A nest in WINDOW before its first window frame goes back to GUARD_WAIT (R121). -/
def State.backToGuardWait (s : State) (n : Nest) : State :=
  ((s.modNest n (fun q => { q with state := .guardWait })).modAnalyser (fun a => a.hold n)).voidCapture n

/-- The guard's entry reaches one nest. A nest whose window's next frame is the entry frame spoils its window when it
counts it, so nothing happens here (R120). -/
def Turn.entryAt (t : Turn) (n : Nest) : Turn :=
  let s := t.state
  if (t.endings.get n).isSome ∨ (s.nest n).guarded = false then t
  else if t.before.get n = .window ∧ t.taken.get n = false then t
  else
    match (s.nest n).state with
    | .window =>
      if (s.nest n).windowCount = 0 then t.withState (fun s => s.backToGuardWait n)
      else t.run n (fun s => s.spoil n .retestNoise)
    | .evaluate =>
      if s.analyser.evaluation.get n = some 0 ∧ t.taken.get n then t.run n (fun s => s.spoil n .retestNoise) else t
    | _ => t

/-- The nests an entry to LOUD or a return to QUIET concerns. -/
def State.guardedNests (s : State) : List Nest :=
  Nest.order.filter (fun n => decide ((s.nest n).state = .window) || decide ((s.nest n).state = .evaluate))

/-- The guard enters LOUD (R114): state, hold, counter, the nests, the notice. -/
def Turn.enterLoud (t : Turn) (causes : GuardCauses) (level : Option Int) : Turn :=
  let g := t.state.guard
  let g1 : Guard := { g.clearHold with loud := true, loudEntries := count g.loudEntries 1 }
  let s1 : State := { t.state with guard := g1 }
  let x := Notice.guard true s1.link.frameIndex causes (if causes.block then level else none) g1.loudEntries
  let t1 : Turn := { t with state := s1, entered := true, notice := some x }
  (s1.freeOrder s1.guardedNests).foldl Turn.entryAt t1

/-! ### Return to QUIET (R115, R117) -/

def State.waitingForQuiet (s : State) : List Nest := Nest.order.filter (fun n => decide ((s.nest n).state = .guardWait))

/-- The guard becomes QUIET: the hold cleared, every nest in GUARD_WAIT into WINDOW, and the notice. -/
def State.becomeQuiet (s : State) (causes : GuardCauses) : State :=
  let s1 : State := { s with guard := { s.guard.clearHold with loud := false, holdDue := false } }
  let s2 := (s1.freeOrder s1.waitingForQuiet).foldl State.enterWindow s1
  s2.notice (.guard false s2.link.frameIndex causes none s2.guard.loudEntries)

/-- The hold's end, on the frame that brings it (R115). -/
def State.guardHoldEnd (s : State) : State :=
  if s.guard.loud ∧ s.guard.holdDue then s.becomeQuiet ⟨false, false, false, true, false⟩ else s

/-! ### One frame (R111 to R116) -/

/-- The frame judged: `level` is that of the block it completes, if it does. A disabled guard forms no cause (R116). -/
def Turn.judgeGuard (t : Turn) (level : Option Int) : Turn :=
  let g := t.state.guard
  let f := t.state.link.current
  let magnitude := (f.samples.getD 4 0).toInt.natAbs
  let causes := g.causes magnitude (f.overloads.getD 4 false) level
  if g.enable = false then t
  else if causes.any then
    if g.loud then t.withState (fun s => { s with guard := g.clearHold }) else t.enterLoud causes level
  else if g.loud then
    t.withState (fun s => ({ s with guard := g.holdFrame magnitude level } : State).guardHoldEnd)
  else t

/-- The block is complete: its level formed and kept, the next block started, the frame judged with it (R112). -/
def Turn.guardBlockEnd (t : Turn) : Turn :=
  let g := t.state.guard
  let level := blockLevel g.sum
  (t.withState (fun s => { s with guard := { g with position := 0, sum := 0, lastLevel := some level } })).judgeGuard
    (some level)

/-- Channel 5's sample added to the block (R112). -/
def Guard.take (g : Guard) (x : Sample) : Guard :=
  { g with position := g.position + 1, sum := g.sum + x.toInt.natAbs ^ 2 }

/-- The guard takes the frame last produced. -/
def Turn.guardFrame (t : Turn) : Turn :=
  let g := t.state.guard.take (t.state.link.current.samples.getD 4 0)
  let t1 := t.withState (fun s => { s with guard := g })
  if g.position = Config.blockFrames then t1.guardBlockEnd else t1.judgeGuard none

/-! ### Commands -/

def Guard.withSettings (g : Guard) (x : GuardSettings) : Guard :=
  { g with enable := x.enable, threshold := x.threshold, hysteresis := x.hysteresis, peak := x.peak, holdMs := x.holdMs }

/-- Whether the hold so far was not quiet by the new values (R117, last row). -/
def Guard.holdBroken (g : Guard) : Bool :=
  g.peak.any (fun p => decide (p < g.peakSince)) ||
  g.loudestSince.any (fun b => decide (g.threshold - g.hysteresis < b))

/-- What accepted settings do to the guard: the table of R117. -/
def State.setGuard (s : State) (x : GuardSettings) : State :=
  let g := s.guard.withSettings x
  let s1 : State := { s with guard := g }
  if g.loud = false then s1
  else if x.enable = false then (s1.becomeQuiet ⟨false, false, false, false, true⟩).spend
  else if g.holdBroken then { s with guard := g.clearHold }
  else s1

/-- SET GUARD (R117). -/
def actSetGuard (bs : List Byte) (s : State) : State × Answer :=
  match GuardSettings.ofBytes bs with
  | .error i => refuse .range (toBytes 1 i) s
  | .ok x => (s.setGuard x, .done [])

/-- READ GUARD's data in R118's order. -/
def guardBytes (g : Guard) : List Byte :=
  boolByte g.enable ++ signedBytes 2 g.threshold ++ signedBytes 2 g.hysteresis ++ toBytes 4 (g.peak.getD 0) ++
  toBytes 2 g.holdMs ++ boolByte g.loud ++ optLevel g.lastLevel ++ toBytes 4 g.holdCount ++ toBytes 4 g.loudEntries

def actReadGuard (_ : List Byte) (s : State) : State × Answer := answerOnly (guardBytes s.guard) s

/-! ### Meanings -/

/-- GUARD_BLOCK_END (R112), standing alone: the nests have taken the frame that completed the block (log 1, log 2). -/
def execGuardBlockEnd (s : State) : Host.Outcome State Fault Refusal :=
  .next (if s.guard.position = Config.blockFrames then (Turn.start s true).guardBlockEnd.finish else s)

/-- GUARD_HOLD_END (R115). -/
def execGuardHoldEnd (s : State) : Host.Outcome State Fault Refusal := .next s.guardHoldEnd

def execSetGuard (s : State) : Host.Outcome State Fault Refusal := .next (takeCommand 0x38 (operands 11) actSetGuard s)

def execReadGuard (s : State) : Host.Outcome State Fault Refusal := .next (takeCommand 0x39 (operands 0) actReadGuard s)

end Sys2Proof.Machine
end

