-- ==== Sys2Proof/Machine/Frame.lean ====
section
/-! DEFINITION. The converter link and frame time (02): what one produced frame does to every consumer, the link states,
and the meanings of FRAME_ARRIVAL, ACQUISITION_COMPLETE, BAD_RUN_LIMIT, SILENCE_TIMEOUT and TAP_CELL_FORMED. -/

namespace Sys2Proof.Machine

/-! ### Drive samples and the downstream frame (R34, R68, R72) -/

/-- What a tone generator gave one frame: its output, its phase for the frame, and whether the frame is one of a wrap. -/
structure ToneFrame where
  output : Sample
  phase : Word
  wrap : Bool
  deriving DecidableEq, Repr

/-- One nest's generator takes the frame. -/
def Tone.frame (t : Tone) (stopLine : Bool) : ToneFrame := ⟨t.output stopLine, t.phase, t.wraps⟩

/-- The generators as the frame finds them: a gap's first silent frame and first ramp-up frame have had their effect
(R75). -/
def State.beginTones (s : State) : State :=
  { s with tones := ⟨s.tones.n1.beginFrame s.nests.n1.gap, s.tones.n2.beginFrame s.nests.n2.gap,
                     s.tones.n3.beginFrame s.nests.n3.gap, s.tones.n4.beginFrame s.nests.n4.gap⟩ }

/-- The four generators' share of the frame; `s` has begun it. -/
def State.toneFrames (s : State) : PerNest ToneFrame := s.tones.map (fun t => t.frame s.stopLine)

def State.advanceTones (s : State) : State := { s with tones := s.tones.map Tone.advance }

/-- One drive sample: from the stream buffer of a RESERVED nest, else from the generator. -/
def Port.driveSample (p : Port) (q : NestState) (n : Nest) (tone : Sample) : Sample × Port :=
  if q = .reserved then p.drainStream n else (tone, p)

/-- The four drive samples of a downstream frame, in nest order. -/
def State.driveSamples (s : State) (f : PerNest ToneFrame) : PerNest Sample × Port :=
  let a := s.port.driveSample (s.nest .n1).state .n1 f.n1.output
  let b := a.2.driveSample (s.nest .n2).state .n2 f.n2.output
  let c := b.2.driveSample (s.nest .n3).state .n3 f.n3.output
  let d := c.2.driveSample (s.nest .n4).state .n4 f.n4.output
  (⟨a.1, b.1, c.1, d.1⟩, d.2)

/-! ### The tap (R204) -/

def tapSelected (sel : BitVec 9) (channel : Nat) : Bool := sel.getLsbD (channel - 1)

/-- One sample added to a channel's accumulator. -/
def TapAccumulator.add (t : TapAccumulator) (index : Word) (x : Sample) (substituted : Bool) : TapAccumulator :=
  ⟨if t.samples.isEmpty then index else t.first, t.samples ++ [(x, substituted)]⟩

/-- A cell formed from channel c's accumulator: queued, or dropped and counted; the accumulator starts empty. -/
def Port.formTapCell (p : Port) (c : Nat) : Port :=
  let t := p.taps.getD (c - 1) .empty
  let p1 := { p with taps := p.taps.set (c - 1) .empty }
  if p.tapQueue.length < 8 then { p1 with tapQueue := p1.tapQueue ++ [⟨c, t.first, t.samples⟩] }
  else { p1 with tapDrops := count p1.tapDrops 1 }

/-- A cell is formed when the accumulator holds 48 samples. -/
def Port.tapCellCheck (p : Port) (c : Nat) : Port :=
  if (p.taps.getD (c - 1) .empty).samples.length = Config.cellSamples then p.formTapCell c else p

/-- Channel c's sample of one frame. -/
def Port.tapSample (p : Port) (index : Word) (substituted : Bool) (c : Nat) (x : Sample) : Port :=
  if tapSelected p.tapSelection c then
    ({ p with taps := p.taps.set (c - 1) ((p.taps.getD (c - 1) .empty).add index x substituted) } : Port).tapCellCheck c
  else p

/-- The channels of one frame from channel c on, in channel order. -/
def Port.tapFrom (p : Port) (index : Word) (substituted : Bool) : (c : Nat) → List Sample → Port
  | _, [] => p
  | c, x :: xs => (p.tapSample index substituted c x).tapFrom index substituted (c + 1) xs

/-- The downstream frame composed and sent, and the tap's share of the frame (R34, R204). -/
def State.answerFrame (s : State) (f : PerNest ToneFrame) : State :=
  let d := s.driveSamples f
  let x := s.link.current
  let bytes := downstreamBytes x.number d.1 (s.tones.map (fun t => t.range))
  { s with port := d.2.tapFrom x.index x.substituted 1 (x.samples ++ d.1.toList)
           out := { s.out with downstream := s.out.downstream ++ [bytes] } }

/-! ### Ack timers (R148) -/

/-- Whether the frame brings a slot's timer to zero. -/
def State.ackDue (s : State) (i : SlotId) : Bool :=
  decide ((s.marking.slot i).state = .awaitAck) && decide ((s.marking.slot i).ackLeft ≤ 1)

/-- Both slots take the frame; two timers that run out on it are taken in a free order (log 8). -/
def State.ackFrames (s : State) : State :=
  if s.ackDue .a ∧ s.ackDue .b ∧ Config.slotBFirst s.freeCount then (s.ackFrame .b).ackFrame .a
  else (s.ackFrame .a).ackFrame .b

/-- Whether the slots take the frame before the guard and the nests do: free where a timer runs out on it (log 8). -/
def State.acksFirst (s : State) : Bool :=
  if s.ackDue .a ∨ s.ackDue .b then Config.ackFirst s.freeCount else false

/-! ### One frame for one nest (R40) -/

/-- A nest's microphone sample of the frame. -/
def State.micSample (s : State) (n : Nest) : Sample := s.link.current.samples.getD (n.num - 1) 0

/-- The deadline falls by one (R55). -/
def Sequencer.deadlineFrame (q : Sequencer) : Sequencer :=
  if q.deadlineRunning then { q with deadline := q.deadline - 1 } else q

/-- The frame counted in GAP. -/
def State.gapFrame (s : State) (n : Nest) : State × Option Ending :=
  let s1 := s.modNest n (fun q => { q with gap := q.gap.map (fun g => { g with left := g.left - 1 }) })
  if (s1.nest n).gap.any (fun g => decide (g.left = 0)) then s1.gapPhaseEnd n else (s1, none)

/-- The frame counted in SETTLE: time, detector, then the test (R44, R107). -/
def State.settleFrame (s : State) (n : Nest) : State × Option Ending :=
  let d := (s.analyser.detector.get n).take (s.micSample n) s.link.current.substituted
  let s1 := (s.modNest n (fun q => { q with settleElapsed := q.settleElapsed + 1 })).setDetector n d
  (if d.position = Config.blockFrames then s1.settleBlockEnd n else s1).testSettle n

/-- The frame counted in CONDITION: a wrap is one cycle (R52, R79). -/
def State.conditionFrame (s : State) (n : Nest) (wrap : Bool) : State × Option Ending :=
  if wrap then
    let s1 := s.modTone n Tone.burstWrap
    if (s1.tone n).burst.any (fun b => decide (b.cyclesLeft = 0)) then s1.burstPhaseEnd n else (s1, none)
  else (s, none)

/-- The frame counted in WINDOW: count, lanes, overload mark and capture (R48, R92, R93, R183). -/
def State.countWindowFrame (s : State) (n : Nest) (phase : Word) : State :=
  let x := s.micSample n
  ((s.modNest n (fun q => { q with windowCount := q.windowCount + 1 })).modAnalyser
    (fun a => a.windowFrame n x phase (s.link.current.overloads.getD (n.num - 1) false))).captureSample n x

/-- The cause by which the frame being counted spoils a nest's window: corruption before disturbance (R49, R120, R122). -/
def State.spoilCause (s : State) (n : Nest) (entered : Bool) : Option UnitClass :=
  if s.link.current.substituted then some .retestLink
  else if entered ∧ (s.nest n).guarded then some .retestNoise
  else none

/-- A window that has its N frames goes to EVALUATE (R48). -/
def State.windowCheck (s : State) (n : Nest) : State :=
  if (s.nest n).step.any (fun st => decide (st.window ≤ (s.nest n).windowCount)) then s.windowComplete n else s

/-- The frame in WINDOW: counted, then it may spoil the window or be its N-th (R48, R49, R120, R122). Where the deadline's
expiry is taken before a spoiling, it ends the unit in WINDOW, or in the EVALUATE that an unspoiled N-th frame has
entered (R56, R124). -/
def State.windowFrame (s : State) (n : Nest) (phase : Word) (entered expires : Bool) : State × Option Ending :=
  let s1 := s.countWindowFrame n phase
  match s1.spoilCause n entered with
  | some cause => if expires then s1.timeOut n else s1.spoil n cause
  | none => if expires then (s1.windowCheck n).timeOut n else (s1.windowCheck n, none)

/-- The frame in EVALUATE: the evaluation completes by the 48th (R94). -/
def State.evaluateFrame (s : State) (n : Nest) : State × Option Ending :=
  match s.analyser.evaluation.get n with
  | none => (s, none)
  | some k =>
    let s1 := s.modAnalyser (fun a => a.setEvaluation n (some (k + 1)))
    if Config.evaluationSpan ≤ k + 1 then s1.completeEvaluation n else (s1, none)

/-- Whether the deadline has run out on this frame and its expiry is taken before a spoiling or a completion that may
fall on the frame too: a free order (R56, R124, log 6). -/
def Turn.expiresFirst (t : Turn) (n : Nest) : Bool :=
  (t.state.nest n).deadlineRunning && decide ((t.state.nest n).deadline = 0) && Config.expiryFirst t.state.freeCount n.num

/-- The frame counted for the state the nest was in when it was produced. -/
def Turn.count (t : Turn) (n : Nest) (f : ToneFrame) : Turn :=
  match t.before.get n with
  | .gap => t.run n (fun s => s.gapFrame n)
  | .settle => t.run n (fun s => s.settleFrame n)
  | .condition => t.run n (fun s => s.conditionFrame n f.wrap)
  | .window => t.run n (fun s => s.windowFrame n f.phase t.entered (t.expiresFirst n))
  | .evaluate => t.run n (fun s => s.evaluateFrame n)
  | .idle | .reserved | .waitLanes | .guardWait | .judged => t

/-- One running nest takes the frame. An evaluation that an expiry meets on this frame is discarded or completes first
(R56); in every other state the frame is counted before the deadline ends the unit. -/
def Turn.nestFrame (t : Turn) (n : Nest) (f : ToneFrame) : Turn :=
  let t1 : Turn := { t with state := t.state.modNest n Sequencer.deadlineFrame, taken := t.taken.set n true }
  if t1.before.get n = .evaluate ∧ t1.expiresFirst n then t1.run n (fun s => s.timeOut n) else t1.count n f

/-! ### One frame for all (R31, R33) -/

/-- Who takes the frame after the generators. -/
inductive Consumer where
  | guard
  | nest (n : Nest)
  deriving DecidableEq, Repr

def Turn.consume (f : PerNest ToneFrame) (t : Turn) : Consumer → Turn
  | .guard => t.guardFrame
  | .nest n => t.nestFrame n (f.get n)

/-- The running nests, and among them the guard, in a free order (R87, log 5). A disabled guard reaches no nest, so its
place is no matter and it goes first. -/
def State.consumers (s : State) : List Consumer :=
  let nests := (Nest.order.filter (fun n => (s.nest n).state.running)).map Consumer.nest
  let code := Config.turnCode s.freeCount
  if s.guard.enable then permute code (.guard :: nests) else .guard :: permute code nests

/-- The guard and the nests take the frame, and its verdicts follow. -/
def State.consumeFrame (s : State) (f : PerNest ToneFrame) : State :=
  (s.consumers.foldl (Turn.consume f) (Turn.start s false)).finish

/-- With the ack timers before or after. -/
def State.consumeWithAcks (s : State) (consume : State → State) : State :=
  if s.acksFirst then consume s.ackFrames else (consume s).ackFrames

/-- A frame produced in LINK_UP, already the current frame, reaches every consumer. -/
def State.frameUp (s : State) : State :=
  let s1 := s.beginTones
  let f := s1.toneFrames
  ((s1.advanceTones.answerFrame f).consumeWithAcks (fun s => s.consumeFrame f)).spend

/-- A frame produced in ACQUIRING reaches the generators, the guard and the ack timers (R31, R148). -/
def State.frameAcquiring (s : State) : State :=
  (s.beginTones.advanceTones.consumeWithAcks (fun s => ((Turn.start s true).guardFrame).finish)).spend

/-! ### Producing frames (R24, R25, R27) -/

/-- A good frame becomes the current frame. -/
def Link.produceGood (l : Link) (f : UpstreamFrame) : Link :=
  { l with frameIndex := l.frameIndex + 1, lastNumber := some f.number, lastGood := f.samples, badRun := 0
           silenceRunning := true, current := ⟨l.frameIndex + 1, f.number, f.samples, f.overloads, false⟩ }

/-- The expected number: one more than the last. -/
def Link.expected (l : Link) : BitVec 16 := l.lastNumber.getD 0 + 1

/-- A substituted frame with the expected number becomes the current frame. -/
def Link.produceSubstitute (l : Link) : Link :=
  { l with frameIndex := l.frameIndex + 1, lastNumber := some l.expected
           current := ⟨l.frameIndex + 1, l.expected, l.lastGood, List.replicate 5 false, true⟩ }

def State.withLink (s : State) (l : Link) : State := { s with link := l }

/-- EVALUATION_COMPLETE standing between two frames of one arrival (R94): in flight, it happens there or does not, as a
free value says (log 7). -/
def State.completeFree (s : State) (n : Nest) : State :=
  if (s.analyser.evaluation.get n).isSome ∧ Config.evaluationDone s.freeCount n.num then
    State.withVerdict n (s.completeEvaluation n)
  else s

def State.evaluatingNests (s : State) : List Nest := Nest.order.filter (fun n => decide ((s.nest n).state = .evaluate))

/-- What may happen between two frames of one arrival. -/
def State.betweenFrames (s : State) : State := ((s.freeOrder s.evaluatingNests).foldl State.completeFree s).spend

/-- `d` substituted frames, each handed to every consumer; the arriving frame follows them (R25). -/
def State.substitutes : (d : Nat) → State → State
  | 0, s => s
  | d + 1, s => State.substitutes d (s.withLink s.link.produceSubstitute).frameUp.betweenFrames

/-! ### Link states (R26 to R31) -/

/-- The link enters LINK_DOWN: the counter rises and the silence timer stops (R28, R35). -/
def Link.goDown (l : Link) : Link :=
  { l with state := .linkDown, silenceRunning := false, linkDowns := count l.linkDowns 1 }

/-- A running nest receives RETEST_LINK (R57). -/
def State.endForLink (n : Nest) (s : State) : State :=
  if (s.nest n).state.running then s.endRun n .retestLink else s

def State.linkNotice (s : State) : State := s.notice (.link s.link.state s.link.frameIndex s.link.linkDowns)

/-- The link leaves LINK_UP: accumulators emptied, every running nest ended in nest order, then the LINK notice (R29,
R57, R204). -/
def State.linkLoss (s : State) : State :=
  let s1 : State := { s with link := s.link.goDown, port := { s.port with taps := List.replicate 9 .empty } }
  (inNestOrder State.endForLink s1).linkNotice

/-- A fault in ACQUIRING (R31). -/
def State.acquisitionFault (s : State) : State := s.withLink { s.link.goDown with acquisitionCount := 0 }

/-- 96 frames in sequence: LINK_UP, with its notice (R31). -/
def State.acquisitionEnd (s : State) : State :=
  if s.link.state = .acquiring ∧ 96 ≤ s.link.acquisitionCount then
    (s.withLink { s.link with state := .linkUp }).linkNotice
  else s

/-- The sixteenth consecutive bad frame (R27). -/
def State.badRunLimit (s : State) : State :=
  if s.link.state = .linkUp ∧ 16 ≤ s.link.badRun then s.linkLoss else s

/-- A frame arriving in LINK_DOWN (R30). -/
def State.arriveDown (s : State) : Option UpstreamFrame → State
  | none => s
  | some f => (s.withLink { s.link.produceGood f with state := .acquiring, acquisitionCount := 1 }).frameAcquiring

/-- A frame arriving in ACQUIRING (R31). -/
def State.arriveAcquiring (s : State) : Option UpstreamFrame → State
  | none => (s.withLink { s.link with badFrames := count s.link.badFrames 1 }).acquisitionFault
  | some f =>
    if f.number = s.link.expected then
      (s.withLink { s.link.produceGood f with acquisitionCount := s.link.acquisitionCount + 1 }).frameAcquiring.acquisitionEnd
    else s.acquisitionFault

/-- A frame arriving in LINK_UP: bad (R27), in sequence (R24), or with a gap (R25, R26). -/
def State.arriveUp (s : State) : Option UpstreamFrame → State
  | none =>
    let l : Link :=
      { s.link with badFrames := count s.link.badFrames 1, badRun := s.link.badRun + 1, silenceRunning := true }
    if l.badRun < 16 then (s.withLink l.produceSubstitute).frameUp else (s.withLink l).badRunLimit
  | some f =>
    let d := (f.number - s.link.expected).toNat
    if 96 ≤ d then s.linkLoss
    else
      let s1 := State.substitutes d (s.withLink { s.link with missingFrames := count s.link.missingFrames d })
      (s1.withLink (s1.link.produceGood f)).frameUp

/-! ### Meanings -/

/-- FRAME_ARRIVAL (R23 to R31), whole: every frame it produces and all that falls on them (log 2). -/
def execFrameArrival (bytes : List Byte) (s : State) : Host.Outcome State Fault Refusal :=
  let s0 : State := { s with out := { s.out with downstream := [] } }
  .next (match s.link.state with
    | .linkDown => s0.arriveDown (UpstreamFrame.ofBytes bytes)
    | .acquiring => s0.arriveAcquiring (UpstreamFrame.ofBytes bytes)
    | .linkUp => s0.arriveUp (UpstreamFrame.ofBytes bytes))

/-- ACQUISITION_COMPLETE (R31). -/
def execAcquisitionComplete (s : State) : Host.Outcome State Fault Refusal := .next s.acquisitionEnd

/-- BAD_RUN_LIMIT (R27). -/
def execBadRunLimit (s : State) : Host.Outcome State Fault Refusal := .next s.badRunLimit

/-- SILENCE_TIMEOUT (R28): the timer runs in ACQUIRING and LINK_UP only. -/
def execSilenceTimeout (s : State) : Host.Outcome State Fault Refusal :=
  .next (if s.link.silenceRunning then
      match s.link.state with
      | .linkDown => s
      | .acquiring => s.acquisitionFault
      | .linkUp => s.linkLoss
    else s)

/-- TAP_CELL_FORMED (R204). -/
def execTapCellFormed (channel : Nat) (s : State) : Host.Outcome State Fault Refusal :=
  .next (if 1 ≤ channel ∧ channel ≤ 9 then { s with port := s.port.tapCellCheck channel } else s)

end Sys2Proof.Machine
end

