-- ==== Sys2Proof/Machine/Recipe.lean ====
section
/-! DEFINITION. Recipe memory (01): activation and its checks, and the meanings of WRITE ROWS, READ ROWS, WRITE DIRECTORY,
READ DIRECTORY, ACTIVATE, DEACTIVATE, WRITE BINS and READ BINS. -/

namespace Sys2Proof.Machine

/-! ### Regions (R2) -/

/-- Whether some row of [a, a + n) is a row of [b, b + m). -/
def rangesMeet (a n b m : Nat) : Bool := decide (max a b < min (a + n) (b + m))

/-- Whether rows [first, first + n) touch a program's step region or limit region. -/
def ProgramFields.touches (f : ProgramFields) (first n : Nat) : Bool :=
  rangesMeet first n f.firstStep (2 * f.stepCount) || rangesMeet first n f.firstLimit f.limitCount

/-- Whether two programs share a row (R17). -/
def ProgramFields.overlaps (f g : ProgramFields) : Bool :=
  g.touches f.firstStep (2 * f.stepCount) || g.touches f.firstLimit f.limitCount

/-- Entry numbers 0 to 7. -/
def entryNumbers : List Nat := List.range 8

/-! ### Activation (R12 to R17) -/

/-- The fields named by a BAD_RECORD refusal, with the codes of R218. -/
inductive RecordField where
  | alignment | kind | frequency | level | driveRange | dwell | settleTime | capTime | tolerance | cycles | window
  | guarded | limitIndex | hohBand | responseLower | responseUpper | responseOrder | thdUpper | hohUpper | onCycles
  | offCycles | repeats | labelCode
  deriving DecidableEq, Repr

def RecordField.code : RecordField → Nat
  | .alignment => 0
  | .kind => 1
  | .frequency => 2
  | .level => 3
  | .driveRange => 4
  | .dwell => 5
  | .settleTime => 6
  | .capTime => 7
  | .tolerance => 8
  | .cycles => 9
  | .window => 10
  | .guarded => 11
  | .limitIndex => 12
  | .hohBand => 13
  | .responseLower => 14
  | .responseUpper => 15
  | .responseOrder => 16
  | .thdUpper => 17
  | .hohUpper => 18
  | .onCycles => 19
  | .offCycles => 20
  | .repeats => 21
  | .labelCode => 22

/-- A bound present and outside its range. -/
def boundBad (lo hi : Int) (b : Option Int) : Bool := b.any (fun v => decide (v < lo) || decide (hi < v))

/-- The first fault of a limit record (R16). -/
def limitFault (l : Limits) : Option RecordField :=
  if boundBad (-20000) 20000 l.lower then some .responseLower
  else if boundBad (-20000) 20000 l.upper then some .responseUpper
  else if l.lower.any (fun lo => l.upper.any (fun up => decide (up < lo))) then some .responseOrder
  else if boundBad (-14000) 3000 l.thd then some .thdUpper
  else if boundBad (-14000) 3000 l.hoh then some .hohUpper
  else none

/-- The first fault of a MEASURE step's own fields (R14, rows M). -/
def measureFault (r : Recipe) (f : ProgramFields) (st : RawStep) : Option RecordField :=
  if (DwellRule.ofCode st.dwell).isNone then some .dwell
  else if 2000 < st.settleMs then some .settleTime
  else if st.capMs < st.settleMs ∨ 4000 < st.capMs then some .capTime
  else if ¬ (1 ≤ st.tolerance ∧ st.tolerance ≤ 600) then some .tolerance
  else if ¬ (1 ≤ st.cycles ∧ st.cycles ≤ 4096) then some .cycles
  else if ¬ (64 ≤ windowLength st.cycles st.frequency ∧ windowLength st.cycles st.frequency ≤ 65536) then some .window
  else if (yesNo st.guarded).isNone then some .guarded
  else if st.limitIndex.any (fun m => decide (f.limitCount ≤ m)) then some .limitIndex
  else if ¬ (6 ≤ st.bandLow ∧ st.bandLow ≤ 40) ∨ st.bandHigh < st.bandLow ∨ 40 < st.bandHigh then some .hohBand
  else match st.limitIndex with
    | none => none
    | some m => limitFault (r.limits f m)

/-- The first fault of a CONDITION step's own fields (R14, rows C). Off-cycles holds any 16-bit value. -/
def conditionFault (st : RawStep) : Option RecordField :=
  if st.onCycles < 1 then some .onCycles else if st.repeats < 1 then some .repeats else none

/-- The first fault of a step record (R14). -/
def stepFault (r : Recipe) (f : ProgramFields) (st : RawStep) : Option RecordField :=
  if ¬ (st.kind = 1 ∨ st.kind = 2) then some .kind
  else if ¬ (2000 ≤ st.frequency ∧ st.frequency ≤ 4000000) then some .frequency
  else if ¬ (-12000 ≤ st.level ∧ st.level ≤ 0) then some .level
  else if (Range.ofCode st.range).isNone then some .driveRange
  else if st.kind = 1 then measureFault r f st else conditionFault st

/-- The first faulty step of steps `is`, with its field. -/
def firstStepFault (r : Recipe) (f : ProgramFields) : List Nat → Option (Nat × RecordField)
  | [] => none
  | i :: is =>
    match stepFault r f (r.rawStep f i) with
    | some x => some (i, x)
    | none => firstStepFault r f is

/-- The lowest-numbered other ACTIVE program that shares a row (R17). -/
def Recipe.overlapping (r : Recipe) (e : Nat) (f : ProgramFields) : Option Nat :=
  entryNumbers.find? (fun p =>
    decide (p ≠ e) && (match r.entry p with | .active g => f.overlaps g | .inactive _ | .empty => false))

/-- The checks of R13 to R17, in their order: the first refusal with its data, or none. -/
def Recipe.activationFault (r : Recipe) (e : Nat) (f : ProgramFields) : Option (Reason × List Byte) :=
  if Config.rowCount < f.firstStep + 2 * f.stepCount then some (.range, [0])
  else if Config.rowCount < f.firstLimit + f.limitCount ∧ f.limitCount ≠ 0 then some (.range, [1])
  else if f.firstStep % 2 = 1 then some (.badRecord, optIndex none ++ toBytes 1 RecordField.alignment.code)
  else
    match firstStepFault r f (List.range f.stepCount) with
    | some (i, x) => some (.badRecord, toBytes 2 i ++ toBytes 1 x.code)
    | none =>
      match r.overlapping e f with
      | some p => some (.overlap, toBytes 1 p)
      | none => none

def Recipe.setEntry (r : Recipe) (e : Nat) (d : DirEntry) : Recipe := { r with directory := r.directory.set e d }

def State.setEntry (s : State) (e : Nat) (d : DirEntry) : State := { s with recipe := s.recipe.setEntry e d }

/-- ACTIVATE (R12). -/
def actActivate (bs : List Byte) (s : State) : State × Answer :=
  let e := fieldAt bs 0 1
  if 7 < e then refuse .range [] s
  else
    match s.recipe.entry e with
    | .empty => refuse .noProgram [] s
    | .active _ => answerOnly [] s
    | .inactive f =>
      match s.recipe.activationFault e f with
      | some (reason, data) => refuse reason data s
      | none => (s.setEntry e (.active f), .done [])

/-- DEACTIVATE (R18). -/
def actDeactivate (bs : List Byte) (s : State) : State × Answer :=
  let e := fieldAt bs 0 1
  if 7 < e then refuse .range [] s
  else
    match s.recipe.entry e with
    | .empty => refuse .noProgram [] s
    | .inactive _ => if 0 < s.recipe.uses e then refuse .inUse [] s else answerOnly [] s
    | .active f => if 0 < s.recipe.uses e then refuse .inUse [] s else (s.setEntry e (.inactive f), .done [])

/-! ### Rows (R7 to R9) -/

/-- The lowest-numbered program in use whose regions the written rows touch (R7). -/
def Recipe.usedAt (r : Recipe) (first n : Nat) : Option Nat :=
  entryNumbers.find? (fun p => decide (0 < r.uses p) && (r.entry p).fields.any (fun f => f.touches first n))

/-- The ACTIVE programs whose regions the written rows touch, in ascending order (R8). -/
def Recipe.activeAt (r : Recipe) (first n : Nat) : List Nat :=
  entryNumbers.filter (fun p => match r.entry p with | .active f => f.touches first n | .inactive _ | .empty => false)

/-- A program made INACTIVE. -/
def DirEntry.deactivated : DirEntry → DirEntry
  | .active f => .inactive f
  | .inactive f => .inactive f
  | .empty => .empty

/-- The rows written and the programs they touch made INACTIVE (R8). -/
def Recipe.writeRows (r : Recipe) (first n : Nat) (data : List Byte) : Recipe :=
  { r with rows := Memory.writeMany 0 (16 * first) data r.rows
           directory := r.directory.map (fun d => if d.fields.any (fun f => f.touches first n) then d.deactivated else d) }

/-- WRITE ROWS (R7, R8). -/
def actWriteRows (bs : List Byte) (s : State) : State × Answer :=
  let first := fieldAt bs 0 2
  let n := fieldAt bs 2 2
  let data := bs.drop 4
  if ¬ (1 ≤ n ∧ n ≤ 14) ∨ Config.rowCount < first + n ∨ data.length ≠ 16 * n then refuse .range [] s
  else
    match s.recipe.usedAt first n with
    | some p => refuse .inUse (toBytes 1 p) s
    | none =>
      ({ s with recipe := s.recipe.writeRows first n data }, .done (listBytes (toBytes 1) (s.recipe.activeAt first n)))

/-- READ ROWS (R9): a list of rows. -/
def actReadRows (bs : List Byte) (s : State) : State × Answer :=
  let first := fieldAt bs 0 2
  let n := fieldAt bs 2 2
  if ¬ (1 ≤ n ∧ n ≤ 14) ∨ Config.rowCount < first + n then refuse .range [] s
  else answerOnly (toBytes 1 n ++ s.recipe.readRows first n) s

/-! ### Directory (R10, R11) -/

/-- The operands of WRITE DIRECTORY: an entry number and a 20-byte directory entry; for a state of EMPTY the other bytes
may be left out (R10, log 24). -/
def directoryOperands (bs : List Byte) : Bool :=
  decide (bs.length = 21) || (decide (bs.length = 2) && decide (fieldAt bs 1 1 = 0))

/-- WRITE DIRECTORY (R10). -/
def actWriteDirectory (bs : List Byte) (s : State) : State × Answer :=
  let e := fieldAt bs 0 1
  let st := fieldAt bs 1 1
  if 7 < e ∨ 2 < st then refuse .range [] s
  else if 0 < s.recipe.uses e then refuse .inUse [] s
  else if st = 0 then (s.setEntry e .empty, .done [])
  else
    match ProgramFields.ofBytes (bs.drop 1) with
    | .error i => refuse .range (toBytes 1 i) s
    | .ok f => (s.setEntry e (.inactive f), .done [])

/-- READ DIRECTORY (R11). -/
def actReadDirectory (bs : List Byte) (s : State) : State × Answer :=
  let e := fieldAt bs 0 1
  if 7 < e then refuse .range [] s else answerOnly ((s.recipe.entry e).bytes (s.recipe.uses e)) s

/-! ### Bins (R20) -/

/-- The `n` bin entries of 10 bytes carried from an offset on. -/
def binFieldsAt (bs : List Byte) (off n : Nat) : List (List Byte) := (List.range n).map (fun i => bytesAt bs (off + 10 * i) 10)

/-- Entries written from a class on, all at once. -/
def writeBinsAt : (c : Nat) → List BinEntry → List BinEntry → List BinEntry
  | _, [], table => table
  | c, e :: es, table => writeBinsAt (c + 1) es (table.set c e)

/-- WRITE BINS has a class, a count and ten bytes for each entry counted. A class or count out of its range is the
command's own check 1, so any length passes to it (R20). -/
def binOperands (bs : List Byte) : Bool :=
  decide (2 ≤ bs.length) && (decide (10 < fieldAt bs 1 1) || decide (bs.length = 2 + 10 * fieldAt bs 1 1))

/-- WRITE BINS (R20). Where several entries fail the same check, the lowest such class is named: R20 says "naming that
class" and not which one (DESIGN CHOICE, log 40). -/
def actWriteBins (bs : List Byte) (s : State) : State × Answer :=
  let first := fieldAt bs 0 1
  let n := fieldAt bs 1 1
  let entries := binFieldsAt bs 2 n
  if 9 < first ∨ ¬ (1 ≤ n ∧ n ≤ 10) ∨ 10 < first + n then refuse .range [] s
  else
    match entries.findIdx? binFieldsBad with
    | some i => refuse .range (toBytes 1 (first + i)) s
    | none =>
      match entries.findIdx? binCodeBad with
      | some i => refuse .badRecord (toBytes 1 (first + i) ++ toBytes 1 RecordField.labelCode.code) s
      | none =>
        ({ s with recipe := { s.recipe with bins := writeBinsAt first (entries.map BinEntry.ofBytes) s.recipe.bins } },
          .done [])

/-- READ BINS (R20): the ten entries in class order. -/
def actReadBins (_ : List Byte) (s : State) : State × Answer := answerOnly (s.recipe.bins.flatMap BinEntry.bytes) s

/-! ### Meanings -/

/-- Row commands with data: WRITE ROWS' own check 1 covers the data's length (R7), so four bytes are enough. -/
def rowOperands (bs : List Byte) : Bool := decide (4 ≤ bs.length)

def execWriteRows (s : State) : Host.Outcome State Fault Refusal := .next (takeCommand 0x10 rowOperands actWriteRows s)

def execReadRows (s : State) : Host.Outcome State Fault Refusal := .next (takeCommand 0x11 (operands 4) actReadRows s)

def execWriteDirectory (s : State) : Host.Outcome State Fault Refusal :=
  .next (takeCommand 0x12 directoryOperands actWriteDirectory s)

def execReadDirectory (s : State) : Host.Outcome State Fault Refusal :=
  .next (takeCommand 0x13 (operands 1) actReadDirectory s)

def execActivate (s : State) : Host.Outcome State Fault Refusal := .next (takeCommand 0x14 (operands 1) actActivate s)

def execDeactivate (s : State) : Host.Outcome State Fault Refusal :=
  .next (takeCommand 0x15 (operands 1) actDeactivate s)

def execWriteBins (s : State) : Host.Outcome State Fault Refusal := .next (takeCommand 0x16 binOperands actWriteBins s)

def execReadBins (s : State) : Host.Outcome State Fault Refusal := .next (takeCommand 0x17 (operands 0) actReadBins s)

end Sys2Proof.Machine
end

