-- ==== Sys2Proof/Machine/Reset.lean ====
section
/-! DEFINITION. The POWER-ON reset and the start-up loader (11, R213 to R217, R224), and the meanings of POWER_ON_RESET and
STARTUP_LOAD_END. -/

namespace Sys2Proof.Machine

/-! ### Configuration memory (R211, R212) -/

/-- What an erased byte of the configuration memory reads as (R224; log 13). -/
abbrev erased : Byte := 0xFF

def Port.configBytes (p : Port) (addr n : Nat) : List Byte := Memory.readMany erased p.config addr n

/-- A write that completes (R212). -/
def Port.writeConfig (p : Port) (addr : Nat) (data : List Byte) : Port :=
  { p with config := Memory.writeMany erased addr data p.config }

/-- A write that POWER-ON cut: each byte old or new, as a free value says (R212, log 10). -/
def tornWrite (free : Nat) : (i addr : Nat) → List Byte → List Host.Cell → List Host.Cell
  | _, _, [], m => m
  | i, addr, b :: bs, m =>
    tornWrite free (i + 1) (addr + 1) bs (if Config.byteLanded free i then Memory.write erased addr b m else m)

/-- The configuration memory as a POWER-ON reset finds it. -/
def State.configAtReset (s : State) : List Host.Cell :=
  match s.port.unit with
  | .writing _ addr data => tornWrite s.freeCount 0 addr data s.port.config
  | .idle | .rebooting => s.port.config

/-! ### Reset (R213) -/

/-- The part after POWER-ON: every block at its reset values, STARTING. The configuration memory is kept, and so are the
STOP input's level, the model's own fields, and the events still on their way (log 17, log 21). -/
def State.powerOn (s : State) : State :=
  { State.reset with
      port := { Port.reset with config := s.configAtReset }
      stopLine := s.stopLine, out := s.out, freeCount := s.freeCount + 1, pending := s.pending }

/-! ### The groups (R214 to R216, R224) -/

/-- An examined group: applied when `check` gives the state with it applied. -/
def groupResult (s : State) : Option State → State × GroupResult
  | none => (s, .rejected)
  | some s' => (s', .taken)

def offsetOk (v : Int) : Bool := decide (-20000 ≤ v) && decide (v ≤ 20000)

def loadCal (s : State) : State × GroupResult :=
  let bs := s.port.configBytes 16 8
  let cal : PerNest Int := ⟨signedAt bs 0 2, signedAt bs 2 2, signedAt bs 4 2, signedAt bs 6 2⟩
  groupResult s (if cal.toList.all offsetOk then some { s with analyser := { s.analyser with calibration := cal } } else none)

def loadGuard (s : State) : State × GroupResult :=
  groupResult s (match GuardSettings.ofBytes (s.port.configBytes 24 11) with
    | .error _ => none
    | .ok x => some { s with guard := { (s.guard.withSettings x).clearHold with loud := false } })

/-- The YIELD group, as SET YIELD would set it; the window is empty, so nothing is trimmed (R215). -/
def loadYield (s : State) : State × GroupResult :=
  let bs := s.port.configBytes 40 5
  let w := fieldAt bs 0 2
  let l := fieldAt bs 2 2
  let q := fieldAt bs 4 1
  groupResult s (match yieldFieldBad w l q with
    | some _ => none
    | none => some { s with yield := (s.yield.withSettings w l q).trim w })

def loadMarking (s : State) : State × GroupResult :=
  let t := fieldAt (s.port.configBytes 48 2) 0 2
  groupResult s (if 50 ≤ t ∧ t ≤ 5000 then some { s with marking := { s.marking with ackMs := t } } else none)

def loadBins (s : State) : State × GroupResult :=
  let entries := binFieldsAt (s.port.configBytes 52 100) 0 10
  groupResult s (if entries.any binFieldsBad ∨ entries.any binCodeBad then none
    else some { s with recipe := { s.recipe with bins := entries.map BinEntry.ofBytes } })

def loadNotices (s : State) : State × GroupResult :=
  groupResult s (some
    { s with port := { s.port with enables := .ofByte (Memory.read erased s.port.config 160) } })

/-- Bytes as a memory in canonical form, from an address on. -/
def Memory.ofBytes (d : Byte) : (a : Nat) → List Byte → List Host.Cell
  | _, [] => []
  | a, b :: bs => if b = d then Memory.ofBytes d (a + 1) bs else (a, b) :: Memory.ofBytes d (a + 1) bs

/-- One entry of the directory image taken (R216, cases 1 to 4); refused entries join the list. A field out of range is
named by its position, as WRITE DIRECTORY would name it (log 37). -/
def takeEntry (image : List Byte) (x : Recipe × List FailedEntry) (e : Nat) : Recipe × List FailedEntry :=
  let bs := bytesAt image (20 * e) 20
  let st := fieldAt bs 0 1
  if st = 0 then (x.1.setEntry e .empty, x.2)
  else if 2 < st then (x.1.setEntry e .empty, x.2 ++ [⟨e, .range, []⟩])
  else
    match ProgramFields.ofBytes bs with
    | .error i => (x.1.setEntry e .empty, x.2 ++ [⟨e, .range, toBytes 1 i⟩])
    | .ok f =>
      let r := x.1.setEntry e (.inactive f)
      if st = 1 then (r, x.2)
      else
        match r.activationFault e f with
        | some (reason, data) => (r, x.2 ++ [⟨e, reason, data⟩])
        | none => (r.setEntry e (.active f), x.2)

/-- The rows loaded and the entries taken in order (R216). -/
def takeRecipe (r : Recipe) (image rows : List Byte) : Recipe × List FailedEntry :=
  entryNumbers.foldl (takeEntry image) ({ r with rows := Memory.ofBytes 0 0 rows }, [])

def loadRecipe (s : State) : (State × GroupResult) × List FailedEntry :=
  let image := s.port.configBytes 256 160
  let rows := s.port.configBytes 1024 65536
  if fieldAt (s.port.configBytes 416 4) 0 4 = (crc32 (image ++ rows)).toNat then
    let x := takeRecipe s.recipe image rows
    (({ s with recipe := x.1 }, .taken), x.2)
  else ((s, .checkFail), [])

/-- Whether group `i`'s accept code is 01. -/
def accepted (control i : Nat) : Bool := decide (control / 4 ^ i % 4 = 1)

/-- A group examined when accepted, and left at its defaults otherwise (R214). -/
def loadGroup (control i : Nat) (load : State → State × GroupResult) (s : State) : State × GroupResult :=
  if accepted control i then load s else (s, .default)

/-- The identification block is the one of R224. -/
def Port.hasImage (p : Port) : Bool :=
  decide (fieldAt (p.configBytes 0 4) 0 4 = 0x47583436) && decide (fieldAt (p.configBytes 4 1) 0 1 = 1)

/-- The groups in the order of R214, with the start-up result. -/
def State.loadGroups (s : State) : State × StartupResult :=
  let control := fieldAt (s.port.configBytes 6 2) 0 2
  let cal := loadGroup control 0 loadCal s
  let guard := loadGroup control 1 loadGuard cal.1
  let yld := loadGroup control 2 loadYield guard.1
  let marking := loadGroup control 3 loadMarking yld.1
  let bins := loadGroup control 4 loadBins marking.1
  let recipe := if accepted control 5 then loadRecipe bins.1 else ((bins.1, GroupResult.default), [])
  let notices := loadGroup control 6 loadNotices recipe.1.1
  (notices.1, ⟨[cal.2, guard.2, yld.2, marking.2, bins.2, recipe.1.2, notices.2], recipe.2⟩)

/-- The start-up load (R214). -/
def State.startupLoad (s : State) : State × StartupResult :=
  if s.port.hasImage then s.loadGroups else (s, ⟨List.replicate 7 .noImage, []⟩)

/-- The end of the load: the part READY with its result. -/
def State.endLoad (s : State) : State :=
  let r := s.startupLoad
  { r.1 with port := { r.1.port with part := .ready, startup := r.2 } }

/-! ### Meanings -/

/-- POWER_ON_RESET (R213). -/
def execPowerOnReset (s : State) : Host.Outcome State Fault Refusal := .next s.powerOn

/-- STARTUP_LOAD_END (R214): every group is applied here (log 15). -/
def execStartupLoadEnd (s : State) : Host.Outcome State Fault Refusal :=
  .next (if s.port.part = .starting then s.endLoad else s)

end Sys2Proof.Machine
end

