-- ==== Sys2Proof/Machine/LinePort.lean ====
section
/-! DEFINITION. The line port (11): cells, the upstream arbiter, and the meanings of CELL_ARRIVAL, ARBITER_SLOT,
CONFIG_WRITE_COMPLETE, UNKNOWN_COMMAND, STATUS, SET NOTICES, SET TAP, RESTART, REBOOT, CONFIG READ and CONFIG WRITE. -/

namespace Sys2Proof.Machine

/-! ### Cells received (R195 to R197) -/

/-- A cell that the part does not discard on arrival. -/
inductive Cell where
  | command (c : CommandCell)
  | stream (n : Nest) (samples : List Sample)
  deriving DecidableEq, Repr

/-- The 24-bit samples of some bytes, three bytes each. -/
def samplesOf (bs : List Byte) : (n : Nat) → List Sample
  | 0 => []
  | n + 1 => BitVec.ofNat 24 (fieldAt bs 0 3) :: samplesOf (bs.drop 3) n

/-- A cell's check and length (R195); bytes that are not as many as the length byte says are a bad cell (log 35). -/
def cellGood (bs : List Byte) : Bool :=
  let n := fieldAt bs 2 1
  decide (n ≤ 240) && decide (bs.length = n + 5) && decide (fieldAt bs (3 + n) 2 = (crc16 (bs.take (3 + n))).toNat)

/-- The cell received, or none for a bad one (R195, R197). -/
def Cell.ofBytes (bs : List Byte) : Option Cell :=
  let n := fieldAt bs 2 1
  let payload := bytesAt bs 3 n
  if cellGood bs then
    if fieldAt bs 0 1 = 1 then some (.command ⟨bs.getD 1 0, payload⟩)
    else if fieldAt bs 0 1 = 2 then
      match Nest.ofNum (fieldAt bs 1 1) with
      | none => none
      | some nest => if n = 144 then some (.stream nest (samplesOf payload Config.cellSamples)) else none
    else none
  else none

/-- A good COMMAND cell (R196). -/
def Port.takeCell (p : Port) (c : CommandCell) : Port :=
  if p.commands.length < 8 then { p with commands := p.commands ++ [c] }
  else { p with commandOverruns := count p.commandOverruns 1, overrunFlag := true }

/-- A STREAM cell for a nest in a given state (R197). -/
def Port.takeStream (p : Port) (q : NestState) (n : Nest) (xs : List Sample) : Port :=
  if q = .reserved then p.appendStream n xs else { p with streamDiscards := count p.streamDiscards 1 }

/-- CELL_ARRIVAL (R195). -/
def execCellArrival (bytes : List Byte) (s : State) : Host.Outcome State Fault Refusal :=
  .next { s with port :=
    match Cell.ofBytes bytes with
    | none => { s.port with badCells := count s.port.badCells 1 }
    | some (.command c) => s.port.takeCell c
    | some (.stream n xs) => s.port.takeStream (s.nest n).state n xs }

/-! ### The arbiter (R206) -/

/-- The lowest-numbered nest whose pending pace state is present. -/
def Port.paceReady (p : Port) : Option (Nest × PaceState) :=
  Nest.order.findSome? (fun n => (p.pace.get n).pendingState.map (fun x => (n, x)))

/-- The cell chosen for a slot, and the port with it gone from its source. -/
def Port.slot (p : Port) : Option (List Byte) × Port :=
  match p.paceReady with
  | some (n, x) => (some (paceCell n x), { p with pace := p.pace.set n ⟨x, none⟩ })
  | none =>
    match p.replies with
    | r :: rest => (some r.cell, { p with replies := rest })
    | [] =>
      match p.notices with
      | x :: rest => (some x.cell, { p with notices := rest })
      | [] =>
        match p.tapQueue with
        | t :: rest => (some t.cell, { p with tapQueue := rest })
        | [] => (none, p)

/-- Whether a slot sends the REBOOT reply: the last reply, with the command unit waiting on it (R210). -/
def Port.sendsReboot (p : Port) : Bool :=
  decide (p.unit = .rebooting) && p.paceReady.isNone && decide (p.replies.length = 1)

/-- ARBITER_SLOT (R206): after the REBOOT reply the part is reset as at POWER-ON (R210). -/
def execArbiterSlot (s : State) : Host.Outcome State Fault Refusal :=
  let x := s.port.slot
  let s1 : State := { s with port := x.2, out := { s.out with upstream := x.1 } }
  .next (if s.port.sendsReboot then s1.powerOn else s1)

/-! ### Configuration memory (R211, R212) -/

/-- Whether an address and a length lie outside the configuration memory's bounds. -/
def configOutside (addr n : Nat) : Bool := !(decide (1 ≤ n) && decide (n ≤ 64) && decide (addr + n ≤ Config.configSize))

/-- CONFIG READ (R211): a list of bytes. -/
def actConfigRead (bs : List Byte) (s : State) : State × Answer :=
  let addr := fieldAt bs 0 4
  let n := fieldAt bs 4 1
  if configOutside addr n then refuse .range [] s else answerOnly (toBytes 1 n ++ s.port.configBytes addr n) s

/-- CONFIG WRITE (R212): the write begins, and the command unit stays BUSY with it. -/
def actConfigWrite (tag : Byte) (bs : List Byte) (s : State) : State × Answer :=
  let addr := fieldAt bs 0 4
  let n := fieldAt bs 4 1
  let data := bs.drop 5
  if configOutside addr n ∨ data.length ≠ n then refuse .range [] s
  else ({ s with port := { s.port with unit := .writing tag addr data } }, .later)

/-- The tag of the command cell at the head of the command queue. -/
def State.headTag (s : State) : Byte := (s.port.commands.head?.map CommandCell.tag).getD 0

/-- CONFIG_WRITE_COMPLETE (R212): the bytes hold the data, the unit is IDLE, the reply joins. -/
def execConfigWriteComplete (s : State) : Host.Outcome State Fault Refusal :=
  .next (match s.port.unit with
    | .writing tag addr data =>
      ({ s with port := { s.port.writeConfig addr data with unit := .idle } } : State).reply ⟨tag, 0x76, none, []⟩
    | .idle | .rebooting => s)

/-! ### The port's own commands (R203 to R210) -/

def StartupResult.bytes (r : StartupResult) : List Byte :=
  r.groups.flatMap (fun g => toBytes 1 g.code) ++
  listBytes (fun f => toBytes 1 f.entry ++ toBytes 1 f.reason.code ++ f.data) r.failed

/-- STATUS's data in R207's order. The overrun flag is sent as 1 for set and 0 for clear, as a yes/no byte: R218 lists no
flag, and the state table names its values 'set, clear' (DESIGN CHOICE, log 11). -/
def State.statusBytes (s : State) : List Byte :=
  let p := s.port
  toBytes 2 4406 ++ toBytes 1 1 ++ p.startup.bytes ++
  toBytes 1 s.link.state.code ++ toBytes 4 s.link.badFrames ++ toBytes 4 s.link.missingFrames ++
  toBytes 4 s.link.linkDowns ++ toBytes 1 s.yield.line.code ++ toBytes 1 p.enables.code ++
  toBytes 2 p.tapSelection.toNat ++ toBytes 4 p.badCells ++ toBytes 4 p.commandOverruns ++ toBytes 4 p.noticeDrops ++
  toBytes 4 p.tapDrops ++ toBytes 4 p.streamDiscards ++
  Nest.order.flatMap (fun n => toBytes 4 (p.streamOverruns.get n) ++ toBytes 4 (p.streamUnderruns.get n)) ++
  Nest.order.flatMap (fun n =>
    toBytes 1 (p.pace.get n).lastSent.code ++ optByte ((p.pace.get n).pendingState.map PaceState.code)) ++
  boolByte p.overrunFlag

/-- STATUS (R207): the reply, then the overrun flag is clear (R196). -/
def actStatus (_ : List Byte) (s : State) : State × Answer :=
  ({ s with port := { s.port with overrunFlag := false } }, .done s.statusBytes)

/-- SET NOTICES (R203). -/
def actSetNotices (bs : List Byte) (s : State) : State × Answer :=
  ({ s with port := { s.port with enables := .ofByte (bs.headD 0) } }, .done [])

/-- The accumulators under a new selection: kept for a channel that stays selected, empty otherwise (R205). -/
def Port.select (p : Port) (sel : BitVec 9) : Port :=
  { p with tapSelection := sel
           taps := (List.range 9).map (fun i =>
             if sel.getLsbD i && p.tapSelection.getLsbD i then p.taps.getD i .empty else .empty) }

/-- SET TAP (R205): bits 9 to 15 name channels outside 1 to 9. -/
def actSetTap (bs : List Byte) (s : State) : State × Answer :=
  let sel := fieldAt bs 0 2
  if 512 ≤ sel then refuse .range [] s else ({ s with port := s.port.select (BitVec.ofNat 9 sel) }, .done [])

/-- RESTART (R209): nests in nest order, labels, capture ring. -/
def State.restart (s : State) : State :=
  let s1 := (inNestOrder State.restartNest s).restartMarking
  { s1 with capture := s1.capture.emptied }

def actRestart (_ : List Byte) (s : State) : State × Answer := (s.restart, .done [])

/-- REBOOT (R210): the reply joins and the command unit waits for it to be sent. -/
def actReboot (_ : List Byte) (s : State) : State × Answer :=
  ({ s with port := { s.port with unit := .rebooting } }, .done [])

/-- A command cell whose payload has no code, or a code that is in no catalogue. -/
def CommandCell.unknown (c : CommandCell) : Bool :=
  match c.payload with
  | [] => true
  | code :: _ => !catalogue.contains code

/-- UNKNOWN_COMMAND (R200, checks 1 and 2). -/
def execUnknownCommand (s : State) : Host.Outcome State Fault Refusal :=
  .next (match s.port.takeable with
    | none => s
    | some cell =>
      if cell.unknown then
        s.popCommand.answer cell (.refused (if s.port.part = .starting then .starting else .unknown) [])
      else s)

def execStatus (s : State) : Host.Outcome State Fault Refusal := .next (takeCommand 0x70 (operands 0) actStatus s)

def execSetNotices (s : State) : Host.Outcome State Fault Refusal :=
  .next (takeCommand 0x71 (operands 1) actSetNotices s)

def execSetTap (s : State) : Host.Outcome State Fault Refusal := .next (takeCommand 0x72 (operands 2) actSetTap s)

def execRestart (s : State) : Host.Outcome State Fault Refusal := .next (takeCommand 0x73 (operands 0) actRestart s)

def execReboot (s : State) : Host.Outcome State Fault Refusal := .next (takeCommand 0x74 (operands 0) actReboot s)

def execConfigRead (s : State) : Host.Outcome State Fault Refusal :=
  .next (takeCommand 0x75 (operands 5) actConfigRead s)

/-- CONFIG WRITE's own check covers the data's length, so five bytes are enough (R212). -/
def writeOperands (bs : List Byte) : Bool := decide (5 ≤ bs.length)

def execConfigWrite (s : State) : Host.Outcome State Fault Refusal :=
  .next (takeCommand 0x76 writeOperands (actConfigWrite s.headTag) s)

end Sys2Proof.Machine
end

