-- ==== Sys2Proof/Machine/Dispatch.lean ====
section
/-! DEFINITION. One meaning for each command. -/

namespace Sys2Proof.Machine

def exec (i : Instr) (s : State) : Host.Outcome State Fault Refusal :=
  match i with
  | .powerOnReset => Sys2Proof.Machine.execPowerOnReset s
  | .startupLoadEnd => Sys2Proof.Machine.execStartupLoadEnd s
  | .frameArrival bytes => Sys2Proof.Machine.execFrameArrival bytes s
  | .acquisitionComplete => Sys2Proof.Machine.execAcquisitionComplete s
  | .badRunLimit => Sys2Proof.Machine.execBadRunLimit s
  | .silenceTimeout => Sys2Proof.Machine.execSilenceTimeout s
  | .tapCellFormed channel => Sys2Proof.Machine.execTapCellFormed channel s
  | .guardBlockEnd => Sys2Proof.Machine.execGuardBlockEnd s
  | .guardHoldEnd => Sys2Proof.Machine.execGuardHoldEnd s
  | .gapPhaseEnd n => Sys2Proof.Machine.execGapPhaseEnd n s
  | .settleTimeElapsed n => Sys2Proof.Machine.execSettleTimeElapsed n s
  | .settleBlockEnd n => Sys2Proof.Machine.execSettleBlockEnd n s
  | .settleCapReached n => Sys2Proof.Machine.execSettleCapReached n s
  | .laneGrant => Sys2Proof.Machine.execLaneGrant s
  | .windowComplete n => Sys2Proof.Machine.execWindowComplete n s
  | .evaluationComplete n => Sys2Proof.Machine.execEvaluationComplete n s
  | .burstCountEnd n => Sys2Proof.Machine.execBurstCountEnd n s
  | .glideEnd n => Sys2Proof.Machine.execGlideEnd n s
  | .rampEnd n => Sys2Proof.Machine.execRampEnd n s
  | .deadlineExpiry n => Sys2Proof.Machine.execDeadlineExpiry n s
  | .stopLineAssert => Sys2Proof.Machine.execStopLineAssert s
  | .stopLineRelease => Sys2Proof.Machine.execStopLineRelease s
  | .cellArrival bytes => Sys2Proof.Machine.execCellArrival bytes s
  | .arbiterSlot => Sys2Proof.Machine.execArbiterSlot s
  | .slotFill => Sys2Proof.Machine.execSlotFill s
  | .messageStart => Sys2Proof.Machine.execMessageStart s
  | .labelMessageSent => Sys2Proof.Machine.execLabelMessageSent s
  | .markingCharacter data parity stop => Sys2Proof.Machine.execMarkingCharacter data parity stop s
  | .ackTimeout slot => Sys2Proof.Machine.execAckTimeout slot s
  | .configWriteComplete => Sys2Proof.Machine.execConfigWriteComplete s
  | .writeRows => Sys2Proof.Machine.execWriteRows s
  | .readRows => Sys2Proof.Machine.execReadRows s
  | .writeDirectory => Sys2Proof.Machine.execWriteDirectory s
  | .readDirectory => Sys2Proof.Machine.execReadDirectory s
  | .activate => Sys2Proof.Machine.execActivate s
  | .deactivate => Sys2Proof.Machine.execDeactivate s
  | .writeBins => Sys2Proof.Machine.execWriteBins s
  | .readBins => Sys2Proof.Machine.execReadBins s
  | .arrive => Sys2Proof.Machine.execArrive s
  | .release => Sys2Proof.Machine.execRelease s
  | .abort => Sys2Proof.Machine.execAbort s
  | .stop => Sys2Proof.Machine.execStop s
  | .reserveStream => Sys2Proof.Machine.execReserveStream s
  | .releaseStream => Sys2Proof.Machine.execReleaseStream s
  | .setCalibration => Sys2Proof.Machine.execSetCalibration s
  | .readCalibration => Sys2Proof.Machine.execReadCalibration s
  | .readLanes => Sys2Proof.Machine.execReadLanes s
  | .setGuard => Sys2Proof.Machine.execSetGuard s
  | .readGuard => Sys2Proof.Machine.execReadGuard s
  | .readUnit => Sys2Proof.Machine.execReadUnit s
  | .setMarking => Sys2Proof.Machine.execSetMarking s
  | .readMarking => Sys2Proof.Machine.execReadMarking s
  | .readCounts => Sys2Proof.Machine.execReadCounts s
  | .clearCounts => Sys2Proof.Machine.execClearCounts s
  | .resumeLine => Sys2Proof.Machine.execResumeLine s
  | .enableNest => Sys2Proof.Machine.execEnableNest s
  | .setYield => Sys2Proof.Machine.execSetYield s
  | .readYield => Sys2Proof.Machine.execReadYield s
  | .captureHead => Sys2Proof.Machine.execCaptureHead s
  | .captureRead => Sys2Proof.Machine.execCaptureRead s
  | .captureDrop => Sys2Proof.Machine.execCaptureDrop s
  | .readCapture => Sys2Proof.Machine.execReadCapture s
  | .status => Sys2Proof.Machine.execStatus s
  | .setNotices => Sys2Proof.Machine.execSetNotices s
  | .setTap => Sys2Proof.Machine.execSetTap s
  | .restart => Sys2Proof.Machine.execRestart s
  | .reboot => Sys2Proof.Machine.execReboot s
  | .configRead => Sys2Proof.Machine.execConfigRead s
  | .configWrite => Sys2Proof.Machine.execConfigWrite s
  | .unknownCommand => Sys2Proof.Machine.execUnknownCommand s
  | .transmitterStopped => Sys2Proof.Machine.execTransmitterStopped s

end Sys2Proof.Machine
end

