-- ==== Sys2Proof/Safety.lean ====
section
/-! DEFINITION. The properties of states that every step keeps, and the words the statements use for a command that is
about to be taken. -/

namespace Sys2Proof.Machine

/-! ### Invariants -/

/-- The yield window holds at most W entries, and the pass count is the number of its PASS entries (R164). -/
def Yield.ok (y : Yield) : Prop := y.window.length ≤ y.windowLength ∧ y.passCount = passesIn y.window

/-- The pool has 64 lanes (R84). -/
def Analyser.pool (a : Analyser) : Prop := a.lanes.length = 64

/-- No retry count exceeds its program's retry budget (R49, R123). -/
def State.retriesOk (s : State) : Prop := ∀ n, (s.nest n).retries ≤ (s.nest n).settings.retryBudget

/-- Recipe rows, configuration memory and ring words are in canonical form. -/
def State.memoriesOk (s : State) : Prop :=
  Memory.wf 0 s.recipe.rows = true ∧ Memory.wf erased s.port.config = true ∧ Memory.wf 0 s.capture.words = true

/-- The tables have the sizes of R5, R6, R19 and R126. -/
def State.tablesOk (s : State) : Prop :=
  s.recipe.directory.length = 8 ∧ s.recipe.useCount.length = 8 ∧ s.recipe.bins.length = 10 ∧ s.records.length = 14

/-- The port's queues, its nine accumulators and its stream buffers stay within their sizes (R196, R198, R201, R202, R204);
a configuration write in progress leaves room for its reply (R200, R212). -/
def Port.bounded (p : Port) : Prop :=
  p.commands.length ≤ 8 ∧ p.replies.length ≤ 8 ∧ (p.replies.length < 8 ∨ ∀ tag addr data, p.unit ≠ .writing tag addr data) ∧
  p.notices.length ≤ 32 ∧ p.tapQueue.length ≤ 8 ∧ p.taps.length = 9 ∧ (∀ t ∈ p.taps, t.samples.length < 48) ∧
  ∀ n, (p.streams.get n).length ≤ 2048

/-! ### Sound states

Who holds what: the lane pool against the nest states (R84, R87), the record table against its holders (R37, R126). -/

/-- A nest's entries in the lane request queue. -/
def State.requests (s : State) (n : Nest) : Nat := s.analyser.queue.countP (fun r => decide (r.nest = n))

/-- GUARD_WAIT, WINDOW and EVALUATE: the states in which a nest holds lanes (R84). -/
def NestState.mayHoldLanes : NestState → Bool
  | .guardWait | .window | .evaluate => true
  | .idle | .reserved | .gap | .settle | .condition | .waitLanes | .judged => false

/-- A nest in WAIT_LANES has exactly one request and a nest in any other state none, a request's size is its plan's
length, and a nest holds lanes in GUARD_WAIT, WINDOW and EVALUATE alone (R84, R86, R87). -/
def State.poolOk (s : State) : Prop :=
  (∀ n, s.requests n = if (s.nest n).state = .waitLanes then 1 else 0) ∧
  (∀ n, s.analyser.lanesOf n ≠ 0 → (s.nest n).state.mayHoldLanes = true) ∧
  ∀ r ∈ s.analyser.queue, r.size = r.plan.length

/-- Running or JUDGED: the states in which a nest holds a unit record (R37). -/
def NestState.holdsUnit (q : NestState) : Bool := q.running || decide (q = .judged)

/-- Every record id held: by the nests, the label queue and the slots. -/
def State.holders (s : State) : List Nat :=
  Nest.order.flatMap (fun n => (s.nest n).record.toList) ++ s.marking.queue ++
  (s.marking.slotA.record.toList ++ s.marking.slotB.record.toList)

/-- A record that is not FREE has exactly one holder, a nest holds a record exactly when it is running or JUDGED, a FREE
slot holds none, and the label queue holds at most 8 (R37, R126, R144, R145). -/
def State.unitsOk (s : State) : Prop :=
  s.records.length = 14 ∧ s.holders.Nodup ∧ (∀ id, id ∈ s.holders ↔ (s.record id).state ≠ .free) ∧
  (∀ n, (s.nest n).record.isSome = (s.nest n).state.holdsUnit) ∧
  (∀ i, (s.marking.slot i).state = .free → (s.marking.slot i).record = none) ∧ s.marking.queue.length ≤ 8

/-- Both at once: the second is kept only where the first holds. -/
def State.sound (s : State) : Prop := s.poolOk ∧ s.unitsOk

/-- The running nests whose unit plays program `p`. -/
def State.playing (s : State) (p : Nat) : List Nest :=
  Nest.order.filter (fun n => (s.nest n).state.running && decide ((s.nest n).program = some p))

/-- A program's use count is the number of running units it plays (R6, R39, R53, R59). -/
def State.usesOk (s : State) : Prop := ∀ p, s.recipe.uses p = (s.playing p).length

/-- The capture ring's occupied words are the words of its records, and they fit (R178). -/
def Capture.ok (c : Capture) : Prop :=
  c.occupied = (c.records.map CaptureRecord.size).sum ∧ c.occupied ≤ Config.ringSize

/-! ### What a statement says stays as it was -/

/-- What no frame and no event of the nests, the lanes, the guard or the labels changes: rows, directory and bin table,
the port but for its notices, buffers and tap, the STOP input and the queue of events. -/
structure State.Keeps (s t : State) : Prop where
  rows : t.recipe.rows = s.recipe.rows
  directory : t.recipe.directory = s.recipe.directory
  bins : t.recipe.bins = s.recipe.bins
  commands : t.port.commands = s.port.commands
  unit : t.port.unit = s.port.unit
  overrunFlag : t.port.overrunFlag = s.port.overrunFlag
  replies : t.port.replies = s.port.replies
  enables : t.port.enables = s.port.enables
  tapSelection : t.port.tapSelection = s.port.tapSelection
  part : t.port.part = s.port.part
  startup : t.port.startup = s.port.startup
  config : t.port.config = s.port.config
  stopLine : t.stopLine = s.stopLine
  pending : t.pending = s.pending

/-- The same, with the link, the tap and the link outputs, for an event that is no frame. -/
structure State.KeepsLink (s t : State) : Prop extends State.Keeps s t where
  link : t.link = s.link
  taps : t.port.taps = s.port.taps
  tapQueue : t.port.tapQueue = s.port.tapQueue
  out : t.out = s.out

/-! ### Words of the chapters -/

/-- A saturating counter after `k` events. -/
def counterAfter (c k : Nat) : Nat := if k = 0 then c else count c k

/-- a / b to the nearest integer, one half going to the integer of larger magnitude. -/
def halfAway (a : Int) (b : Nat) : Int := a.sign * ((2 * a.natAbs + b) / (2 * b) : Nat)

/-- A nest's generator as the frame finds it: on a gap's silent frames the range code is the pending one, and on its first
ramp-up frame the whole pending step has had its effect (R69, R71, R73, R75). -/
def State.begun (s : State) (n : Nest) : Tone :=
  let w := s.tone n
  match (s.nest n).gap.map Gap.phase, w.pendingStep with
  | some .silence, some p => { w with range := p.range }
  | some .rampUp, some p =>
    { w with range := p.range, increment := incrementOf p.frequency, amplitude := amplitudeOf p.level, glide := none
             burstMute := false, burst := none, envelope := .rampUp 0, pendingStep := none }
  | _, _ => w

/-- The amplitude A for the frame: the held one, or the glide's value for its next frame (R72, R78). -/
def Tone.amplitudeNow (w : Tone) : Nat :=
  match w.glide with
  | none => w.amplitude
  | some g => ((g.start : Int) + halfAway (((g.target : Int) - g.start) * (g.done + 1)) 192).toNat

/-- The envelope position r for the frame: 192 when FULL, else what the ramp gives its next frame (R72 to R74). -/
def Tone.positionNow (w : Tone) : Nat :=
  match w.envelope with
  | .silent => 0
  | .rampUp d => d
  | .full => 192
  | .rampDown r d => (2 * (r * (192 - (d + 1))) + 192) / (2 * 192)

/-- The generator's output for the frame (R70, R72). -/
def Tone.sampleNow (w : Tone) (stopLine : Bool) : Sample :=
  if stopLine = true ∨ w.envelope = .silent ∨ w.burstMute = true then 0
  else BitVec.ofInt 24
    (halfAway ((w.amplitudeNow : Int) * sineEntry (w.phase.toNat / 2 ^ 18) * w.positionNow) (32767 * 192))

/-- The generator after the frame is formed: the phase one increment on, the envelope and the glide one frame on (R68, R73,
R74, R78). -/
def Tone.oneFrameOn (w : Tone) : Tone :=
  { w with
      phase := w.phase + w.increment
      envelope :=
        match w.envelope with
        | .silent => .silent
        | .rampUp d => if 192 ≤ d + 1 then .full else .rampUp (d + 1)
        | .full => .full
        | .rampDown r d => if 192 ≤ d + 1 then .silent else .rampDown r (d + 1)
      amplitude :=
        match w.glide with
        | none => w.amplitude
        | some g => if 192 ≤ g.done + 1 then g.target else w.amplitudeNow
      glide :=
        match w.glide with
        | none => none
        | some g => if 192 ≤ g.done + 1 then none else some { g with done := g.done + 1 } }

/-- A nest's drive sample for the frame about to be produced (R34). -/
def State.driveOf (s : State) (n : Nest) : Sample :=
  if (s.nest n).state = .reserved then (s.port.streams.get n).headD 0 else (s.begun n).sampleNow s.stopLine

/-- What nest `n` of `s`, ended by `t`, has given back (R54, R89, R90, R185): lanes, request, evaluation, and the record of
its provisional mark, which is VOID or has left the ring. -/
def State.givenBack (s t : State) (n : Nest) : Prop :=
  t.analyser.lanesOf n = 0 ∧ t.requests n = 0 ∧
  ((s.nest n).state = .evaluate → t.analyser.evaluation.get n = none) ∧
  ((s.nest n).state = .window ∨ (s.nest n).state = .evaluate →
    t.capture.mark.get n = none ∧
    ∀ r, s.capture.provisional n = some r → ∀ x ∈ t.capture.records, x.owner = n → x.start = r.start →
      x.state = .void ∨ (x ∈ s.capture.records ∧ x.state ≠ .provisional))

/-- The same where nest `n` alone has ended: the queue without its request, but for the heads the grant check took; every
lane back where nobody waits; the record VOID in its place (R88 to R90, R185). -/
def State.gaveBackAlone (s t : State) (n : Nest) : Prop :=
  s.givenBack t n ∧ t.analyser.queue <:+ s.analyser.queue.filter (fun r => decide (r.nest ≠ n)) ∧
  (s.analyser.queue = [] → t.analyser.freeLanes = s.analyser.freeLanes + s.analyser.lanesOf n) ∧
  ((s.nest n).state = .window ∨ (s.nest n).state = .evaluate →
    ∀ r, s.capture.provisional n = some r → { r with state := .void } ∈ t.capture.records)

/-- The events that take the link out of LINK_UP: a good frame with a gap of 96 or more (R26), the sixteenth bad frame
(R27), the silence timer (R28). -/
def State.leavesLinkUp (s : State) : Instr → Prop
  | .frameArrival bytes =>
    s.link.state = .linkUp ∧
      ((∃ f k, UpstreamFrame.ofBytes bytes = some f ∧ s.link.lastNumber = some k ∧ 96 ≤ (f.number - (k + 1)).toNat) ∨
        (UpstreamFrame.ofBytes bytes = none ∧ 15 ≤ s.link.badRun))
  | .badRunLimit => s.link.state = .linkUp ∧ 16 ≤ s.link.badRun
  | .silenceTimeout => s.link.state = .linkUp ∧ s.link.silenceRunning = true
  | _ => False

/-- A program's step region or limit region holds a row (R2). -/
def ProgramFields.hasRow (f : ProgramFields) (row : Nat) : Prop :=
  (f.firstStep ≤ row ∧ row < f.firstStep + 2 * f.stepCount) ∨ (f.firstLimit ≤ row ∧ row < f.firstLimit + f.limitCount)

/-- Some of the rows from `first` on lies in the program's regions. -/
def ProgramFields.meets (f : ProgramFields) (first n : Nat) : Prop :=
  ∃ row, first ≤ row ∧ row < first + n ∧ f.hasRow row

/-- The nest's present step is the unit's last, or has failed under stop-on-fail (R51). -/
def State.lastStep (s : State) (n : Nest) (failed : Bool) : Prop :=
  (failed = true ∧ (s.nest n).settings.stopOnFail = true) ∨
    ∃ p f, (s.nest n).program = some p ∧ (s.recipe.entry p).fields = some f ∧ f.stepCount ≤ (s.nest n).stepIndex + 1

/-! ### One frame in LINK_UP (R40)

What a good frame `f`, arriving in sequence, does to the guard and to a nest; `s` is before it and `t` after it. -/

/-- The level of the guard block that the frame completes, if it does (R112). -/
def State.blockOn (s : State) (f : UpstreamFrame) : Option Int :=
  if s.guard.position + 1 = 240 then some (blockLevel (s.guard.sum + (f.samples.getD 4 0).toInt.natAbs ^ 2)) else none

/-- The frame has a cause for the guard: PEAK, OVERLOAD or BLOCK (R113 to R115). -/
def State.causeOn (s : State) (f : UpstreamFrame) : Prop :=
  (∃ p, s.guard.peak = some p ∧ p < (f.samples.getD 4 0).toInt.natAbs) ∨ f.overloads.getD 4 false = true ∨
  ∃ b, s.blockOn f = some b ∧ (if s.guard.loud then s.guard.threshold - s.guard.hysteresis else s.guard.threshold) < b

/-- The guard enters LOUD on the frame (R114). -/
def State.loudOn (s : State) (f : UpstreamFrame) : Prop :=
  s.guard.enable = true ∧ s.guard.loud = false ∧ s.causeOn f

/-- The guard after the frame: block, entry, hold (R111 to R116). -/
def State.guardCounted (s t : State) (f : UpstreamFrame) : Prop :=
  let g := s.guard
  let x := (f.samples.getD 4 0).toInt.natAbs
  t.guard.position = (if g.position + 1 = 240 then 0 else g.position + 1) ∧
  t.guard.sum = (if g.position + 1 = 240 then 0 else g.sum + x ^ 2) ∧
  t.guard.lastLevel = (match s.blockOn f with | some b => some b | none => g.lastLevel) ∧
  (g.enable = false → t.guard.loud = g.loud ∧ t.guard.holdCount = g.holdCount ∧ t.guard.loudEntries = g.loudEntries) ∧
  (g.enable = true → g.loud = false →
    (s.causeOn f → t.guard.loud = true ∧ t.guard.holdCount = 0 ∧ t.guard.loudEntries = count g.loudEntries 1) ∧
    (¬ s.causeOn f → t.guard.loud = false ∧ t.guard.holdCount = g.holdCount ∧ t.guard.loudEntries = g.loudEntries)) ∧
  (g.enable = true → g.loud = true →
    t.guard.loudEntries = g.loudEntries ∧
    (s.causeOn f → t.guard.loud = true ∧ t.guard.holdCount = 0 ∧ t.guard.peakSince = 0 ∧ t.guard.loudestSince = none) ∧
    (¬ s.causeOn f → g.holdCount + 1 < 96 * g.holdMs →
      t.guard.loud = true ∧ t.guard.holdCount = g.holdCount + 1 ∧ t.guard.peakSince = max g.peakSince x ∧
      t.guard.loudestSince = maxLevel g.loudestSince (s.blockOn f)) ∧
    (¬ s.causeOn f → 96 * g.holdMs ≤ g.holdCount + 1 →
      t.guard.loud = false ∧ t.guard.holdCount = 0 ∧ t.guard.peakSince = 0 ∧ t.guard.loudestSince = none))

/-- The ack timers after the frame, in ACQUIRING too: one frame less in AWAIT_ACK, and where none is left the record retired
NO_ACK (R148, R153). -/
def State.acksCounted (s t : State) : Prop :=
  let due := fun (i : SlotId) => (s.marking.slot i).state = .awaitAck ∧ (s.marking.slot i).ackLeft ≤ 1
  let expired := [SlotId.a, SlotId.b].filter (fun i => decide (due i) && (s.marking.slot i).record.isSome)
  (∀ i, (s.marking.slot i).state = .awaitAck → 2 ≤ (s.marking.slot i).ackLeft →
    t.marking.slot i = { s.marking.slot i with ackLeft := (s.marking.slot i).ackLeft - 1 }) ∧
  (∀ i, (s.marking.slot i).state ≠ .awaitAck → (∀ j, ¬ due j) → t.marking.slot i = s.marking.slot i) ∧
  (∀ i id, due i → (s.marking.slot i).record = some id →
    (t.marking.slot i).state ≠ .awaitAck ∧ t.record id = .free) ∧
  t.yield.counts.noAck = counterAfter s.yield.counts.noAck expired.length

/-- The tap after the frame `f` in sequence (R204): each selected channel's accumulator one sample longer, with its first
index and its flags; the full ones made cells in channel order, queued while there is room and counted where there is
none. -/
def State.tapsCounted (s t : State) (f : UpstreamFrame) : Prop :=
  let xs := f.samples ++ [s.driveOf .n1, s.driveOf .n2, s.driveOf .n3, s.driveOf .n4]
  let selected := fun (i : Nat) => s.port.tapSelection.getLsbD i
  let grown := fun (i : Nat) =>
    let a := s.port.taps.getD i .empty
    (⟨if a.samples = [] then s.link.frameIndex + 1 else a.first, a.samples ++ [(xs.getD i 0, false)]⟩ : TapAccumulator)
  let formed :=
    ((List.range 9).filter (fun i => selected i && decide ((grown i).samples.length = 48))).map
      (fun i => (⟨i + 1, (grown i).first, (grown i).samples⟩ : TapCell))
  let room := 8 - s.port.tapQueue.length
  (∀ i, i < 9 →
    (selected i = false → t.port.taps.getD i .empty = s.port.taps.getD i .empty) ∧
    (selected i = true → (grown i).samples.length ≠ 48 → t.port.taps.getD i .empty = grown i) ∧
    (selected i = true → (grown i).samples.length = 48 → t.port.taps.getD i .empty = .empty)) ∧
  t.port.tapQueue = s.port.tapQueue ++ formed.take room ∧
  t.port.tapDrops = counterAfter s.port.tapDrops (formed.length - room)

/-- One nest after the frame, where the frame does not end its state, and at the deadline: the counts, the detector, the
generator and its burst, the lanes' sums and the overload mark, what an expiry gives back (R40, R42, R44, R48, R52, R54 to
R56, R68, R79, R92 to R94, R107, R183, R185). -/
def State.nestCounted (s t : State) (f : UpstreamFrame) (n : Nest) : Prop :=
  let q := s.nest n
  let q1 : Sequencer := { q with deadline := if q.deadlineRunning then q.deadline - 1 else q.deadline }
  let x := f.samples.getD (n.num - 1) 0
  let d := s.analyser.detector.get n
  let b := (s.begun n).burst
  let wraps := 2 ^ 32 ≤ (s.begun n).phase.toNat + (s.begun n).increment.toNat
  let alive := q.deadlineRunning = true → 1 < q.deadline
  let due := q.deadlineRunning = true ∧ q.deadline ≤ 1
  let undisturbed := q.guarded = false ∨ ¬ s.loudOn f
  let timedOut := (t.nest n).state = .judged ∧ (t.nest n).retries = q.retries ∧
    s.givenBack t n ∧
    ∀ id, q.record = some id → (t.record id).state = .judged ∧ (t.record id).unitClass = some .retestTimeout
  (q.state.running = false → t.nest n = q ∧ t.tone n = (s.begun n).oneFrameOn) ∧
  (q.state.running = true → (t.nest n).deadline = q1.deadline) ∧
  (q.state.running = true → q.state ≠ .condition → (t.nest n).state.running = true →
    (t.nest n).stepIndex = q.stepIndex → (t.nest n).state ≠ .condition → t.tone n = (s.begun n).oneFrameOn) ∧
  (∀ g, q.state = .gap → alive → q.gap = some g → 2 ≤ g.left →
    t.nest n = { q1 with gap := some { g with left := g.left - 1 } }) ∧
  (∀ st, q.state = .settle → alive → q.step = some st → d.position + 1 ≠ 240 →
    settleTest st (q.settleElapsed + 1) q.settledSeen = .wait →
    t.nest n = { q1 with settleElapsed := q.settleElapsed + 1 } ∧
    t.analyser.detector.get n = { d with position := d.position + 1, sum := d.sum + x.toInt.natAbs ^ 2 }) ∧
  (q.state = .condition → alive → (wraps → ∀ c, b = some c → 2 ≤ c.cyclesLeft) →
    t.nest n = q1 ∧
    (wraps → t.tone n =
      { (s.begun n).oneFrameOn with burst := b.map (fun c => { c with cyclesLeft := c.cyclesLeft - 1 }) }) ∧
    (¬ wraps → t.tone n = (s.begun n).oneFrameOn)) ∧
  (q.state = .waitLanes ∨ q.state = .guardWait → alive →
    t.nest n = { q1 with state := (t.nest n).state, windowCount := (t.nest n).windowCount } ∧
    ((t.nest n).state = q.state ∧ (t.nest n).windowCount = q.windowCount ∨ (t.nest n).state = .guardWait ∨
      (t.nest n).state = .window ∧ (t.nest n).windowCount = 0)) ∧
  (∀ st, q.state = .window → q.step = some st → undisturbed →
    (alive → q.windowCount + 1 < st.window →
      t.nest n = { q1 with windowCount := q.windowCount + 1 } ∧
      t.analyser.assigned n = (s.analyser.assigned n).map (fun l => l.add x (s.begun n).phase) ∧
      t.analyser.overload.get n = (s.analyser.overload.get n || f.overloads.getD (n.num - 1) false) ∧
      ∀ r, s.capture.provisional n = some r → t.capture.provisional n = some { r with fill := r.fill + 1 }) ∧
    (alive → q.windowCount + 1 = st.window →
      t.nest n = { q1 with state := .evaluate, windowCount := q.windowCount + 1 } ∧
      t.analyser.assigned n =
        (s.analyser.assigned n).map (fun l => { l.add x (s.begun n).phase with phase := .evaluating }) ∧
      t.analyser.evaluation.get n = some 0) ∧
    (due → timedOut ∧ (t.nest n).windowCount = q.windowCount + 1)) ∧
  (∀ k, q.state = .evaluate → alive → s.analyser.evaluation.get n = some k → k + 1 < 48 →
    t.nest n = q1 ∧ t.analyser.evaluation.get n = some (k + 1) ∧ t.analyser.assigned n = s.analyser.assigned n) ∧
  (q.state = .waitLanes ∨ q.state = .guardWait → due → timedOut)

/-! ### The next step begins (R41 to R44, R74, R75, R77, R79)

On the event that ends a step, from state `s` to state `t`: the next step with a range gap, where its drive range is
another, and directly otherwise. A step that begins directly and is UNSETTLED at its entry does not begin so: it
finishes at once. -/

/-- The next step, `st`, begins: it is not one that finishes at its entry. -/
def State.beginsNext (s : State) (n : Nest) (st : Step) : Prop :=
  ¬ (st.range = (s.tone n).range ∧ st.measure = true ∧ settleTest st 0 false = .unsettled)

/-- How the next step, `st` with limits `lim`, has begun in `t`. -/
def State.nextBegun (s t : State) (n : Nest) (st : Step) (lim : Limits) : Prop :=
  let q := s.nest n
  let w := s.tone n
  let g := q.settings.rangeGapMs
  (t.nest n).stepIndex = q.stepIndex + 1 ∧ (t.nest n).step = some st ∧ (t.nest n).limits = lim ∧
  (t.nest n).record = q.record ∧ (t.nest n).deadline = q.deadline ∧ (t.nest n).deadlineRunning = q.deadlineRunning ∧
  (t.nest n).retries = q.retries ∧ (t.tone n).phase = w.phase ∧ (t.tone n).range = w.range ∧
  (st.range ≠ w.range →
    (t.nest n).state = .gap ∧ (t.tone n).pendingStep = some ⟨st.frequency, st.level, st.range⟩ ∧
    (t.tone n).increment = w.increment ∧ (t.tone n).amplitude = w.amplitude ∧
    (w.envelope = .silent ∨ w.burstMute = true →
      (t.nest n).gap = some (if g = 0 then ⟨.rampUp, 192⟩ else ⟨.silence, g * 96⟩) ∧ (t.tone n).envelope = .silent ∧
      (t.tone n).burstMute = false) ∧
    (¬ (w.envelope = .silent ∨ w.burstMute = true) →
      (t.nest n).gap = some ⟨.rampDown, 192⟩ ∧ (t.tone n).envelope = .rampDown w.envelope.lastPosition 0 ∧
      (t.tone n).glide = none)) ∧
  (st.range = w.range →
    (t.tone n).increment = incrementOf st.frequency ∧ (t.tone n).amplitude = w.amplitude ∧
    (t.tone n).glide = some ⟨w.amplitude, amplitudeOf st.level, 0⟩ ∧ (t.tone n).envelope = .full ∧
    (t.tone n).burstMute = false ∧
    (st.measure = false →
      (t.nest n).state = .condition ∧ (t.tone n).burst = some ⟨true, st.onCycles, st.repeats⟩) ∧
    (st.measure = true → settleTest st 0 false = .wait →
      (t.nest n).state = .settle ∧ (t.nest n).settleElapsed = 0 ∧ (t.nest n).settledSeen = false ∧
      (t.tone n).burst = none ∧
      t.analyser.detector.get n =
        { running := true, position := 0, sum := 0, reference := none, pairs := 0, tolerance := st.tolerance
          substituted := false, reported := false }) ∧
    (st.measure = true → settleTest st 0 false = .settled →
      ((t.nest n).state = .waitLanes ∨ (t.nest n).state = .guardWait ∨ (t.nest n).state = .window) ∧
      (t.tone n).burst = none ∧ (t.analyser.detector.get n) = .stopped))

/-! ### Notices of a verdict and of a RESTART (R136, R138, R140, R159, R163, R165, R166, R170) -/

/-- The port after the notices of a verdict with a class, in R163's order: VERDICT, HOLD where the verdict holds the line,
QUARANTINE where it quarantines the nest. `s` is before the verdict and `t` after it. -/
def State.verdictNotices (s t : State) (n : Nest) (id : Nat) (c : UnitClass) (p : Port) : Port :=
  let y := t.yield
  let index := s.link.frameIndex
  let p1 := p.notice (.verdict id (t.record id) false index)
  let p2 :=
    if 0 < y.holdLevel ∧ y.windowLength ≤ y.window.length ∧ y.passCount < y.holdLevel ∧ s.yield.line = .running then
      p1.notice (.hold n id c y.windowLength y.passCount y.holdLevel index)
    else p1
  if c.passes = false ∧ 0 < y.quarantineLevel ∧ y.quarantineLevel ≤ y.streak.get n ∧
      s.yield.admission.get n = .enabled then
    p2.notice (.quarantine n id (t.record id).carrier c (y.streak.get n) y.quarantineLevel index)
  else p2

/-- A step that is UNSETTLED (R45, R51, R53, R106, R131, R134, R136): `s` has nest `n` in SETTLE at the test that finds it so,
with step `st` and record `id`. The result is folded and sent, the detector stopped; then the verdict with its notices, or
the next step, with a range gap or directly (R41 to R44, R75, R77), or, where that one is UNSETTLED at its entry and the
last, its result and the verdict. -/
def State.unsettledEnd (s t : State) (n : Nest) (st : Step) (id : Nat) : Prop :=
  let u := s.record id
  let q := s.nest n
  let first := (u.firstFailing).getD (q.stepIndex, .unsettled)
  let sent := s.port.notice (.step (unsettledResult n id q.stepIndex q.retries st))
  s.KeepsLink t ∧
  (s.lastStep n true →
    t.nest n = { q with state := .judged, gap := none, deadlineRunning := false } ∧
    (∀ m, m ≠ n → t.nest m = s.nest m) ∧
    t.record id =
      { u with state := .judged, stepsCompleted := u.stepsCompleted + 1, retriesUsed := q.retries
               firstFailing := some first, unitClass := some first.2.failClass
               binCopy := s.recipe.bins[first.2.failClass.code]? } ∧
    t.port = s.verdictNotices t n id first.2.failClass sent ∧
    t.analyser = s.analyser.setDetector n .stopped ∧ t.capture = s.capture) ∧
  ∀ p f, q.settings.stopOnFail = false → q.program = some p → (s.recipe.entry p).fields = some f →
    q.stepIndex + 1 < f.stepCount →
    let next := s.recipe.stepOf f (q.stepIndex + 1)
    (s.beginsNext n next.1 →
      s.nextBegun t n next.1 next.2 ∧ t.port = sent ∧ t.yield = s.yield ∧
      ((t.nest n).state = .gap ∨ (t.nest n).state = .condition → t.analyser = s.analyser.setDetector n .stopped) ∧
      t.record id =
        { u with stepsCompleted := u.stepsCompleted + 1, retriesUsed := q.retries, firstFailing := some first
                 capturesSkipped := (t.record id).capturesSkipped }) ∧
    (¬ s.beginsNext n next.1 → q.stepIndex + 2 = f.stepCount →
      (t.nest n).state = .judged ∧ (t.nest n).stepIndex = q.stepIndex + 1 ∧ (t.analyser.detector.get n) = .stopped ∧
      t.record id =
        { u with state := .judged, stepsCompleted := u.stepsCompleted + 2, retriesUsed := q.retries
                 firstFailing := some first, unitClass := some first.2.failClass
                 binCopy := s.recipe.bins[first.2.failClass.code]? } ∧
      t.port =
        s.verdictNotices t n id first.2.failClass
          (sent.notice (.step (unsettledResult n id (q.stepIndex + 1) q.retries next.1))))

/-- The ids a RESTART discards from the label path: LABELLING in the order of their filling, then QUEUED, head first. -/
def State.labelIds (s : State) : List Nat :=
  (if s.marking.lastFilled = some .a then [SlotId.b, SlotId.a] else [SlotId.a, SlotId.b]).filterMap
    (fun i => (s.marking.slot i).record) ++ s.marking.queue

/-- The notices a RESTART forms, in order: each running unit's VERDICT with ABORTED and each JUDGED unit's DISCARD in nest
order, then the label path's DISCARDs. `skipped n` is the captures-skipped count of nest n's record at its verdict, which
the notice does not carry. -/
def State.restartNotices (s : State) (skipped : Nest → Nat) : List Notice :=
  Nest.order.flatMap (fun n =>
    match (s.nest n).record with
    | none => []
    | some id =>
      if (s.nest n).state.running then
        [.verdict id { s.record id with retriesUsed := (s.nest n).retries, capturesSkipped := skipped n } true
          s.link.frameIndex]
      else if (s.nest n).state = .judged then [.discard id (s.record id) true]
      else []) ++
  s.labelIds.map (fun id => .discard id (s.record id) true)

/-! ### What an activation finds (R13 to R17, R218) -/

/-- The code of the field that R14's table and R16's list find at fault first in step `i` of a program, if they do. -/
def Recipe.faultCode (r : Recipe) (f : ProgramFields) (i : Nat) : Option Nat :=
  let st := r.rawStep f i
  let window := (2 * st.cycles * 9600000 + st.frequency) / (2 * st.frequency)
  let outside := fun (lo hi : Int) (b : Option Int) => b.any (fun v => decide (v < lo ∨ hi < v))
  if st.kind ≠ 1 ∧ st.kind ≠ 2 then some 1
  else if st.frequency < 2000 ∨ 4000000 < st.frequency then some 2
  else if st.level < -12000 ∨ 0 < st.level then some 3
  else if st.range < 1 ∨ 3 < st.range then some 4
  else if st.kind = 1 then
    if st.dwell < 1 ∨ 4 < st.dwell then some 5
    else if 2000 < st.settleMs then some 6
    else if st.capMs < st.settleMs ∨ 4000 < st.capMs then some 7
    else if st.tolerance < 1 ∨ 600 < st.tolerance then some 8
    else if st.cycles < 1 ∨ 4096 < st.cycles then some 9
    else if window < 64 ∨ 65536 < window then some 10
    else if 1 < st.guarded then some 11
    else if st.limitIndex.any (fun m => decide (f.limitCount ≤ m)) then some 12
    else if st.bandLow < 6 ∨ 40 < st.bandLow ∨ st.bandHigh < st.bandLow ∨ 40 < st.bandHigh then some 13
    else match st.limitIndex with
      | none => none
      | some m =>
        let l := r.limits f m
        if outside (-20000) 20000 l.lower then some 14
        else if outside (-20000) 20000 l.upper then some 15
        else if l.lower.any (fun a => l.upper.any (fun b => decide (b < a))) then some 16
        else if outside (-14000) 3000 l.thd then some 17
        else if outside (-14000) 3000 l.hoh then some 18
        else none
  else if st.onCycles < 1 then some 19
  else if st.repeats < 1 then some 21
  else none

/-- The step region and the limit region lie in recipe memory, and the step region begins on an even row (R13). -/
def ProgramFields.placed (f : ProgramFields) : Prop :=
  f.firstStep + 2 * f.stepCount ≤ 4096 ∧ (f.limitCount = 0 ∨ f.firstLimit + f.limitCount ≤ 4096) ∧ f.firstStep % 2 = 0

/-- Two programs share a row (R17). -/
def ProgramFields.shares (f g : ProgramFields) : Prop := ∃ row, f.hasRow row ∧ g.hasRow row

/-- Every check of R13 to R17 passes; `other p g` says that program p, with fields g, is another ACTIVE program. -/
def Recipe.accepts (r : Recipe) (other : Nat → ProgramFields → Prop) (f : ProgramFields) : Prop :=
  f.placed ∧ (∀ i, i < f.stepCount → r.faultCode f i = none) ∧ ∀ p g, other p g → ¬ f.shares g

/-- The first check of R13 to R17 that fails, by its reason and data. -/
def Recipe.refuses (r : Recipe) (other : Nat → ProgramFields → Prop) (f : ProgramFields) (reason : Reason)
    (data : List Byte) : Prop :=
  let stepFits := f.firstStep + 2 * f.stepCount ≤ 4096
  let limitFits := f.limitCount = 0 ∨ f.firstLimit + f.limitCount ≤ 4096
  (reason = .range ∧ data = [0] ∧ ¬ stepFits) ∨
  (reason = .range ∧ data = [1] ∧ stepFits ∧ ¬ limitFits) ∨
  (reason = .badRecord ∧ data = [0xFF, 0xFF, 0] ∧ stepFits ∧ limitFits ∧ f.firstStep % 2 = 1) ∨
  (reason = .badRecord ∧ f.placed ∧
    ∃ i c, i < f.stepCount ∧ (∀ j, j < i → r.faultCode f j = none) ∧ r.faultCode f i = some c ∧
      data = toBytes 2 i ++ toBytes 1 c) ∨
  (reason = .overlap ∧ f.placed ∧ (∀ i, i < f.stepCount → r.faultCode f i = none) ∧
    ∃ p g, other p g ∧ f.shares g ∧ (∀ p' g', p' < p → other p' g' → ¬ f.shares g') ∧ data = toBytes 1 p)

/-! ### What SET GUARD and the GUARD group check (R117) -/

/-- The position of the first field at fault, the check that ties hysteresis to threshold last. -/
def guardFault (ops : List Byte) : Option Nat :=
  let enable := fieldAt ops 0 1
  let threshold := signedAt ops 1 2
  let hysteresis := signedAt ops 3 2
  let peak := fieldAt ops 5 4
  let hold := fieldAt ops 9 2
  if 1 < enable then some 0
  else if threshold < -14000 ∨ 0 < threshold then some 1
  else if hysteresis < 0 ∨ 2000 < hysteresis then some 2
  else if 8388607 < peak then some 3
  else if hold < 1 ∨ 1000 < hold then some 4
  else if enable = 1 ∧ threshold - hysteresis < -14000 then some 2
  else none

/-- The guard with its five settings replaced; a peak threshold of 0 is off (R218). -/
def guardWith (g : Guard) (ops : List Byte) : Guard :=
  { g with enable := decide (fieldAt ops 0 1 = 1), threshold := signedAt ops 1 2, hysteresis := signedAt ops 3 2
           peak := if fieldAt ops 5 4 = 0 then none else some (fieldAt ops 5 4), holdMs := fieldAt ops 9 2 }

/-! ### Bin entries (R20, R221) -/

/-- Bin and label enable of a bin entry are in range. -/
def binFieldsOk (entry : List Byte) : Prop := fieldAt entry 0 1 ≤ 15 ∧ fieldAt entry 1 1 ≤ 1

/-- A bin entry's label code is `code`: 1 to 8 printable characters, 0x00 bytes behind them. -/
def binCodeIs (entry code : List Byte) : Prop :=
  entry.drop 2 = code ++ List.replicate (8 - code.length) 0 ∧ 1 ≤ code.length ∧ code.length ≤ 8 ∧
  ∀ b ∈ code, 0x21 ≤ b.toNat ∧ b.toNat ≤ 0x7E

/-- The record and the slot after the slot's label outcome is known (R153): counters, LABEL notice, record FREE, and the
slot FREE or filled again from the head of the queue. -/
def State.retiredFrom (s t : State) (i : SlotId) (id : Nat) (o : LabelOutcome) : Prop :=
  t.record id = .free ∧
  t.port = s.port.notice (.label id { s.record id with labelOutcome := some o } s.link.frameIndex) ∧
  t.yield.counts = s.yield.counts.retire (((s.record id).binCopy.map BinEntry.bin).getD 0) o ∧
  (s.marking.queue = [] → t.marking.slot i = .free ∧ t.marking.slot i.other = s.marking.slot i.other) ∧
  (∀ h rest, s.marking.queue = h :: rest → (s.marking.slot i.other).state ≠ .free →
    t.marking.queue = rest ∧ (t.marking.slot i).record = some h ∧ (t.record h).state = .labelling ∧
    (t.record h).slot = some i)

/-! ### A command about to be taken -/

/-- The command unit takes next the cell with this tag, code and operands, and carries it out: READY, IDLE, room for the
reply (R200). -/
def State.takes (s : State) (tag code : Byte) (ops : List Byte) (rest : List CommandCell) : Prop :=
  s.port.part = .ready ∧ s.port.unit = .idle ∧ s.port.replies.length < 8 ∧
  s.port.commands = ⟨tag, code :: ops⟩ :: rest

/-- The state with the cell gone from the queue. -/
def State.taken (s : State) (rest : List CommandCell) : State := { s with port := { s.port with commands := rest } }

/-- DONE with data. -/
def State.done (s : State) (tag code : Byte) (data : List Byte) : State := s.reply ⟨tag, code, none, data⟩

/-- REFUSED with a reason and data. -/
def State.refusal (s : State) (tag code : Byte) (reason : Reason) (data : List Byte) : State :=
  s.reply ⟨tag, code, some reason, data⟩

/-- The code of a command of the catalogue (11). -/
def commandCode : Instr → Option Byte
  | .writeRows => some 0x10
  | .readRows => some 0x11
  | .writeDirectory => some 0x12
  | .readDirectory => some 0x13
  | .activate => some 0x14
  | .deactivate => some 0x15
  | .writeBins => some 0x16
  | .readBins => some 0x17
  | .arrive => some 0x20
  | .release => some 0x21
  | .abort => some 0x22
  | .stop => some 0x23
  | .reserveStream => some 0x24
  | .releaseStream => some 0x25
  | .setCalibration => some 0x30
  | .readCalibration => some 0x31
  | .readLanes => some 0x32
  | .setGuard => some 0x38
  | .readGuard => some 0x39
  | .readUnit => some 0x40
  | .setMarking => some 0x48
  | .readMarking => some 0x49
  | .readCounts => some 0x50
  | .clearCounts => some 0x51
  | .resumeLine => some 0x52
  | .enableNest => some 0x53
  | .setYield => some 0x54
  | .readYield => some 0x55
  | .captureHead => some 0x60
  | .captureRead => some 0x61
  | .captureDrop => some 0x62
  | .readCapture => some 0x63
  | .status => some 0x70
  | .setNotices => some 0x71
  | .setTap => some 0x72
  | .restart => some 0x73
  | .reboot => some 0x74
  | .configRead => some 0x75
  | .configWrite => some 0x76
  | _ => none

/-- The length of the operands of a command whose operands have one length (R218, log 11). -/
def operandLength : Instr → Option Nat
  | .readRows => some 4
  | .readDirectory => some 1
  | .activate => some 1
  | .deactivate => some 1
  | .readBins => some 0
  | .arrive => some 6
  | .release => some 1
  | .abort => some 1
  | .stop => some 0
  | .reserveStream => some 1
  | .releaseStream => some 1
  | .setCalibration => some 3
  | .readCalibration => some 0
  | .readLanes => some 0
  | .setGuard => some 11
  | .readGuard => some 0
  | .readUnit => some 1
  | .setMarking => some 2
  | .readMarking => some 0
  | .readCounts => some 0
  | .clearCounts => some 0
  | .resumeLine => some 0
  | .enableNest => some 1
  | .setYield => some 5
  | .readYield => some 0
  | .captureHead => some 0
  | .captureRead => some 2
  | .captureDrop => some 0
  | .readCapture => some 0
  | .status => some 0
  | .setNotices => some 1
  | .setTap => some 2
  | .restart => some 0
  | .reboot => some 0
  | .configRead => some 5
  | _ => none

/-- The operands that a command's length check passes (R200): one length, or for four commands what R7, R10, R20 and R212
leave to the command's own checks (logs 11, 24, 25). -/
def operandsFit (c : Instr) (ops : List Byte) : Prop :=
  match c with
  | .writeRows => 4 ≤ ops.length
  | .writeDirectory => ops.length = 21 ∨ (ops.length = 2 ∧ fieldAt ops 1 1 = 0)
  | .writeBins => 2 ≤ ops.length ∧ (10 < fieldAt ops 1 1 ∨ ops.length = 2 + 10 * fieldAt ops 1 1)
  | .configWrite => 5 ≤ ops.length
  | c => operandLength c = some ops.length

end Sys2Proof.Machine
end

