-- ==== Sys2Proof/Certificates/Slice0/Obligations.lean ====
section
/-! DEFINITION. The statements for the provers, in the order of OBLIGATIONS.json. A statement about a command of the
catalogue begins where the command unit takes its cell: `State.takes`. -/

open Sys2Proof Sys2Proof.Machine

/-! ### The queue of events and the command unit -/

/-- One step takes the front of the queue; an empty queue idles (the idling is the model's own, log 4). -/
def Obligations.StepTakesTheFront : Prop :=
  (∀ (c : Instr) (rest : List Instr) (s : State),
    step { s with pending := c :: rest } = exec c { s with pending := rest }) ∧
  ∀ s : State, s.pending = [] → step s = .next s

/-- The command unit (R200). No command is taken while it is BUSY, the reply queue holds 8, the queue is empty or another
command stands at its head; checks 1 to 3 refuse STARTING, UNKNOWN, RANGE. Which lengths check 3 passes is `operandsFit`,
whose widths and whose shorter WRITE DIRECTORY are the model's (logs 11 and 24). -/
def Obligations.CommandUnit : Prop :=
  (∀ (c : Instr) (code : Byte) (s : State), commandCode c = some code →
     (s.port.unit ≠ .idle ∨ 8 ≤ s.port.replies.length ∨ s.port.commands = [] ∨
       ∃ cell rest, s.port.commands = cell :: rest ∧ cell.payload.head? ≠ some code) →
     exec c s = .next s) ∧
  (∀ (c : Instr) (code tag : Byte) (ops : List Byte) (rest : List CommandCell) (s : State),
     commandCode c = some code → s.port.unit = .idle → s.port.replies.length < 8 →
     s.port.commands = ⟨tag, code :: ops⟩ :: rest →
     (s.port.part = .starting → exec c s = .next ((s.taken rest).refusal tag code .starting [])) ∧
     (s.port.part = .ready → ¬ operandsFit c ops →
       exec c s = .next ((s.taken rest).refusal tag code .range []))) ∧
  ∀ (tag : Byte) (payload : List Byte) (rest : List CommandCell) (s : State),
    s.port.unit = .idle → s.port.replies.length < 8 → s.port.commands = ⟨tag, payload⟩ :: rest →
    (∀ c code, commandCode c = some code → payload.head? ≠ some code) →
    exec .unknownCommand s =
      .next ((s.taken rest).reply
        ⟨tag, payload.headD 0, some (if s.port.part = .starting then .starting else .unknown), []⟩)

/-! ### Resets and the start-up load -/

/-- POWER-ON: every block at its reset values, the configuration memory kept, or torn where a write was going on. -/
def Obligations.PowerOnReset : Prop :=
  ∀ s : State, Memory.wf erased s.port.config = true →
    ∃ cfg, exec .powerOnReset s =
        .next { State.reset with
                  port := { Port.reset with config := cfg }, stopLine := s.stopLine, out := s.out
                  freeCount := s.freeCount + 1, pending := s.pending } ∧
      ((∀ tag addr data, s.port.unit ≠ .writing tag addr data) → cfg = s.port.config) ∧
      ∀ tag addr data, s.port.unit = .writing tag addr data →
        (∀ a, a < addr ∨ addr + data.length ≤ a → Memory.read erased cfg a = Memory.read erased s.port.config a) ∧
        ∀ i b, data[i]? = some b →
          Memory.read erased cfg (addr + i) = Memory.read erased s.port.config (addr + i) ∨
            Memory.read erased cfg (addr + i) = b

/-- The reset values the chapters give (R19, R22, R36, R66, R83, R110, R125, R143, R159, R177, R194, R202, R217). -/
def Obligations.ResetValues : Prop :=
  State.reset.port.part = .starting ∧ State.reset.port.enables.code = 0x75 ∧ State.reset.port.unit = .idle ∧
  State.reset.port.commands = [] ∧ State.reset.port.replies = [] ∧ State.reset.port.notices = [] ∧
  State.reset.port.tapQueue = [] ∧ State.reset.port.tapSelection = 0 ∧
  (∀ n, State.reset.port.streams.get n = [] ∧ State.reset.port.pace.get n = ⟨.go, none⟩) ∧
  State.reset.link.state = .linkDown ∧ State.reset.link.lastNumber = none ∧ State.reset.link.frameIndex = 0 ∧
  State.reset.link.silenceRunning = false ∧
  (∀ row, row < 4096 → State.reset.recipe.readRows row 1 = List.replicate 16 0) ∧
  (∀ e, e < 8 → State.reset.recipe.entry e = .empty ∧ State.reset.recipe.uses e = 0) ∧
  State.reset.recipe.bins.map BinEntry.bin = [0, 1, 2, 3, 4, 5, 6, 7, 8, 9] ∧
  State.reset.recipe.bins.map BinEntry.label = [true, true, true, true, true, true, true, false, false, false] ∧
  (∀ n, (State.reset.nest n).state = .idle ∧ (State.reset.nest n).record = none ∧ (State.reset.nest n).retries = 0) ∧
  (∀ n, (State.reset.tone n).phase = 0 ∧ (State.reset.tone n).increment = 0 ∧ (State.reset.tone n).envelope = .silent ∧
    (State.reset.tone n).range = .mid) ∧
  State.reset.analyser.freeLanes = 64 ∧ State.reset.analyser.queue = [] ∧
  (∀ n, State.reset.analyser.calibration.get n = 0) ∧
  State.reset.guard.loud = false ∧ State.reset.guard.enable = false ∧ State.reset.guard.threshold = -3000 ∧
  State.reset.guard.hysteresis = 300 ∧ State.reset.guard.peak = none ∧ State.reset.guard.holdMs = 20 ∧
  State.reset.guard.lastLevel = none ∧ State.reset.guard.loudEntries = 0 ∧
  (∀ id, id < 14 → State.reset.record id = .free) ∧ State.reset.lowestFree = some 0 ∧
  State.reset.marking.queue = [] ∧ State.reset.marking.slotA = .free ∧ State.reset.marking.slotB = .free ∧
  State.reset.marking.lastFilled = none ∧ State.reset.marking.ackMs = 800 ∧
  State.reset.yield.windowLength = 200 ∧ State.reset.yield.holdLevel = 0 ∧ State.reset.yield.quarantineLevel = 0 ∧
  State.reset.yield.window = [] ∧ State.reset.yield.line = .running ∧
  (∀ n, State.reset.yield.streak.get n = 0 ∧ State.reset.yield.admission.get n = .enabled) ∧
  State.reset.capture.records = [] ∧ State.reset.capture.occupied = 0

/-- The load's end. With no image every group is at its default; with one, each of the seven groups is at its default,
taken, or rejected by the command's own checks (R214, R215), and the entries of a matching recipe image go through the
four cases of R216. That CRC-32 runs as `crc32` has it is presumed (log 20); that a load that has ended already does
nothing (log 1), that all groups are applied at this event (log 15), what a RANGE listing carries (log 37) and that a
quarantine level of 0xFF is the absent marker and rejects the YIELD group (log 38) are the model's own. -/
def Obligations.StartupLoadEnds : Prop :=
  (∀ s : State,
     (s.port.part = .starting →
       (fieldAt (s.port.configBytes 0 4) 0 4 ≠ 0x47583436 ∨ Memory.read erased s.port.config 4 ≠ 1) →
       exec .startupLoadEnd s =
         .next { s with port := { s.port with part := .ready, startup := ⟨List.replicate 7 .noImage, []⟩ } }) ∧
     (s.port.part = .ready → exec .startupLoadEnd s = .next s)) ∧
  ∀ s : State, s.port.part = .starting → fieldAt (s.port.configBytes 0 4) 0 4 = 0x47583436 →
    Memory.read erased s.port.config 4 = 1 →
    ∃ t, exec .startupLoadEnd s = .next t ∧ t.port.part = .ready ∧ t.port.startup.groups.length = 7 ∧
      t.port.config = s.port.config ∧ t.link = s.link ∧ t.records = s.records ∧ t.nests = s.nests ∧
      t.recipe.useCount = s.recipe.useCount ∧
      let control := fieldAt (s.port.configBytes 6 2) 0 2
      let code := fun (i : Nat) => control / 4 ^ i % 4
      let result := fun (i : Nat) => t.port.startup.groups[i]?
      let failedAt := fun (e : Nat) => t.port.startup.failed.filter (fun x => decide (x.entry = e))
      let cal := fun (i : Nat) => signedAt (s.port.configBytes 16 8) (2 * i) 2
      let calOk := ∀ i, i < 4 → -20000 ≤ cal i ∧ cal i ≤ 20000
      let guard := s.port.configBytes 24 11
      let w := fieldAt (s.port.configBytes 40 5) 0 2
      let l := fieldAt (s.port.configBytes 40 5) 2 2
      let q := fieldAt (s.port.configBytes 40 5) 4 1
      let yieldOk := 16 ≤ w ∧ w ≤ 1024 ∧ l ≤ w ∧ q ≠ 255
      let ack := fieldAt (s.port.configBytes 48 2) 0 2
      let bin := fun (i : Nat) => s.port.configBytes (52 + 10 * i) 10
      let image := s.port.configBytes 256 160
      let rows := s.port.configBytes 1024 65536
      let matched := fieldAt (s.port.configBytes 416 4) 0 4 = (crc32 (image ++ rows)).toNat
      (code 0 ≠ 1 → result 0 = some .default ∧ t.analyser.calibration = s.analyser.calibration) ∧
      (code 0 = 1 → ¬ calOk → result 0 = some .rejected ∧ t.analyser.calibration = s.analyser.calibration) ∧
      (code 0 = 1 → calOk → result 0 = some .taken ∧ t.analyser.calibration = ⟨cal 0, cal 1, cal 2, cal 3⟩) ∧
      (code 1 ≠ 1 → result 1 = some .default ∧ t.guard = s.guard) ∧
      (code 1 = 1 → guardFault guard ≠ none → result 1 = some .rejected ∧ t.guard = s.guard) ∧
      (code 1 = 1 → guardFault guard = none → result 1 = some .taken ∧
        t.guard = { guardWith s.guard guard with loud := false, holdCount := 0, peakSince := 0, loudestSince := none }) ∧
      (code 2 ≠ 1 → result 2 = some .default ∧ t.yield = s.yield) ∧
      (code 2 = 1 → ¬ yieldOk → result 2 = some .rejected ∧ t.yield = s.yield) ∧
      (code 2 = 1 → yieldOk → result 2 = some .taken ∧
        t.yield.windowLength = w ∧ t.yield.holdLevel = l ∧ t.yield.quarantineLevel = q) ∧
      (code 3 ≠ 1 → result 3 = some .default ∧ t.marking = s.marking) ∧
      (code 3 = 1 → ¬ (50 ≤ ack ∧ ack ≤ 5000) → result 3 = some .rejected ∧ t.marking = s.marking) ∧
      (code 3 = 1 → 50 ≤ ack ∧ ack ≤ 5000 → result 3 = some .taken ∧ t.marking = { s.marking with ackMs := ack }) ∧
      (code 4 ≠ 1 → result 4 = some .default ∧ t.recipe.bins = s.recipe.bins) ∧
      (code 4 = 1 → ¬ (∀ i, i < 10 → binFieldsOk (bin i) ∧ ∃ c, binCodeIs (bin i) c) →
        result 4 = some .rejected ∧ t.recipe.bins = s.recipe.bins) ∧
      (∀ codes : Nat → List Byte, code 4 = 1 → (∀ i, i < 10 → binFieldsOk (bin i) ∧ binCodeIs (bin i) (codes i)) →
        result 4 = some .taken ∧
        t.recipe.bins =
          (List.range 10).map (fun i => ⟨fieldAt (bin i) 0 1, decide (fieldAt (bin i) 1 1 = 1), codes i⟩)) ∧
      (code 5 ≠ 1 → result 5 = some .default ∧ t.recipe.rows = s.recipe.rows ∧
        t.recipe.directory = s.recipe.directory ∧ t.port.startup.failed = []) ∧
      (code 5 = 1 → ¬ matched → result 5 = some .checkFail ∧ t.recipe.rows = s.recipe.rows ∧
        t.recipe.directory = s.recipe.directory ∧ t.port.startup.failed = []) ∧
      (code 5 = 1 → matched → result 5 = some .taken ∧
        (∀ a, a < 65536 → Memory.read 0 t.recipe.rows a = Memory.read erased s.port.config (1024 + a)) ∧
        (s.recipe.directory = List.replicate 8 .empty → ∀ e, e < 8 →
          let bs := (image.drop (20 * e)).take 20
          let state := fieldAt bs 0 1
          let earlier := fun (p : Nat) (g : ProgramFields) => p < e ∧ t.recipe.entry p = .active g
          (state = 0 → t.recipe.entry e = .empty ∧ failedAt e = []) ∧
          (2 < state → t.recipe.entry e = .empty ∧ failedAt e = [⟨e, .range, []⟩]) ∧
          (∀ i, state = 1 ∨ state = 2 → ProgramFields.ofBytes bs = .error i →
            t.recipe.entry e = .empty ∧ failedAt e = [⟨e, .range, toBytes 1 i⟩]) ∧
          ∀ f, ProgramFields.ofBytes bs = .ok f →
            (state = 1 → t.recipe.entry e = .inactive f ∧ failedAt e = []) ∧
            (state = 2 → t.recipe.accepts earlier f → t.recipe.entry e = .active f ∧ failedAt e = []) ∧
            ∀ reason data, state = 2 → t.recipe.refuses earlier f reason data →
              t.recipe.entry e = .inactive f ∧ failedAt e = [⟨e, reason, data⟩])) ∧
      (code 6 ≠ 1 → result 6 = some .default ∧ t.port.enables = s.port.enables) ∧
      (code 6 = 1 → result 6 = some .taken ∧ t.port.enables = .ofByte (Memory.read erased s.port.config 160))

/-! ### The converter link -/

/-- A good frame in sequence in LINK_UP (R24): the link's fields and what the frame leaves alone; one downstream frame with
each nest's drive sample (R70, R72 to R74, R78) and range code (R34), each phase one increment on (R68), each RESERVED
nest's stream buffer one sample shorter, or one underrun (R198); the guard's block, entry and hold (`State.guardCounted`);
in a sound state what the frame does to each nest, its generator, its lanes and its detector (`State.nestCounted`) and to
the ack timers (R148, `State.acksCounted`); and with nine accumulators to the tap (R204, `State.tapsCounted`). -/
def Obligations.InSequenceFrame : Prop :=
  ∀ (s : State) (bytes : List Byte) (f : UpstreamFrame) (k : BitVec 16),
    s.link.state = .linkUp → s.link.lastNumber = some k → UpstreamFrame.ofBytes bytes = some f → f.number = k + 1 →
    ∃ t, exec (.frameArrival bytes) s = .next t ∧ s.Keeps t ∧ t.out.upstream = s.out.upstream ∧
      t.link =
        { s.link with
            frameIndex := s.link.frameIndex + 1, lastNumber := some f.number, lastGood := f.samples, badRun := 0
            silenceRunning := true, current := ⟨s.link.frameIndex + 1, f.number, f.samples, f.overloads, false⟩ } ∧
      t.out.downstream =
        [downstreamBytes f.number ⟨s.driveOf .n1, s.driveOf .n2, s.driveOf .n3, s.driveOf .n4⟩
          ⟨(s.begun .n1).range, (s.begun .n2).range, (s.begun .n3).range, (s.begun .n4).range⟩] ∧
      s.guardCounted t f ∧ (s.sound → s.acksCounted t ∧ ∀ n, s.nestCounted t f n) ∧
      (s.port.taps.length = 9 → s.tapsCounted t f) ∧
      ∀ n, (t.tone n).phase = (s.tone n).phase + (s.begun n).increment ∧
        ((s.nest n).state = .reserved →
          t.port.streams.get n = (s.port.streams.get n).tail ∧
          t.port.streamUnderruns.get n =
            (if s.port.streams.get n = [] then count (s.port.streamUnderruns.get n) 1 else s.port.streamUnderruns.get n) ∧
          t.port.pace.get n = (s.port.pace.get n).afterRemoval (s.port.streams.get n).tail.length) ∧
        ((s.nest n).state ≠ .reserved →
          t.port.streams.get n = s.port.streams.get n ∧ t.port.pace.get n = s.port.pace.get n ∧
          t.port.streamUnderruns.get n = s.port.streamUnderruns.get n)

/-- A good frame with a gap of 1 to 95 in LINK_UP (R25): d substituted frames, then the frame, each answered. -/
def Obligations.GapIsFilled : Prop :=
  ∀ (s : State) (bytes : List Byte) (f : UpstreamFrame) (k : BitVec 16),
    s.link.state = .linkUp → s.link.lastNumber = some k → UpstreamFrame.ofBytes bytes = some f →
    let d := (f.number - (k + 1)).toNat
    1 ≤ d → d ≤ 95 →
    ∃ t, exec (.frameArrival bytes) s = .next t ∧ s.Keeps t ∧
      t.link =
        { s.link with
            frameIndex := s.link.frameIndex + BitVec.ofNat 32 (d + 1), lastNumber := some f.number, lastGood := f.samples
            badRun := 0, silenceRunning := true, missingFrames := count s.link.missingFrames d
            current := ⟨s.link.frameIndex + BitVec.ofNat 32 (d + 1), f.number, f.samples, f.overloads, false⟩ } ∧
      t.out.downstream.map (fun b => b.take 2) =
        (List.range (d + 1)).map (fun i => toBytes 2 (k + 1 + BitVec.ofNat 16 i).toNat)

/-- A bad frame in LINK_UP that is not the sixteenth in a row (R27). -/
def Obligations.BadFrameSubstituted : Prop :=
  ∀ (s : State) (bytes : List Byte) (k : BitVec 16),
    s.link.state = .linkUp → s.link.lastNumber = some k → UpstreamFrame.ofBytes bytes = none → s.link.badRun < 15 →
    ∃ t, exec (.frameArrival bytes) s = .next t ∧ s.Keeps t ∧ t.out.downstream.length = 1 ∧
      t.link =
        { s.link with
            badFrames := count s.link.badFrames 1, badRun := s.link.badRun + 1, silenceRunning := true
            frameIndex := s.link.frameIndex + 1, lastNumber := some (k + 1)
            current := ⟨s.link.frameIndex + 1, k + 1, s.link.lastGood, List.replicate 5 false, true⟩ }

/-- A substituted frame corrupts a window (R49, R122, R123): one more retry and a fresh request, or RETEST_LINK with what the
window held given back (R54, R185). -/
def Obligations.SubstitutedFrameSpoilsWindow : Prop :=
  ∀ (s : State) (bytes : List Byte) (k : BitVec 16) (n : Nest) (id : Nat),
    s.sound → s.link.state = .linkUp → s.link.lastNumber = some k → UpstreamFrame.ofBytes bytes = none →
    s.link.badRun < 15 → (s.nest n).state = .window → (s.nest n).record = some id → (s.nest n).step.isSome →
    ((s.nest n).deadlineRunning = true → 1 < (s.nest n).deadline) →
    ∃ t, exec (.frameArrival bytes) s = .next t ∧
      ((s.nest n).retries < (s.nest n).settings.retryBudget →
        (t.nest n).retries = (s.nest n).retries + 1 ∧ (t.nest n).record = some id ∧
        ((t.nest n).state = .waitLanes ∨ (t.nest n).state = .window ∧ (t.nest n).windowCount = 0 ∨
          (t.nest n).state = .guardWait)) ∧
      ((s.nest n).settings.retryBudget ≤ (s.nest n).retries →
        (t.nest n).state = .judged ∧ (t.nest n).retries = (s.nest n).retries ∧
        (t.record id).state = .judged ∧ (t.record id).unitClass = some .retestLink ∧ s.givenBack t n)

/-- Leaving LINK_UP (R26, R27, R28, R29, R57): the link's fields, every running unit RETEST_LINK, what it held given back
(R54, R89, R90, R185), every other nest as it was, the accumulators emptied, and the LINK notice last. -/
def Obligations.LinkLossEndsRuns : Prop :=
  ∀ (s : State) (c : Instr), s.sound → s.leavesLinkUp c →
    ∃ t, exec c s = .next t ∧ s.Keeps t ∧ t.link.state = .linkDown ∧ t.link.silenceRunning = false ∧
      t.link.frameIndex = s.link.frameIndex ∧ t.link.lastGood = s.link.lastGood ∧
      t.link.missingFrames = s.link.missingFrames ∧ t.link.linkDowns = count s.link.linkDowns 1 ∧
      (∀ b, c = .frameArrival b → t.out.downstream = []) ∧
      t.port.taps = List.replicate 9 .empty ∧ t.port.tapQueue = s.port.tapQueue ∧
      (s.port.enables.link = true → t.port.notices.length < 32 →
        t.port.notices.getLast? = some (.link .linkDown s.link.frameIndex (count s.link.linkDowns 1))) ∧
      t.analyser.queue = [] ∧
      ∀ n,
        ((s.nest n).state.running = false → t.nest n = s.nest n ∧ t.tone n = s.tone n) ∧
        ((s.nest n).state.running = true →
          (t.nest n).state = .judged ∧ (t.nest n).deadlineRunning = false ∧ (t.nest n).record = (s.nest n).record ∧
          s.givenBack t n ∧
          ∀ id, (s.nest n).record = some id →
            (t.record id).state = .judged ∧ (t.record id).unitClass = some .retestLink ∧
            (t.record id).retriesUsed = (s.nest n).retries)

/-- A frame in LINK_DOWN (R30): a bad one is discarded, a good one starts acquisition and moves the generators and the ack
timers (R31, R68, R148). -/
def Obligations.AcquisitionStarts : Prop :=
  ∀ (s : State) (bytes : List Byte), s.link.state = .linkDown →
    (UpstreamFrame.ofBytes bytes = none →
      exec (.frameArrival bytes) s = .next { s with out := { s.out with downstream := [] } }) ∧
    ∀ f, UpstreamFrame.ofBytes bytes = some f →
      ∃ t, exec (.frameArrival bytes) s = .next t ∧ s.Keeps t ∧ t.out.downstream = [] ∧ t.port.taps = s.port.taps ∧
        (s.sound → s.acksCounted t) ∧ (∀ n, (s.nest n).state.running = false → t.tone n = (s.begun n).oneFrameOn) ∧
        ((∀ n, (s.nest n).state.running = false) →
          t.nests = s.nests ∧ t.analyser = s.analyser ∧ t.capture = s.capture ∧ t.yield.window = s.yield.window) ∧
        t.link =
          { s.link with
              state := .acquiring, acquisitionCount := 1, frameIndex := s.link.frameIndex + 1
              lastNumber := some f.number, lastGood := f.samples, badRun := 0, silenceRunning := true
              current := ⟨s.link.frameIndex + 1, f.number, f.samples, f.overloads, false⟩ }

/-- Frames, faults and events in ACQUIRING (R31): a frame moves the generators and the ack timers (R68, R148). -/
def Obligations.AcquisitionRuns : Prop :=
  ∀ (s : State) (k : BitVec 16), s.link.state = .acquiring → s.link.lastNumber = some k →
    let fault : Link :=
      { s.link with state := .linkDown, silenceRunning := false, linkDowns := count s.link.linkDowns 1
                    acquisitionCount := 0 }
    (∀ bytes f, UpstreamFrame.ofBytes bytes = some f → f.number = k + 1 →
      ∃ t, exec (.frameArrival bytes) s = .next t ∧ s.Keeps t ∧ t.out.downstream = [] ∧ t.port.taps = s.port.taps ∧
        (s.sound → s.acksCounted t) ∧ (∀ n, (s.nest n).state.running = false → t.tone n = (s.begun n).oneFrameOn) ∧
        t.link =
          { s.link with
              state := if 96 ≤ s.link.acquisitionCount + 1 then .linkUp else .acquiring
              acquisitionCount := s.link.acquisitionCount + 1, frameIndex := s.link.frameIndex + 1
              lastNumber := some f.number, lastGood := f.samples, badRun := 0, silenceRunning := true
              current := ⟨s.link.frameIndex + 1, f.number, f.samples, f.overloads, false⟩ }) ∧
    (∀ bytes f, UpstreamFrame.ofBytes bytes = some f → f.number ≠ k + 1 →
      exec (.frameArrival bytes) s = .next { s with out := { s.out with downstream := [] }, link := fault }) ∧
    (∀ bytes, UpstreamFrame.ofBytes bytes = none →
      exec (.frameArrival bytes) s =
        .next { s with out := { s.out with downstream := [] }
                       link := { fault with badFrames := count s.link.badFrames 1 } }) ∧
    (s.link.silenceRunning = true → exec .silenceTimeout s = .next { s with link := fault }) ∧
    (96 ≤ s.link.acquisitionCount →
      exec .acquisitionComplete s =
        .next { s with
                  link := { s.link with state := .linkUp }
                  port := s.port.notice (.link .linkUp s.link.frameIndex s.link.linkDowns) })

/-- A full tap accumulator gives a TAP cell, queued or dropped (R204). -/
def Obligations.TapCellFormed : Prop :=
  ∀ (s : State) (c : Nat), 1 ≤ c → c ≤ 9 → (s.port.taps.getD (c - 1) .empty).samples.length = 48 →
    let t := s.port.taps.getD (c - 1) .empty
    exec (.tapCellFormed c) s =
      .next (if s.port.tapQueue.length < 8 then
          { s with port :=
              { s.port with taps := s.port.taps.set (c - 1) .empty
                            tapQueue := s.port.tapQueue ++ [⟨c, t.first, t.samples⟩] } }
        else
          { s with port :=
              { s.port with taps := s.port.taps.set (c - 1) .empty, tapDrops := count s.port.tapDrops 1 } })

/-! ### The ambient guard -/

/-- A completed block (R112 to R116): the block restarted, its level kept, and the guard's state by its causes; the notice
of an entry with its causes; where no deadline has run out, what a return to QUIET does (R115, R119), and in a sound
state what an entry to LOUD does to each nest (R54, R120, R121, R185). The event standing alone, every nest has taken the frame that
completed the block (the model's own, log 1). -/
def Obligations.GuardBlockJudged : Prop :=
  ∀ s : State,
    (s.guard.position ≠ 240 → exec .guardBlockEnd s = .next s) ∧
    (s.guard.position = 240 →
      let g := s.guard
      let level := blockLevel g.sum
      let x := (s.link.current.samples.getD 4 0).toInt.natAbs
      let limit := if g.loud then g.threshold - g.hysteresis else g.threshold
      let cause := limit < level ∨ (∃ p, g.peak = some p ∧ p < x) ∨ s.link.current.overloads.getD 4 false = true
      let causes : GuardCauses :=
        ⟨decide (limit < level), g.peak.any (fun p => decide (p < x)), s.link.current.overloads.getD 4 false, false, false⟩
      let kept : Guard := { g with position := 0, sum := 0, lastLevel := some level }
      let noneDue := ∀ n, (s.nest n).state.running = true → (s.nest n).deadlineRunning = true → (s.nest n).deadline ≠ 0
      ∃ t, exec .guardBlockEnd s = .next t ∧ s.KeepsLink t ∧
        (g.enable = false → t.guard = kept) ∧
        (g.enable = true → g.loud = false → ¬ cause → t.guard = kept) ∧
        (g.enable = true → g.loud = false → cause →
          t.guard = { kept with loud := true, loudEntries := count g.loudEntries 1, holdCount := 0, peakSince := 0
                                loudestSince := none } ∧
          (s.port.enables.guard = true → t.port.notices.length < 32 →
            t.port.notices.getLast? =
              some (.guard true s.link.frameIndex causes (if limit < level then some level else none)
                (count g.loudEntries 1))) ∧
          (s.sound → noneDue → ∀ n,
            let q := s.nest n
            let disturbed := q.guarded = true ∧
              ((q.state = .window ∧ q.windowCount ≠ 0) ∨ (q.state = .evaluate ∧ s.analyser.evaluation.get n = some 0))
            (q.guarded = true → q.state = .window → q.windowCount = 0 →
              t.nest n = { q with state := .guardWait } ∧ t.capture.mark.get n = none) ∧
            (disturbed → q.retries < q.settings.retryBudget →
              (t.nest n).retries = q.retries + 1 ∧ (t.nest n).record = q.record ∧
              ((t.nest n).state = .waitLanes ∨ (t.nest n).state = .guardWait)) ∧
            (disturbed → q.settings.retryBudget ≤ q.retries →
              (t.nest n).state = .judged ∧ (t.nest n).retries = q.retries ∧ s.givenBack t n ∧
              ∀ id, q.record = some id → (t.record id).state = .judged ∧ (t.record id).unitClass = some .retestNoise) ∧
            (q.state ≠ .waitLanes → ¬ disturbed →
              ¬ (q.guarded = true ∧ q.state = .window ∧ q.windowCount = 0) → t.nest n = q))) ∧
        (g.enable = true → g.loud = true → cause →
          t.guard = { kept with holdCount := 0, peakSince := 0, loudestSince := none }) ∧
        (g.enable = true → g.loud = true → ¬ cause → g.holdCount + 1 < 96 * g.holdMs →
          t.guard = { kept with holdCount := g.holdCount + 1, peakSince := max g.peakSince x
                                loudestSince := maxLevel g.loudestSince (some level), holdDue := false }) ∧
        (g.enable = true → g.loud = true → ¬ cause → 96 * g.holdMs ≤ g.holdCount + 1 →
          t.guard = { kept with loud := false, holdCount := 0, peakSince := 0, loudestSince := none, holdDue := false } ∧
          (noneDue →
            t.port = s.port.notice
              (.guard false s.link.frameIndex ⟨false, false, false, true, false⟩ none g.loudEntries) ∧
            ∀ n, t.nest n =
              if (s.nest n).state = .guardWait then { s.nest n with state := .window, windowCount := 0 } else s.nest n)))

/-- The hold's end (R47, R115): QUIET, the hold cleared, every nest in GUARD_WAIT into WINDOW, the GUARD notice. -/
def Obligations.GuardHoldEnds : Prop :=
  ∀ s : State,
    (¬ (s.guard.loud = true ∧ s.guard.holdDue = true) → exec .guardHoldEnd s = .next s) ∧
    (s.guard.loud = true → s.guard.holdDue = true →
      ∃ t, exec .guardHoldEnd s = .next t ∧ t.link = s.link ∧ t.recipe = s.recipe ∧ t.tones = s.tones ∧
        t.yield = s.yield ∧ t.marking = s.marking ∧
        t.guard = { s.guard with loud := false, holdCount := 0, peakSince := 0, loudestSince := none, holdDue := false } ∧
        t.port = s.port.notice
          (.guard false s.link.frameIndex ⟨false, false, false, true, false⟩ none s.guard.loudEntries) ∧
        ∀ n, t.nest n =
          if (s.nest n).state = .guardWait then { s.nest n with state := .window, windowCount := 0 } else s.nest n)

/-- SET GUARD (R117): the first field out of its range, else the settings, else the table of its effects. -/
def Obligations.SetGuard : Prop :=
  ∀ (s : State) (tag : Byte) (ops : List Byte) (rest : List CommandCell),
    s.takes tag 0x38 ops rest → ops.length = 11 →
    let enable := fieldAt ops 0 1
    let threshold := signedAt ops 1 2
    let hysteresis := signedAt ops 3 2
    let peak := fieldAt ops 5 4
    let bad := guardFault ops
    let g := guardWith s.guard ops
    let broken := (peak ≠ 0 ∧ peak < s.guard.peakSince) ∨ ∃ b, s.guard.loudestSince = some b ∧ threshold - hysteresis < b
    (∀ i, bad = some i → exec .setGuard s = .next ((s.taken rest).refusal tag 0x38 .range (toBytes 1 i))) ∧
    (bad = none → s.guard.loud = false ∨ (enable = 1 ∧ ¬ broken) →
      exec .setGuard s = .next (({ s.taken rest with guard := g } : State).done tag 0x38 [])) ∧
    (bad = none → s.guard.loud = true → enable = 1 → broken →
      exec .setGuard s =
        .next (({ s.taken rest with guard := { g with holdCount := 0, peakSince := 0, loudestSince := none } } : State).done
          tag 0x38 [])) ∧
    (bad = none → s.guard.loud = true → enable = 0 →
      ∃ t, exec .setGuard s = .next t ∧
        t.guard = { g with loud := false, holdCount := 0, peakSince := 0, loudestSince := none, holdDue := false } ∧
        (∀ n, t.nest n =
          if (s.nest n).state = .guardWait then { s.nest n with state := .window, windowCount := 0 } else s.nest n) ∧
        t.port =
          (((s.taken rest).notice (.guard false s.link.frameIndex ⟨false, false, false, false, true⟩ none
            s.guard.loudEntries)).done tag 0x38 []).port)

/-! ### Nest sequencers and tone generators: events -/

/-- The end of a gap phase (R42, R44, R79): the next phase, or the step's own state; a MEASURE step that is UNSETTLED at its
entry (R45) ends as `State.unsettledEnd` says of the SETTLE just entered. -/
def Obligations.GapPhaseEnds : Prop :=
  ∀ (s : State) (n : Nest), (s.nest n).state = .gap →
    let q := s.nest n
    (q.gap = some ⟨.rampDown, 0⟩ →
      exec (.gapPhaseEnd n) s =
        .next (s.setNest n { q with gap :=
          if q.settings.rangeGapMs = 0 then some ⟨.rampUp, 192⟩ else some ⟨.silence, q.settings.rangeGapMs * 96⟩ })) ∧
    (q.gap = some ⟨.silence, 0⟩ →
      exec (.gapPhaseEnd n) s = .next (s.setNest n { q with gap := some ⟨.rampUp, 192⟩ })) ∧
    ∀ st, q.gap = some ⟨.rampUp, 0⟩ → q.step = some st →
      (st.measure = false →
        exec (.gapPhaseEnd n) s =
          .next ((s.setNest n { q with state := .condition, gap := none }).setTone n
            { s.tone n with burst := some ⟨true, st.onCycles, st.repeats⟩, burstMute := false })) ∧
      (st.measure = true → settleTest st 0 false = .wait →
        exec (.gapPhaseEnd n) s =
          .next ((s.setNest n { q with state := .settle, gap := none, settleElapsed := 0, settledSeen := false }).setDetector n
            { running := true, position := 0, sum := 0, reference := none, pairs := 0, tolerance := st.tolerance
              substituted := false, reported := false })) ∧
      (st.measure = true → settleTest st 0 false = .settled →
        ∃ t, exec (.gapPhaseEnd n) s = .next t ∧ s.KeepsLink t ∧ (t.analyser.detector.get n) = .stopped ∧
          ((t.nest n).state = .waitLanes ∨ (t.nest n).state = .guardWait ∨ (t.nest n).state = .window)) ∧
      ∀ id, st.measure = true → settleTest st 0 false = .unsettled → q.record = some id → id < s.records.length →
        let entered :=
          (s.setNest n { q with state := .settle, gap := none, settleElapsed := 0, settledSeen := false }).setDetector n
            { running := true, position := 0, sum := 0, reference := none, pairs := 0, tolerance := st.tolerance
              substituted := false, reported := false }
        ∃ t, exec (.gapPhaseEnd n) s = .next t ∧ entered.unsettledEnd t n st id

/-- The dwell rule and the cap, the rule first (R44), and the harmonics a request asks for (R85, R86). -/
def Obligations.DwellRuleAndLanePlan : Prop :=
  (∀ (st : Step) (elapsed : Nat) (seen : Bool),
     let time := 96 * st.settleMs ≤ elapsed
     let holds :=
       match st.dwell with
       | .timed => time
       | .settled => seen = true
       | .both => time ∧ seen = true
       | .either => time ∨ seen = true
     (holds → settleTest st elapsed seen = .settled) ∧
     (¬ holds → 96 * st.capMs ≤ elapsed → settleTest st elapsed seen = .unsettled) ∧
     (¬ holds → elapsed < 96 * st.capMs → settleTest st elapsed seen = .wait)) ∧
  ∀ (st : Step) (lim : Limits) (k : Nat) (r : LaneRole),
    (k, r) ∈ lanePlan st lim ↔
      (k = 1 ∧ r = .fundamental) ∨
      (r = .thd ∧ lim.thd.isSome = true ∧ 2 ≤ k ∧ k ≤ 5 ∧ k * st.frequency ≤ 4320000) ∨
      (r = .hoh ∧ lim.hoh.isSome = true ∧ st.bandLow ≤ k ∧ k ≤ st.bandHigh ∧ k * st.frequency ≤ 4320000)

/-- SETTLE ends normally (R46, R86, R87, R88): the request joins at the tail; it waits where the head does not fit, and
an empty queue with enough FREE lanes grants it at once; an entry to WINDOW asks for a capture record (R48, R181). -/
def Obligations.SettleTimeRequestsLanes : Prop :=
  ∀ (s : State) (n : Nest) (st : Step),
    (s.nest n).state = .settle → (s.nest n).step = some st → 96 * st.settleMs ≤ (s.nest n).settleElapsed →
    settleTest st (s.nest n).settleElapsed (s.nest n).settledSeen = .settled →
    let plan := lanePlan st (s.nest n).limits
    let asked : State :=
      { s.setNest n { s.nest n with state := .waitLanes } with
          analyser := { s.analyser.setDetector n .stopped with queue := s.analyser.queue ++ [⟨n, plan.length, plan⟩] } }
    (s.analyser.freeLanes < (match s.analyser.queue with | [] => plan.length | r :: _ => r.size) →
      exec (.settleTimeElapsed n) s = .next asked) ∧
    (s.analyser.queue = [] → plan.length ≤ s.analyser.freeLanes →
      ∃ t, exec (.settleTimeElapsed n) s = .next t ∧ s.KeepsLink t ∧ t.analyser.queue = [] ∧
        t.analyser.freeLanes = s.analyser.freeLanes - plan.length ∧
        t.analyser.lanesOf n = s.analyser.lanesOf n + plan.length ∧
        t.analyser.overload.get n = false ∧
        (st.guarded = true ∧ s.guard.loud = true →
          t.nest n = { s.nest n with state := .guardWait } ∧ t.capture = s.capture ∧ t.records = s.records) ∧
        (¬ (st.guarded = true ∧ s.guard.loud = true) →
          t.nest n = { s.nest n with state := .window, windowCount := 0 } ∧
          t.capture = (s.reserveCapture n).capture ∧ t.records = (s.reserveCapture n).records) ∧
        ∀ m, m ≠ n → t.nest m = s.nest m)

/-- The settle detector's block is complete (R107 to R109): SETTLE goes on, ends normally, or, the cap reached with the rule
not holding, ends UNSETTLED (R44, R45) as `State.unsettledEnd` says of the block judged. -/
def Obligations.SettleBlockJudged : Prop :=
  ∀ (s : State) (n : Nest) (st : Step),
    (s.nest n).state = .settle → (s.nest n).step = some st → (s.analyser.detector.get n).position = 240 →
    let d := s.analyser.detector.get n
    let level := blockLevel d.sum
    let pairs :=
      if d.substituted then 0
      else match d.reference with
        | none => d.pairs
        | some r => if (level - r).natAbs ≤ d.tolerance then d.pairs + 1 else 0
    let reported := d.reported || decide (3 ≤ pairs)
    let seen := (s.nest n).settledSeen || reported
    let judged :=
      (s.setDetector n
        { d with position := 0, sum := 0, substituted := false, pairs := pairs, reported := reported
                 reference := if d.substituted then none else some level }).setNest n { s.nest n with settledSeen := seen }
    (settleTest st (s.nest n).settleElapsed seen = .wait → exec (.settleBlockEnd n) s = .next judged) ∧
    (settleTest st (s.nest n).settleElapsed seen = .settled →
      ∃ t, exec (.settleBlockEnd n) s = .next t ∧ s.KeepsLink t ∧ (t.nest n).settledSeen = seen ∧
        ((t.nest n).state = .waitLanes ∨ (t.nest n).state = .guardWait ∨ (t.nest n).state = .window)) ∧
    ∀ id, settleTest st (s.nest n).settleElapsed seen = .unsettled → (s.nest n).record = some id →
      id < s.records.length → ∃ t, exec (.settleBlockEnd n) s = .next t ∧ judged.unsettledEnd t n st id

/-- The cap reached with the rule not holding (R45, R51, R53, R106, R131, R134, R136): `State.unsettledEnd`. -/
def Obligations.SettleCapUnsettles : Prop :=
  ∀ (s : State) (n : Nest) (st : Step) (id : Nat),
    (s.nest n).state = .settle → (s.nest n).step = some st →
    settleTest st (s.nest n).settleElapsed (s.nest n).settledSeen = .unsettled →
    (s.nest n).record = some id → id < s.records.length →
    ∃ t, exec (.settleCapReached n) s = .next t ∧ s.unsettledEnd t n st id

/-- The grant check (R46, R88): nothing granted from an empty queue or to a head that does not fit; the head granted where it
fits, the next head looked at in the same way, and the check over where that one does not fit or there is none; an entry to
WINDOW asks for a capture record (R48, R181). -/
def Obligations.HeadRequestGranted : Prop :=
  ∀ s : State,
    (s.analyser.queue = [] → exec .laneGrant s = .next s) ∧
    (∀ r rest, s.analyser.queue = r :: rest → s.analyser.freeLanes < r.size → exec .laneGrant s = .next s) ∧
    ∀ r rest, s.analyser.queue = r :: rest → r.size ≤ s.analyser.freeLanes → r.size = r.plan.length →
      ∃ t, exec .laneGrant s = exec .laneGrant t ∧
        ((∀ x, rest.head? = some x → t.analyser.freeLanes < x.size) → exec .laneGrant s = .next t) ∧
        s.KeepsLink t ∧ t.analyser.queue = rest ∧ t.analyser.freeLanes = s.analyser.freeLanes - r.size ∧
        t.analyser.lanesOf r.nest = s.analyser.lanesOf r.nest + r.size ∧ t.analyser.overload.get r.nest = false ∧
        ((s.nest r.nest).guarded = true ∧ s.guard.loud = true →
          t.nest r.nest = { s.nest r.nest with state := .guardWait } ∧ t.capture = s.capture ∧ t.records = s.records) ∧
        (¬ ((s.nest r.nest).guarded = true ∧ s.guard.loud = true) →
          t.nest r.nest = { s.nest r.nest with state := .window, windowCount := 0 } ∧
          t.capture = (s.reserveCapture r.nest).capture ∧ t.records = (s.reserveCapture r.nest).records) ∧
        ∀ m, m ≠ r.nest → t.nest m = s.nest m ∧ t.analyser.lanesOf m = s.analyser.lanesOf m

/-- The window's N-th frame is counted (R48, R84, R94). -/
def Obligations.WindowCompletes : Prop :=
  ∀ (s : State) (n : Nest) (st : Step),
    (s.nest n).state = .window → (s.nest n).step = some st → st.window ≤ (s.nest n).windowCount →
    exec (.windowComplete n) s =
      .next { s.setNest n { s.nest n with state := .evaluate } with
                analyser :=
                  { s.analyser with
                      evaluation := s.analyser.evaluation.set n (some 0)
                      lanes := s.analyser.lanes.map (fun l => l.map (fun a =>
                        if a.nest = n then { a with phase := .evaluating } else a)) } }

/-- Judging a step (R96 to R99, R103, R104): L1, THD and HOH from the powers of the lanes, through the log converter of
LevelsAmplitudesIncrements; the margins of the bounds and values present, absent where a bound or its value is; the outcome
by priority, PASS exactly where nothing is wrong; a step that did not settle is UNSETTLED. -/
def Obligations.StepIsJudged : Prop :=
  ∀ (ls : List Assignment) (overload : Bool) (cal : Int) (n : Nest) (id i retries : Nat) (st : Step) (lim : Limits),
    let r := evaluate ls overload cal n id i retries st lim
    let power := fun (role : LaneRole) =>
      ((ls.filter (fun l => decide (l.role = role))).map
        (fun l => l.sumI.toInt.natAbs ^ 2 + l.sumQ.toInt.natAbs ^ 2)).sum
    let p1 := power .fundamental
    let silent := p1 = 0
    let ratio := fun (role : LaneRole) => if silent then 3000 else levelOf (power role) p1 (-14000) 3000
    let raw := levelOf (4 * p1) ((st.window * 32767 * 8388607) ^ 2) (-14000) 600
    let below := fun (m : Option Int) => ∃ v, m = some v ∧ v < 0
    ∃ level, r.response = some level ∧ -20000 ≤ level ∧ level ≤ 20000 ∧
      level = max (-20000) (min 20000 (raw + cal)) ∧
      (r.thd = none ↔ ∀ l ∈ ls, l.role ≠ .thd) ∧ (r.hoh = none ↔ ∀ l ∈ ls, l.role ≠ .hoh) ∧
      (∀ v, r.thd = some v → v = ratio .thd) ∧ (∀ v, r.hoh = some v → v = ratio .hoh) ∧
      (∀ b v, lim.thd = some b → r.thd = some v → r.thdMargin = some (b - v)) ∧
      (∀ b v, lim.hoh = some b → r.hoh = some v → r.hohMargin = some (b - v)) ∧
      (lim.thd = none ∨ r.thd = none → r.thdMargin = none) ∧ (lim.hoh = none ∨ r.hoh = none → r.hohMargin = none) ∧
      (lim.lower = none → lim.upper = none → r.responseMargin = none) ∧
      r.responseMargin = minPresent (lim.lower.map (fun b => level - b)) (lim.upper.map (fun b => b - level)) ∧
      r.stepMargin = minPresent (minPresent r.responseMargin r.thdMargin) r.hohMargin ∧
      (overload = true → r.outcome = .overload) ∧
      (overload = false → silent → r.outcome = .noResponse) ∧
      (overload = false → ¬ silent → below r.hohMargin → r.outcome = .rub) ∧
      (overload = false → ¬ silent → ¬ below r.hohMargin → below r.thdMargin → r.outcome = .thd) ∧
      (overload = false → ¬ silent → ¬ below r.hohMargin → ¬ below r.thdMargin →
        (∃ b, lim.lower = some b ∧ level < b) → r.outcome = .low) ∧
      (overload = false → ¬ silent → ¬ below r.hohMargin → ¬ below r.thdMargin →
        ¬ (∃ b, lim.lower = some b ∧ level < b) → (∃ b, lim.upper = some b ∧ b < level) → r.outcome = .high) ∧
      (∀ a b, lim.lower = some a → lim.upper = some b → a ≤ b → ¬ (level < a ∧ b < level)) ∧
      (r.outcome = .pass ↔ overload = false ∧ ¬ silent ∧ ¬ below r.hohMargin ∧ ¬ below r.thdMargin ∧
        ¬ below r.responseMargin) ∧
      (unsettledResult n id i retries st).outcome = .unsettled

/-- The evaluation's completion (R50, R51, R90, R105, R130, R184): the result folded and sent, the lanes released, the
capture record decided; on a unit's last step the verdict with its notices (R134 to R136, R163, R164), otherwise the next
step, with a range gap or directly (R41 to R44, R75, R77); and one that reaches a nest no longer in EVALUATE. -/
def Obligations.EvaluationCompletes : Prop :=
  ∀ (s : State) (n : Nest),
    ((s.nest n).state ≠ .evaluate → exec (.evaluationComplete n) s = .next s) ∧
    ∀ (st : Step) (id : Nat), s.sound → (s.nest n).state = .evaluate → (s.analyser.evaluation.get n).isSome = true →
      (s.nest n).step = some st → (s.nest n).record = some id →
      let r := s.stepResult n id st
      let u := s.record id
      let q := s.nest n
      let first := match u.firstFailing with
        | some x => some x
        | none => if r.outcome = .pass then none else some (q.stepIndex, r.outcome)
      let worst := minPresent u.worstOverall r.stepMargin
      let c := match first with
        | some x => x.2.failClass
        | none => match worst with
          | none => .passA
          | some m => if m < (q.settings.gradeMargin : Int) then .passB else .passA
      let folded : UnitRecord :=
        { u with stepsCompleted := u.stepsCompleted + 1, retriesUsed := q.retries
                 worstResponse := minPresent u.worstResponse r.responseMargin
                 worstThd := minPresent u.worstThd r.thdMargin, worstHoh := minPresent u.worstHoh r.hohMargin
                 worstOverall := worst, firstFailing := first }
      let kept := (s.capture.provisional n).isSome = true ∧ (q.settings.policy = .all ∨
        (q.settings.policy = .failed ∧ r.outcome ≠ .pass))
      let sent := s.port.notice (.step r)
      (s.lastStep n (decide (r.outcome ≠ .pass)) →
        ∃ t, exec (.evaluationComplete n) s = .next t ∧ s.KeepsLink t ∧
          (t.nest n).state = .judged ∧ (t.nest n).record = some id ∧ (t.nest n).deadlineRunning = false ∧
          (t.nest n).retries = q.retries ∧
          t.analyser.lanesOf n = 0 ∧ t.analyser.evaluation.get n = none ∧ t.analyser.overload.get n = false ∧
          t.record id =
            { folded with state := .judged, unitClass := some c, binCopy := s.recipe.bins[c.code]?
                          capturesCommitted := (t.record id).capturesCommitted } ∧
          (kept → (t.record id).capturesCommitted = u.capturesCommitted + 1) ∧
          (¬ kept → (t.record id).capturesCommitted = u.capturesCommitted) ∧
          t.port = s.verdictNotices t n id c sent ∧
          t.yield.window = (s.yield.window ++ [c.passes]).drop (s.yield.window.length + 1 - s.yield.windowLength) ∧
          t.yield.streak.get n = if c.passes then 0 else min (s.yield.streak.get n + 1) 65535) ∧
      ∀ p f, (r.outcome = .pass ∨ q.settings.stopOnFail = false) → q.program = some p →
        (s.recipe.entry p).fields = some f → q.stepIndex + 1 < f.stepCount →
        let next := s.recipe.stepOf f (q.stepIndex + 1)
        s.beginsNext n next.1 →
        ∃ t, exec (.evaluationComplete n) s = .next t ∧ s.KeepsLink t ∧ s.nextBegun t n next.1 next.2 ∧
          t.port = sent ∧ t.yield = s.yield ∧ t.analyser.evaluation.get n = none ∧
          ((t.nest n).state ≠ .guardWait → (t.nest n).state ≠ .window → t.analyser.lanesOf n = 0) ∧
          t.record id =
            { folded with capturesCommitted := (t.record id).capturesCommitted
                          capturesSkipped := (t.record id).capturesSkipped } ∧
          (kept → (t.record id).capturesCommitted = u.capturesCommitted + 1) ∧
          (¬ kept → (t.record id).capturesCommitted = u.capturesCommitted)

/-- A burst phase's last cycle (R51, R52, R79): the next phase, and behind the last burst the verdict with its notices, or
the next step, with a range gap or directly (R41 to R44, R75, R77). -/
def Obligations.BurstPhaseEnds : Prop :=
  ∀ (s : State) (n : Nest) (st : Step) (b : Burst),
    (s.nest n).state = .condition → (s.nest n).step = some st → (s.tone n).burst = some b → b.cyclesLeft = 0 →
    (b.on = true → 0 < st.offCycles →
      exec (.burstCountEnd n) s =
        .next (s.setTone n
          { s.tone n with burst := some ⟨false, st.offCycles, b.repeatsLeft⟩, burstMute := true })) ∧
    (b.on = false ∨ st.offCycles = 0 → 1 < b.repeatsLeft →
      exec (.burstCountEnd n) s =
        .next (s.setTone n
          { s.tone n with burst := some ⟨true, st.onCycles, b.repeatsLeft - 1⟩, burstMute := false })) ∧
    ∀ id, b.on = false ∨ st.offCycles = 0 → b.repeatsLeft ≤ 1 → (s.nest n).record = some id →
      id < s.records.length →
      (∀ p f, (s.nest n).program = some p → (s.recipe.entry p).fields = some f →
        (s.nest n).stepIndex + 1 < f.stepCount →
        let next := s.recipe.stepOf f ((s.nest n).stepIndex + 1)
        s.beginsNext n next.1 →
        ∃ t, exec (.burstCountEnd n) s = .next t ∧ s.KeepsLink t ∧ s.nextBegun t n next.1 next.2 ∧
          t.port = s.port ∧ t.yield = s.yield ∧
          t.record id =
            { s.record id with stepsCompleted := (s.record id).stepsCompleted + 1
                               capturesSkipped := (t.record id).capturesSkipped }) ∧
      (s.lastStep n false → ∃ t, exec (.burstCountEnd n) s = .next t ∧ s.KeepsLink t ∧
        t.nest n = { s.nest n with state := .judged, gap := none, deadlineRunning := false } ∧
        (∀ m, m ≠ n → t.nest m = s.nest m ∧ t.tone m = s.tone m) ∧
        (t.tone n).burst = none ∧ (t.tone n).range = (s.tone n).range ∧ (t.tone n).phase = (s.tone n).phase ∧
        (t.record id).state = .judged ∧ (t.record id).stepsCompleted = (s.record id).stepsCompleted + 1 ∧
        (t.record id).firstFailing = (s.record id).firstFailing ∧
        (t.record id).worstOverall = (s.record id).worstOverall ∧
        ∃ c, (t.record id).unitClass = some c ∧ t.port = s.verdictNotices t n id c s.port)

/-- The ends of a glide and of a ramp-down (R74, R78), and the events before their moment (log 1). -/
def Obligations.GlideAndRampEnd : Prop :=
  ∀ (s : State) (n : Nest),
    (∀ g, (s.tone n).glide = some g → 192 ≤ g.done →
      exec (.glideEnd n) s = .next (s.setTone n { s.tone n with glide := none, amplitude := g.target })) ∧
    (∀ g, (s.tone n).glide = some g → g.done < 192 → exec (.glideEnd n) s = .next s) ∧
    ((s.tone n).glide = none → exec (.glideEnd n) s = .next s) ∧
    (∀ r d, (s.tone n).envelope = .rampDown r d → 192 ≤ d →
      exec (.rampEnd n) s = .next (s.setTone n { s.tone n with envelope := .silent })) ∧
    (∀ r d, (s.tone n).envelope = .rampDown r d → d < 192 → exec (.rampEnd n) s = .next s) ∧
    ((∀ r d, (s.tone n).envelope ≠ .rampDown r d) → exec (.rampEnd n) s = .next s)

/-- The deadline's expiry (R53, R55, R134, R136, R163 to R165, R169, R170): RETEST_TIMEOUT with its notices and all its
counting, and in a sound state what the nest held given back (R54, R88 to R90, R185). That the range code keeps the value it holds behind a gap's ramp-down is the model's choice (log 39). -/
def Obligations.DeadlineExpires : Prop :=
  ∀ (s : State) (n : Nest),
    ((s.nest n).state.running = false ∨ (s.nest n).deadlineRunning = false ∨ (s.nest n).deadline ≠ 0 →
      exec (.deadlineExpiry n) s = .next s) ∧
    ∀ (id p : Nat), (s.nest n).state.running = true → (s.nest n).deadlineRunning = true → (s.nest n).deadline = 0 →
      (s.nest n).record = some id → id < s.records.length → (s.nest n).program = some p →
      let y := s.yield
      let streak := min (y.streak.get n + 1) 65535
      ∃ t, exec (.deadlineExpiry n) s = .next t ∧ s.KeepsLink t ∧
        (t.nest n).state = .judged ∧ (t.nest n).deadlineRunning = false ∧ (t.nest n).record = some id ∧
        (t.nest n).program = some p ∧ (t.nest n).stepIndex = (s.nest n).stepIndex ∧
        (t.record id).state = .judged ∧ (t.record id).unitClass = some .retestTimeout ∧
        (t.record id).retriesUsed = (s.nest n).retries ∧ (t.record id).binCopy = s.recipe.bins[8]? ∧
        (t.record id).firstFailing = (s.record id).firstFailing ∧
        (t.record id).stepsCompleted = (s.record id).stepsCompleted ∧
        t.recipe.useCount = s.recipe.useCount.set p (s.recipe.uses p - 1) ∧ (s.sound → s.gaveBackAlone t n) ∧
        t.port = s.verdictNotices t n id .retestTimeout s.port ∧
        (t.tone n).burst = none ∧ (t.tone n).pendingStep = none ∧ (t.tone n).range = (s.tone n).range ∧
        (t.tone n).phase = (s.tone n).phase ∧
        (t.tone n).envelope =
          (if (s.tone n).envelope = .silent ∨ (s.tone n).burstMute = true then .silent
            else .rampDown (s.tone n).envelope.lastPosition 0) ∧
        t.yield.window = y.window ∧ t.yield.passCount = y.passCount ∧
        t.yield.counts.judged.get n = count (y.counts.judged.get n) 1 ∧ t.yield.counts.passed = y.counts.passed ∧
        t.yield.streak.get n = streak ∧
        t.yield.line =
          (if 0 < y.holdLevel ∧ y.windowLength ≤ y.window.length ∧ y.passCount < y.holdLevel then .held else y.line) ∧
        t.yield.admission.get n =
          (if 0 < y.quarantineLevel ∧ y.quarantineLevel ≤ streak then .quarantined else y.admission.get n)

/-- STOP_LINE_ASSERT, STOP_LINE_RELEASE and STOP (R59, R61, R62, R81, R138, R208): every running unit aborted, what it held
given back (R54, R89, R90, R185), every other nest as it was; the line's level; the reply's list. -/
def Obligations.StopAbortsRunningUnits : Prop :=
  ∀ s : State, s.sound →
    let running := Nest.order.filter (fun n => (s.nest n).state.running)
    let aborted := fun (t : State) =>
      t.link = s.link ∧ t.out = s.out ∧ t.port.taps = s.port.taps ∧ t.yield.window = s.yield.window ∧
      t.yield.streak = s.yield.streak ∧ t.yield.admission = s.yield.admission ∧ t.yield.line = s.yield.line ∧
      (running ≠ [] → t.yield.counts.aborted = count s.yield.counts.aborted running.length) ∧
      (running = [] → t.yield = s.yield) ∧ t.analyser.queue = [] ∧
      ∀ n,
        ((s.nest n).state.running = false → t.nest n = s.nest n ∧ t.tone n = s.tone n) ∧
        ((s.nest n).state.running = true →
          (t.nest n).state = .idle ∧ (t.nest n).record = none ∧ (t.nest n).program = none ∧
          (t.nest n).stepIndex = 0 ∧ (t.nest n).deadlineRunning = false ∧ (t.tone n).envelope = .silent ∧
          (t.tone n).burstMute = false ∧ s.givenBack t n ∧
          ∀ id, (s.nest n).record = some id → t.record id = .free)
    (s.stopLine = true → exec .stopLineAssert s = .next s) ∧
    (s.stopLine = false → ∃ t, exec .stopLineAssert s = .next t ∧ t.stopLine = true ∧ t.port.replies = s.port.replies ∧
      t.port.commands = s.port.commands ∧ aborted t) ∧
    exec .stopLineRelease s = .next { s with stopLine := false } ∧
    ∀ tag rest, s.takes tag 0x23 [] rest →
      ∃ t, exec .stop s = .next t ∧ t.stopLine = s.stopLine ∧ t.port.commands = rest ∧ aborted t ∧
        t.port.replies = s.port.replies ++
          [⟨tag, 0x23, none, toBytes 1 running.length ++ running.flatMap (fun n => toBytes 1 n.num)⟩]

/-! ### The line port: cells and the arbiter -/

/-- A cell received (R195 to R197, R199): bad cells, COMMAND cells, STREAM cells. -/
def Obligations.CellsAreReceived : Prop :=
  ∀ s : State,
    (∀ bytes : List Byte,
      let n := (bytes.getD 2 0).toNat
      let kind := bytes.getD 0 0
      let channel := (bytes.getD 1 0).toNat
      (240 < n ∨ bytes.length ≠ n + 5 ∨ bytes.drop (n + 3) ≠ toBytes 2 (crc16 (bytes.take (n + 3))).toNat ∨
        (kind ≠ 1 ∧ kind ≠ 2) ∨ (kind = 2 ∧ (channel < 1 ∨ 4 < channel ∨ n ≠ 144))) →
      exec (.cellArrival bytes) s =
        .next { s with port := { s.port with badCells := count s.port.badCells 1 } }) ∧
    (∀ (tag : Byte) (payload : List Byte), payload.length ≤ 240 →
      exec (.cellArrival (cellBytes 1 tag payload)) s =
        .next (if s.port.commands.length < 8 then
            { s with port := { s.port with commands := s.port.commands ++ [⟨tag, payload⟩] } }
          else
            { s with port :=
                { s.port with commandOverruns := count s.port.commandOverruns 1, overrunFlag := true } })) ∧
    ∀ (n : Nest) (xs : List Sample), xs.length = 48 →
      let cell := cellBytes 2 (BitVec.ofNat 8 n.num) (xs.flatMap sampleBytes)
      let old := s.port.streams.get n
      let fit := min 48 (2048 - old.length)
      ((s.nest n).state ≠ .reserved →
        exec (.cellArrival cell) s =
          .next { s with port := { s.port with streamDiscards := count s.port.streamDiscards 1 } }) ∧
      ((s.nest n).state = .reserved →
        exec (.cellArrival cell) s =
          .next { s with port :=
            { s.port with
                streams := s.port.streams.set n (old ++ xs.take fit)
                streamOverruns := s.port.streamOverruns.set n (count (s.port.streamOverruns.get n) (48 - fit))
                pace := s.port.pace.set n
                  (if 1536 ≤ old.length + fit ∧ (s.port.pace.get n).current = .go then
                    { s.port.pace.get n with pendingState :=
                        if (s.port.pace.get n).lastSent = .stop then none else some .stop }
                  else s.port.pace.get n) } })

/-- A slot of the arbiter (R206), and the reset behind the REBOOT reply (R210, R213). That this reset keeps the STOP input's
level (log 17), the link outputs and the queue of events (log 21) and advances the free counter (log 5) is the model's
choice. -/
def Obligations.ArbiterSendsOneCell : Prop :=
  ∀ s : State,
    let p := s.port
    let quiet := ∀ n, (p.pace.get n).pendingState = none
    (∀ n x, (p.pace.get n).pendingState = some x → (∀ m : Nest, m.num < n.num → (p.pace.get m).pendingState = none) →
      exec .arbiterSlot s =
        .next { s with port := { p with pace := p.pace.set n ⟨x, none⟩ }
                       out := { s.out with upstream := some (paceCell n x) } }) ∧
    (∀ r rest, quiet → p.replies = r :: rest → (p.unit = .rebooting → rest ≠ []) →
      exec .arbiterSlot s =
        .next { s with port := { p with replies := rest }, out := { s.out with upstream := some r.cell } }) ∧
    (∀ x rest, quiet → p.replies = [] → p.notices = x :: rest →
      exec .arbiterSlot s =
        .next { s with port := { p with notices := rest }, out := { s.out with upstream := some x.cell } }) ∧
    (∀ x rest, quiet → p.replies = [] → p.notices = [] → p.tapQueue = x :: rest →
      exec .arbiterSlot s =
        .next { s with port := { p with tapQueue := rest }, out := { s.out with upstream := some x.cell } }) ∧
    (quiet → p.replies = [] → p.notices = [] → p.tapQueue = [] →
      exec .arbiterSlot s = .next { s with out := { s.out with upstream := none } }) ∧
    ∀ r, quiet → p.unit = .rebooting → p.replies = [r] →
      exec .arbiterSlot s =
        .next { State.reset with
                  port := { Port.reset with config := p.config }, stopLine := s.stopLine
                  out := { s.out with upstream := some r.cell }, freeCount := s.freeCount + 1, pending := s.pending }

/-! ### Label queue and marking port: events -/

/-- A fill (R145): the slot chosen, the record LABELLING with its message, and the message started on an IDLE line. -/
def Obligations.SlotIsFilled : Prop :=
  ∀ s : State,
    (s.marking.queue = [] ∨ (s.marking.slotA.state ≠ .free ∧ s.marking.slotB.state ≠ .free) →
      exec .slotFill s = .next s) ∧
    ∀ (id : Nat) (rest : List Nat) (i : SlotId), s.marking.queue = id :: rest → id < s.records.length →
      (s.marking.slot i).state = .free →
      ((s.marking.slot i.other).state = .free →
        rest = [] ∧ i = match s.marking.lastFilled with | some j => j.other | none => .a) →
      ∃ t, exec .slotFill s = .next t ∧ s.KeepsLink t ∧ t.marking.queue = rest ∧ t.marking.lastFilled = some i ∧
        (t.marking.slot i).record = some id ∧
        (t.marking.slot i).message =
          labelMessage i { s.record id with state := .labelling, slot := some i } ∧
        t.record id = { s.record id with state := .labelling, slot := some i } ∧
        (∀ m, m ≠ id → t.record m = s.record m) ∧
        (s.marking.transmitter = .idle → (s.marking.slot i.other).state ≠ .waitLine →
          (t.marking.slot i).state = .sending ∧ t.marking.transmitter = .sending i 0) ∧
        (s.marking.transmitter ≠ .idle →
          (t.marking.slot i).state = .waitLine ∧ t.marking.transmitter = s.marking.transmitter) ∧
        ((s.marking.slot i.other).state ≠ .waitLine → t.marking.slot i.other = s.marking.slot i.other)

/-- The label message (R146, R223). -/
def Obligations.LabelMessageForm : Prop :=
  ∀ (i : SlotId) (u : UnitRecord) (b : BinEntry) (c : UnitClass),
    u.binCopy = some b → u.unitClass = some c → 1 ≤ b.code.length → b.code.length ≤ 8 → b.bin ≤ 15 →
    let m := labelMessage i u
    m.length = 26 ∧ m.getD 0 0 = 0x02 ∧ m.getD 25 0 = 0x03 ∧
    m.getD 1 0 = (match i with | .a => 0x41 | .b => 0x42) ∧
    (m.drop 2).take 8 = b.code ++ List.replicate (8 - b.code.length) 0x20 ∧
    (∀ j, j < 10 → (m.getD (10 + j) 0).toNat = 0x30 + u.carrier.toNat / 10 ^ (9 - j) % 10) ∧
    (m.getD 20 0).toNat = 0x30 + b.bin / 10 ∧ (m.getD 21 0).toNat = 0x30 + b.bin % 10 ∧
    (m.drop 22).take 2 = c.chars ∧
    m.getD 24 0 = ((m.drop 1).take 23).foldl (fun x y => x ^^^ y) 0

/-- The transmitter (R147, R148, R159): a message starts, has been sent, or stops behind a RESTART. That each of the three
events does nothing at any other moment is the model's choice (log 1). -/
def Obligations.TransmitterEvents : Prop :=
  ∀ (s : State) (i : SlotId),
    let m := s.marking
    let started := fun (m : Marking) (i : SlotId) =>
      ({ m.setSlot i { m.slot i with state := .sending } with transmitter := .sending i 0 } : Marking)
    (m.transmitter ≠ .idle → exec .messageStart s = .next s) ∧
    (m.slotA.state ≠ .waitLine → m.slotB.state ≠ .waitLine → exec .messageStart s = .next s) ∧
    (m.transmitter = .idle → (m.slot i).state = .waitLine →
      (m.slot i.other).state ≠ .waitLine ∨ m.lastFilled = some i.other →
      exec .messageStart s = .next { s with marking := started m i }) ∧
    ((∀ j k, m.transmitter ≠ .sending j k) → exec .labelMessageSent s = .next s) ∧
    (∀ k, m.transmitter = .sending i k →
      let sent : Marking :=
        { m.setSlot i { m.slot i with state := .awaitAck, ackLeft := 96 * m.ackMs } with transmitter := .idle }
      ((m.slot i.other).state ≠ .waitLine → exec .labelMessageSent s = .next { s with marking := sent }) ∧
      ((m.slot i.other).state = .waitLine →
        exec .labelMessageSent s = .next { s with marking := started sent i.other })) ∧
    ((∀ k, m.transmitter ≠ .stopping k) → exec .transmitterStopped s = .next s) ∧
    ∀ k, m.transmitter = .stopping k →
      let idle : Marking := { m with transmitter := .idle }
      (m.slotA.state ≠ .waitLine → m.slotB.state ≠ .waitLine →
        exec .transmitterStopped s = .next { s with marking := idle }) ∧
      ((m.slot i).state = .waitLine → (m.slot i.other).state ≠ .waitLine ∨ m.lastFilled = some i.other →
        exec .transmitterStopped s = .next { s with marking := started idle i })

/-- A character from the applicator (R149 to R151, R153): errors, the receiver's table, a complete reply. An ack timer's
expiry (R148, R153): NO_ACK; that ACK_TIMEOUT does nothing before its moment is the model's choice (log 1). Each retires
the record with its LABEL notice (R153, R155). -/
def Obligations.LabelAnswers : Prop :=
  (∀ (s : State) (c : Byte) (parity stop : Bool),
     let m := s.marking
     let ones := (List.range 8).countP (fun i => c.getLsbD i) + parity.toNat
     let good := ones % 2 = 0 ∧ stop = true
     let wrong := fun (r : Receiver) =>
       ({ s with marking := { m with charErrors := count m.charErrors 1, receiver := r } } : State)
     let moved := fun (r : Receiver) => ({ s with marking := { m with receiver := r } } : State)
     (¬ good → exec (.markingCharacter c parity stop) s = .next (wrong .expectKind)) ∧
     (good → m.receiver = .expectKind →
       exec (.markingCharacter c parity stop) s =
         .next (if c = 0x41 then moved (.expectSlot true) else if c = 0x4E then moved (.expectSlot false)
           else wrong .expectKind)) ∧
     (∀ ack, good → m.receiver = .expectSlot ack →
       exec (.markingCharacter c parity stop) s =
         .next (if c = 0x41 then moved (.expectEnd ack .a) else if c = 0x42 then moved (.expectEnd ack .b)
           else wrong .expectKind)) ∧
     ∀ ack i, good → m.receiver = .expectEnd ack i →
       (c ≠ 0x03 →
         exec (.markingCharacter c parity stop) s =
           .next (if c = 0x41 then wrong (.expectSlot true) else if c = 0x4E then wrong (.expectSlot false)
             else wrong .expectKind)) ∧
       (c = 0x03 → (m.slot i).state ≠ .awaitAck →
         exec (.markingCharacter c parity stop) s =
           .next { s with marking := { m with receiver := .expectKind, strayAcks := count m.strayAcks 1 } }) ∧
       ∀ id, c = 0x03 → (m.slot i).state = .awaitAck → (m.slot i).record = some id → s.sound →
         ∃ t, exec (.markingCharacter c parity stop) s = .next t ∧ s.KeepsLink t ∧ t.marking.receiver = .expectKind ∧
           t.marking.strayAcks = m.strayAcks ∧
           s.retiredFrom t i id (if ack then .applied else .rejected)) ∧
  ∀ (s : State) (i : SlotId),
    ((s.marking.slot i).state ≠ .awaitAck ∨ (s.marking.slot i).ackLeft ≠ 0 → exec (.ackTimeout i) s = .next s) ∧
    ∀ id, (s.marking.slot i).state = .awaitAck → (s.marking.slot i).ackLeft = 0 → (s.marking.slot i).record = some id →
      s.sound →
      ∃ t, exec (.ackTimeout i) s = .next t ∧ s.KeepsLink t ∧ t.nests = s.nests ∧ t.yield.window = s.yield.window ∧
        s.retiredFrom t i id .noAck

/-! ### Configuration memory -/

/-- CONFIG WRITE, of any length, and its completion (R212): refused, begun, and done, the bytes read back and no other byte touched. -/
def Obligations.ConfigWrite : Prop :=
  (∀ (s : State) (tag : Byte) (ops : List Byte) (rest : List CommandCell),
    s.takes tag 0x76 ops rest →
    let addr := fieldAt ops 0 4
    let n := fieldAt ops 4 1
    let data := ops.drop 5
    (1 ≤ n ∧ n ≤ 64 ∧ addr + n ≤ 131072 ∧ data.length = n →
      exec .configWrite s =
        .next { s.taken rest with port := { (s.taken rest).port with unit := .writing tag addr data } }) ∧
    (¬ (1 ≤ n ∧ n ≤ 64 ∧ addr + n ≤ 131072 ∧ data.length = n) →
      exec .configWrite s = .next ((s.taken rest).refusal tag 0x76 .range []))) ∧
  (∀ (s : State) (tag : Byte) (addr : Nat) (data : List Byte), s.port.unit = .writing tag addr data →
    Memory.wf erased s.port.config = true →
    ∃ cfg, exec .configWriteComplete s =
        .next (({ s with port := { s.port with config := cfg, unit := .idle } } : State).reply ⟨tag, 0x76, none, []⟩) ∧
      Memory.readMany erased cfg addr data.length = data ∧
      ∀ a, a < addr ∨ addr + data.length ≤ a → Memory.read erased cfg a = Memory.read erased s.port.config a) ∧
  ∀ s : State, (∀ tag addr data, s.port.unit ≠ .writing tag addr data) → exec .configWriteComplete s = .next s

/-! ### Recipe memory -/

/-- WRITE ROWS (R7, R8), of any length: RANGE, IN_USE, or the rows written, the touched ACTIVE programs INACTIVE, and their list. -/
def Obligations.WriteRows : Prop :=
  ∀ (s : State) (tag : Byte) (ops : List Byte) (rest : List CommandCell),
    s.takes tag 0x10 ops rest → Memory.wf 0 s.recipe.rows = true →
    let first := fieldAt ops 0 2
    let n := fieldAt ops 2 2
    let data := ops.drop 4
    let inRange := 1 ≤ n ∧ n ≤ 14 ∧ first + n ≤ 4096 ∧ data.length = 16 * n
    let usedBy := fun (p : Nat) =>
      p < 8 ∧ 0 < s.recipe.uses p ∧ ∃ f, (s.recipe.entry p).fields = some f ∧ f.meets first n
    (¬ inRange → exec .writeRows s = .next ((s.taken rest).refusal tag 0x10 .range [])) ∧
    (∀ p, inRange → usedBy p → (∀ m, m < p → ¬ usedBy m) →
      exec .writeRows s = .next ((s.taken rest).refusal tag 0x10 .inUse (toBytes 1 p))) ∧
    (inRange → (∀ p, ¬ usedBy p) →
      ∃ (r : Recipe) (list : List Nat),
        exec .writeRows s =
          .next (({ s.taken rest with recipe := r } : State).done tag 0x10
            (toBytes 1 list.length ++ list.flatMap (toBytes 1))) ∧
        r.useCount = s.recipe.useCount ∧ r.bins = s.recipe.bins ∧
        Memory.readMany 0 r.rows (16 * first) (16 * n) = data ∧
        (∀ a, a < 16 * first ∨ 16 * (first + n) ≤ a → Memory.read 0 r.rows a = Memory.read 0 s.recipe.rows a) ∧
        list.Pairwise (· < ·) ∧
        (∀ p, p ∈ list ↔ p < 8 ∧ ∃ f, s.recipe.entry p = .active f ∧ f.meets first n) ∧
        ∀ p, p < 8 → r.entry p =
          match s.recipe.entry p with
          | .active f => if p ∈ list then .inactive f else .active f
          | e => e)

/-- WRITE DIRECTORY (R10): its five checks in order, behind the check of its length (R200). That EMPTY is taken with its
other fields left out is the model's choice (log 24). -/
def Obligations.WriteDirectory : Prop :=
  ∀ (s : State) (tag : Byte) (ops : List Byte) (rest : List CommandCell),
    s.takes tag 0x12 ops rest →
    let fits := ops.length = 21 ∨ (ops.length = 2 ∧ fieldAt ops 1 1 = 0)
    let e := fieldAt ops 0 1
    let st := fieldAt ops 1 1
    let bad : Option Nat :=
      [ decide (4095 < fieldAt ops 2 2), decide (fieldAt ops 4 2 < 1 ∨ 256 < fieldAt ops 4 2),
        decide (4095 < fieldAt ops 6 2), decide (256 < fieldAt ops 8 2),
        decide (fieldAt ops 10 2 < 100 ∨ 60000 < fieldAt ops 10 2), decide (15 < fieldAt ops 12 1),
        decide (1 < fieldAt ops 13 1), decide (2 < fieldAt ops 14 1), decide (16 < fieldAt ops 15 1),
        decide (3000 < fieldAt ops 16 2), decide (50 < fieldAt ops 18 1) ].findIdx? (fun b => b)
    (¬ fits → exec .writeDirectory s = .next ((s.taken rest).refusal tag 0x12 .range [])) ∧
    (7 < e ∨ 2 < st → exec .writeDirectory s = .next ((s.taken rest).refusal tag 0x12 .range [])) ∧
    (fits → e ≤ 7 → st ≤ 2 → 0 < s.recipe.uses e →
      exec .writeDirectory s = .next ((s.taken rest).refusal tag 0x12 .inUse [])) ∧
    (fits → e ≤ 7 → s.recipe.uses e = 0 → st = 0 →
      exec .writeDirectory s = .next (((s.taken rest).setEntry e .empty).done tag 0x12 [])) ∧
    (∀ i, fits → e ≤ 7 → s.recipe.uses e = 0 → (st = 1 ∨ st = 2) → bad = some i →
      exec .writeDirectory s = .next ((s.taken rest).refusal tag 0x12 .range (toBytes 1 i))) ∧
    (fits → e ≤ 7 → s.recipe.uses e = 0 → (st = 1 ∨ st = 2) → bad = none →
      ∃ f, exec .writeDirectory s = .next (((s.taken rest).setEntry e (.inactive f)).done tag 0x12 []) ∧
        f.firstStep = fieldAt ops 2 2 ∧ f.stepCount = fieldAt ops 4 2 ∧ f.firstLimit = fieldAt ops 6 2 ∧
        f.limitCount = fieldAt ops 8 2 ∧ f.taktMs = fieldAt ops 10 2 ∧ f.retryBudget = fieldAt ops 12 1 ∧
        (f.stopOnFail = true ↔ fieldAt ops 13 1 = 1) ∧ f.policy.code = fieldAt ops 14 1 ∧
        f.captureLimit = fieldAt ops 15 1 ∧ f.gradeMargin = fieldAt ops 16 2 ∧ f.rangeGapMs = fieldAt ops 18 1)

/-- ACTIVATE (R12 to R17): an INACTIVE entry becomes ACTIVE exactly where its regions fit, its steps and the limit records
they name are in range, and no other ACTIVE program shares a row; otherwise the first check that fails refuses it, with
the region, the step index and field, or the lowest-numbered program that shares a row (R218). -/
def Obligations.Activate : Prop :=
  ∀ (s : State) (tag : Byte) (ops : List Byte) (rest : List CommandCell),
    s.takes tag 0x14 ops rest → ops.length = 1 →
    let e := fieldAt ops 0 1
    let r := s.recipe
    let within := fun (lo hi : Int) (b : Option Int) => ∀ v, b = some v → lo ≤ v ∧ v ≤ hi
    let limitsOk := fun (l : Limits) =>
      within (-20000) 20000 l.lower ∧ within (-20000) 20000 l.upper ∧
      (∀ a b, l.lower = some a → l.upper = some b → a ≤ b) ∧ within (-14000) 3000 l.thd ∧ within (-14000) 3000 l.hoh
    let stepOk := fun (f : ProgramFields) (i : Nat) =>
      let st := r.rawStep f i
      2000 ≤ st.frequency ∧ st.frequency ≤ 4000000 ∧ -12000 ≤ st.level ∧ st.level ≤ 0 ∧ 1 ≤ st.range ∧ st.range ≤ 3 ∧
      ((st.kind = 2 ∧ 1 ≤ st.onCycles ∧ 1 ≤ st.repeats) ∨
        (st.kind = 1 ∧ 1 ≤ st.dwell ∧ st.dwell ≤ 4 ∧ st.settleMs ≤ 2000 ∧ st.settleMs ≤ st.capMs ∧ st.capMs ≤ 4000 ∧
          1 ≤ st.tolerance ∧ st.tolerance ≤ 600 ∧ 1 ≤ st.cycles ∧ st.cycles ≤ 4096 ∧
          64 ≤ (2 * st.cycles * 9600000 + st.frequency) / (2 * st.frequency) ∧
          (2 * st.cycles * 9600000 + st.frequency) / (2 * st.frequency) ≤ 65536 ∧ st.guarded ≤ 1 ∧
          (∀ m, st.limitIndex = some m → m < f.limitCount ∧ limitsOk (r.limits f m)) ∧
          6 ≤ st.bandLow ∧ st.bandLow ≤ 40 ∧ st.bandLow ≤ st.bandHigh ∧ st.bandHigh ≤ 40))
    let placed := fun (f : ProgramFields) =>
      f.firstStep + 2 * f.stepCount ≤ 4096 ∧ (f.limitCount = 0 ∨ f.firstLimit + f.limitCount ≤ 4096) ∧
      f.firstStep % 2 = 0
    let alone := fun (f : ProgramFields) =>
      ∀ p g, p < 8 → p ≠ e → r.entry p = .active g → ∀ row, ¬ (f.hasRow row ∧ g.hasRow row)
    (7 < e → exec .activate s = .next ((s.taken rest).refusal tag 0x14 .range [])) ∧
    (e ≤ 7 → r.entry e = .empty → exec .activate s = .next ((s.taken rest).refusal tag 0x14 .noProgram [])) ∧
    (∀ f, e ≤ 7 → r.entry e = .active f → exec .activate s = .next ((s.taken rest).done tag 0x14 [])) ∧
    ∀ f, e ≤ 7 → r.entry e = .inactive f →
      (placed f → (∀ i, i < f.stepCount → stepOk f i) → alone f →
        exec .activate s = .next (((s.taken rest).setEntry e (.active f)).done tag 0x14 [])) ∧
      (¬ (placed f ∧ (∀ i, i < f.stepCount → stepOk f i) ∧ alone f) →
        ∃ reason data, exec .activate s = .next ((s.taken rest).refusal tag 0x14 reason data) ∧
          (reason = .range ∨ reason = .badRecord ∨ reason = .overlap)) ∧
      (4096 < f.firstStep + 2 * f.stepCount →
        exec .activate s = .next ((s.taken rest).refusal tag 0x14 .range [0])) ∧
      (placed f → (∀ i, i < f.stepCount → stepOk f i) → ¬ alone f →
        ∃ p, exec .activate s = .next ((s.taken rest).refusal tag 0x14 .overlap (toBytes 1 p))) ∧
      ∀ reason data, r.refuses (fun p g => p < 8 ∧ p ≠ e ∧ r.entry p = .active g) f reason data →
        exec .activate s = .next ((s.taken rest).refusal tag 0x14 reason data)

/-- DEACTIVATE (R18). -/
def Obligations.Deactivate : Prop :=
  ∀ (s : State) (tag : Byte) (ops : List Byte) (rest : List CommandCell),
    s.takes tag 0x15 ops rest → ops.length = 1 →
    let e := fieldAt ops 0 1
    (7 < e → exec .deactivate s = .next ((s.taken rest).refusal tag 0x15 .range [])) ∧
    (e ≤ 7 → s.recipe.entry e = .empty →
      exec .deactivate s = .next ((s.taken rest).refusal tag 0x15 .noProgram [])) ∧
    (e ≤ 7 → s.recipe.entry e ≠ .empty → 0 < s.recipe.uses e →
      exec .deactivate s = .next ((s.taken rest).refusal tag 0x15 .inUse [])) ∧
    (∀ f, e ≤ 7 → s.recipe.entry e = .inactive f → s.recipe.uses e = 0 →
      exec .deactivate s = .next ((s.taken rest).done tag 0x15 [])) ∧
    ∀ f, e ≤ 7 → s.recipe.entry e = .active f → s.recipe.uses e = 0 →
      exec .deactivate s = .next (((s.taken rest).setEntry e (.inactive f)).done tag 0x15 [])

/-- WRITE BINS (R20), of any length: its three checks in order, and the entries replaced. A label code of eight 0x00 bytes
is the empty code of check 3 (log 38), and of several classes that fail one check the lowest is named, the model's choice
(log 40). -/
def Obligations.WriteBins : Prop :=
  ∀ (s : State) (tag : Byte) (ops : List Byte) (rest : List CommandCell),
    s.takes tag 0x16 ops rest → s.recipe.bins.length = 10 →
    let first := fieldAt ops 0 1
    let n := fieldAt ops 1 1
    let entry := fun (i : Nat) => (ops.drop (2 + 10 * i)).take 10
    let bin := fun (i : Nat) => fieldAt (entry i) 0 1
    let label := fun (i : Nat) => fieldAt (entry i) 1 1
    let inRange := first ≤ 9 ∧ 1 ≤ n ∧ n ≤ 10 ∧ first + n ≤ 10 ∧ ops.length = 2 + 10 * n
    let fieldsOk := fun (i : Nat) => bin i ≤ 15 ∧ label i ≤ 1
    let codeIs := fun (i : Nat) (code : List Byte) => binCodeIs (entry i) code
    (¬ inRange → exec .writeBins s = .next ((s.taken rest).refusal tag 0x16 .range [])) ∧
    (∀ i, inRange → i < n → ¬ fieldsOk i → (∀ j, j < i → fieldsOk j) →
      exec .writeBins s = .next ((s.taken rest).refusal tag 0x16 .range (toBytes 1 (first + i)))) ∧
    (∀ i, inRange → (∀ j, j < n → fieldsOk j) → i < n → (∀ code, ¬ codeIs i code) →
      (∀ j, j < i → ∃ code, codeIs j code) →
      exec .writeBins s = .next ((s.taken rest).refusal tag 0x16 .badRecord (toBytes 1 (first + i) ++ [22]))) ∧
    ∀ codes : Nat → List Byte, inRange → (∀ j, j < n → fieldsOk j) → (∀ j, j < n → codeIs j (codes j)) →
      ∃ table, exec .writeBins s =
          .next (({ s.taken rest with recipe := { s.recipe with bins := table } } : State).done tag 0x16 []) ∧
        table.length = 10 ∧
        (∀ j, j < n → table[first + j]? = some ⟨bin j, decide (label j = 1), codes j⟩) ∧
        ∀ c, c < first ∨ first + n ≤ c → table[c]? = s.recipe.bins[c]?

/-! ### Nest commands -/

/-- ARRIVE (R38, R39, R42, R129): the first reason that applies, or the unit admitted. -/
def Obligations.Arrive : Prop :=
  ∀ (s : State) (tag : Byte) (ops : List Byte) (rest : List CommandCell),
    s.sound → s.takes tag 0x20 ops rest → ops.length = 6 →
    let p := fieldAt ops 5 1
    let carrier := BitVec.ofNat 32 (fieldAt ops 1 4)
    (Nest.ofNum (fieldAt ops 0 1) = none ∨ 7 < p →
      exec .arrive s = .next ((s.taken rest).refusal tag 0x20 .range [])) ∧
    ∀ n, Nest.ofNum (fieldAt ops 0 1) = some n → p ≤ 7 →
      let refusal : Option Reason :=
        if s.stopLine then some .stopped
        else if s.link.state ≠ .linkUp then some .linkDown
        else if s.yield.line = .held then some .held
        else if s.yield.admission.get n = .quarantined then some .quarantined
        else if (s.nest n).state = .reserved then some .reserved
        else if (s.nest n).state ≠ .idle then some .busy
        else match s.recipe.entry p with
          | .active _ => none
          | _ => some .noProgram
      (∀ reason, refusal = some reason → exec .arrive s = .next ((s.taken rest).refusal tag 0x20 reason [])) ∧
      ∀ f, refusal = none → s.recipe.entry p = .active f → p < s.recipe.useCount.length →
        ∃ t id, exec .arrive s = .next t ∧ (s.taken rest).link = t.link ∧
          s.lowestFree = some id ∧ id < 14 ∧ t.port.commands = rest ∧
          t.port.replies = s.port.replies ++ [⟨tag, 0x20, none, toBytes 1 id⟩] ∧
          t.record id =
            { UnitRecord.free with state := .running, nest := some n, carrier := carrier, program := p
                                   arrival := s.link.frameIndex } ∧
          (∀ m, m ≠ id → t.record m = s.record m) ∧
          t.recipe.uses p = s.recipe.uses p + 1 ∧ (∀ e, e ≠ p → t.recipe.uses e = s.recipe.uses e) ∧
          t.nest n =
            { s.nest n with state := .gap, record := some id, program := some p, settings := f.settings, stepIndex := 0
                            gap := some ⟨.rampUp, 192⟩, deadline := 96 * f.taktMs, deadlineRunning := true, retries := 0
                            step := some (s.recipe.stepOf f 0).1, limits := (s.recipe.stepOf f 0).2 } ∧
          (∀ m, m ≠ n → t.nest m = s.nest m ∧ t.tone m = s.tone m) ∧
          t.tone n =
            { s.tone n with pendingStep := some ⟨(s.recipe.stepOf f 0).1.frequency, (s.recipe.stepOf f 0).1.level,
                                                 (s.recipe.stepOf f 0).1.range⟩ } ∧
          t.analyser = s.analyser ∧ t.yield = s.yield ∧ t.marking = s.marking ∧ t.capture = s.capture

/-- RELEASE (R58, R139, R144, R145, R154): its four checks, the record queued, put in a slot, or retired with its LABEL
notice, the nest IDLE and silent. -/
def Obligations.Release : Prop :=
  ∀ (s : State) (tag : Byte) (ops : List Byte) (rest : List CommandCell),
    s.sound → s.takes tag 0x21 ops rest → ops.length = 1 →
    (Nest.ofNum (fieldAt ops 0 1) = none → exec .release s = .next ((s.taken rest).refusal tag 0x21 .range [])) ∧
    ∀ n, Nest.ofNum (fieldAt ops 0 1) = some n →
      let q := s.nest n
      (q.state = .idle ∨ q.state = .reserved →
        exec .release s = .next ((s.taken rest).refusal tag 0x21 .empty [])) ∧
      (q.state.running = true → exec .release s = .next ((s.taken rest).refusal tag 0x21 .notJudged [])) ∧
      ∀ id, q.state = .judged → q.record = some id →
        let u := s.record id
        let labelled := ∃ b, u.binCopy = some b ∧ b.label = true
        (labelled → s.marking.queue.length = 8 →
          exec .release s = .next ((s.taken rest).refusal tag 0x21 .queueFull [])) ∧
        (¬ labelled ∨ s.marking.queue.length < 8 →
          ∃ t, exec .release s = .next t ∧ t.port.commands = rest ∧
            t.port.replies = s.port.replies ++ [⟨tag, 0x21, none, []⟩] ∧
            t.nest n = { q with state := .idle, record := none, program := none, stepIndex := 0, gap := none
                                deadlineRunning := false } ∧
            t.tone n = { s.tone n with envelope := .silent, glide := none, burst := none, pendingStep := none
                                       burstMute := false } ∧
            (∀ m, m ≠ n → t.nest m = s.nest m ∧ t.tone m = s.tone m) ∧ t.yield.window = s.yield.window ∧
            (labelled → t.yield = s.yield ∧
              (s.marking.slotA.state ≠ .free → s.marking.slotB.state ≠ .free →
                t.marking = { s.marking with queue := s.marking.queue ++ [id] } ∧
                t.record id = { u with state := .queued }) ∧
              (∀ i, s.marking.queue = [] → (s.marking.slot i).state = .free →
                ((s.marking.slot i.other).state = .free →
                  i = match s.marking.lastFilled with | some j => j.other | none => .a) →
                t.marking.queue = [] ∧ t.marking.lastFilled = some i ∧ (t.marking.slot i).record = some id ∧
                t.record id = { u with state := .labelling, slot := some i }) ∧
              t.port = ((s.taken rest).done tag 0x21 []).port) ∧
            (¬ labelled → t.marking = s.marking ∧ t.record id = .free ∧
              t.port =
                (((s.taken rest).notice (.label id { u with labelOutcome := some .notLabelled } s.link.frameIndex)).done
                  tag 0x21 []).port ∧
              t.yield.counts = s.yield.counts.retire ((u.binCopy.map BinEntry.bin).getD 0) .notLabelled))

/-- ABORT (R59, R60, R138, R140): a running unit ABORTED with its VERDICT notice, what it held given back (R54, R88 to R90,
R185), a JUDGED unit discarded with its DISCARD notice, the nest IDLE and silent. -/
def Obligations.Abort : Prop :=
  ∀ (s : State) (tag : Byte) (ops : List Byte) (rest : List CommandCell),
    s.sound → s.takes tag 0x22 ops rest → ops.length = 1 →
    (Nest.ofNum (fieldAt ops 0 1) = none → exec .abort s = .next ((s.taken rest).refusal tag 0x22 .range [])) ∧
    ∀ n, Nest.ofNum (fieldAt ops 0 1) = some n →
      let q := s.nest n
      (q.state = .idle ∨ q.state = .reserved →
        exec .abort s = .next ((s.taken rest).refusal tag 0x22 .empty [])) ∧
      ∀ id, q.record = some id → q.state.running = true ∨ q.state = .judged →
        ∃ t, exec .abort s = .next t ∧ t.link = s.link ∧ t.port.commands = rest ∧
          t.port.replies = s.port.replies ++ [⟨tag, 0x22, none, []⟩] ∧
          (t.nest n).state = .idle ∧ (t.nest n).record = none ∧ (t.nest n).program = none ∧ (t.nest n).stepIndex = 0 ∧
          t.tone n = { s.tone n with envelope := .silent, glide := none, burst := none, pendingStep := none
                                     burstMute := false } ∧
          t.record id = .free ∧ t.marking = s.marking ∧
          t.yield.window = s.yield.window ∧ t.yield.streak = s.yield.streak ∧ t.yield.line = s.yield.line ∧
          (∀ p, q.state.running = true → q.program = some p →
            t.recipe.useCount = s.recipe.useCount.set p (s.recipe.uses p - 1)) ∧
          (q.state.running = true →
            s.gaveBackAlone t n ∧
            t.yield.counts = { s.yield.counts with aborted := count s.yield.counts.aborted 1 } ∧
            t.port =
              (((s.taken rest).notice (.verdict id { s.record id with retriesUsed := q.retries } true
                s.link.frameIndex)).done tag 0x22 []).port) ∧
          (q.state = .judged →
            t.port = (((s.taken rest).notice (.discard id (s.record id) false)).done tag 0x22 []).port ∧
            t.recipe = s.recipe ∧ t.analyser = s.analyser ∧ t.capture = s.capture ∧
            t.yield.counts = { s.yield.counts with discarded := count s.yield.counts.discarded 1 } ∧
            ∀ m, m ≠ n → t.nest m = s.nest m)

/-- RESERVE STREAM and RELEASE STREAM (R64, R65, R76, R199). -/
def Obligations.StreamReservation : Prop :=
  ∀ (s : State) (tag : Byte) (ops : List Byte) (rest : List CommandCell), ops.length = 1 →
    let emptied := fun (n : Nest) =>
      ({ s.port with
          commands := rest, streams := s.port.streams.set n []
          pace := s.port.pace.set n
            (if (s.port.pace.get n).current = .stop then
              { s.port.pace.get n with pendingState := if (s.port.pace.get n).lastSent = .go then none else some .go }
            else s.port.pace.get n) } : Port)
    (s.takes tag 0x24 ops rest →
      (Nest.ofNum (fieldAt ops 0 1) = none → exec .reserveStream s = .next ((s.taken rest).refusal tag 0x24 .range [])) ∧
      ∀ n, Nest.ofNum (fieldAt ops 0 1) = some n →
        ((s.nest n).state = .reserved →
          exec .reserveStream s = .next ((s.taken rest).refusal tag 0x24 .reserved [])) ∧
        ((s.nest n).state ≠ .reserved → (s.nest n).state ≠ .idle →
          exec .reserveStream s = .next ((s.taken rest).refusal tag 0x24 .busy [])) ∧
        ((s.nest n).state = .idle →
          exec .reserveStream s =
            .next (((({ s with port := emptied n } : State).setNest n { s.nest n with state := .reserved }).setTone n
              { s.tone n with range := .mid }).done tag 0x24 []))) ∧
    (s.takes tag 0x25 ops rest →
      (Nest.ofNum (fieldAt ops 0 1) = none → exec .releaseStream s = .next ((s.taken rest).refusal tag 0x25 .range [])) ∧
      ∀ n, Nest.ofNum (fieldAt ops 0 1) = some n →
        ((s.nest n).state ≠ .reserved →
          exec .releaseStream s = .next ((s.taken rest).refusal tag 0x25 .notReserved [])) ∧
        ((s.nest n).state = .reserved →
          exec .releaseStream s =
            .next ((({ s with port := emptied n } : State).setNest n { s.nest n with state := .idle }).done tag 0x25 [])))

/-! ### Settings -/

/-- SET CALIBRATION (R101), CLEAR COUNTS (R175), and SET YIELD with a Q byte of 0xFF: the absent marker of a field that may
not be absent (R218), so refused RANGE naming Q, though R172 has 255 in range (log 38). -/
def Obligations.SetCalibrationAndClearCounts : Prop :=
  (∀ (s : State) (tag : Byte) (ops : List Byte) (rest : List CommandCell),
     s.takes tag 0x30 ops rest → ops.length = 3 →
     let offset := signedAt ops 1 2
     (Nest.ofNum (fieldAt ops 0 1) = none ∨ offset < -20000 ∨ 20000 < offset →
       exec .setCalibration s = .next ((s.taken rest).refusal tag 0x30 .range [])) ∧
     ∀ n, Nest.ofNum (fieldAt ops 0 1) = some n → -20000 ≤ offset → offset ≤ 20000 →
       exec .setCalibration s =
         .next (({ s.taken rest with
                     analyser := { s.analyser with calibration := s.analyser.calibration.set n offset } } : State).done
           tag 0x30 [])) ∧
  (∀ (s : State) (tag : Byte) (rest : List CommandCell), s.takes tag 0x51 [] rest →
    exec .clearCounts s =
      .next (({ s.taken rest with
                  yield :=
                    { s.yield with
                        counts :=
                          { retired := 0, bins := List.replicate 16 0, applied := 0, rejected := 0, noAck := 0
                            notLabelled := 0, judged := .all 0, passed := .all 0, aborted := 0, discarded := 0 } }
                  marking := { s.marking with charErrors := 0, strayAcks := 0 } } : State).done tag 0x51 [])) ∧
  ∀ (s : State) (tag : Byte) (ops : List Byte) (rest : List CommandCell),
    s.takes tag 0x54 ops rest → ops.length = 5 → fieldAt ops 4 1 = 255 →
    let w := fieldAt ops 0 2
    let l := fieldAt ops 2 2
    16 ≤ w → w ≤ 1024 → l ≤ w → exec .setYield s = .next ((s.taken rest).refusal tag 0x54 .range (toBytes 1 2))

/-- SET MARKING (R157), and READ MARKING (R158): how far a message going out has come is free, between what an earlier
read told and 25 (log 9); everything else reads as it stands. The widths, and the 0 where the transmitter is IDLE, are
the model's (log 11). -/
def Obligations.MarkingCommands : Prop :=
  ∀ (s : State) (tag : Byte) (ops : List Byte) (rest : List CommandCell),
    (s.takes tag 0x48 ops rest → ops.length = 2 →
      let t := fieldAt ops 0 2
      (t < 50 ∨ 5000 < t → exec .setMarking s = .next ((s.taken rest).refusal tag 0x48 .range [])) ∧
      (50 ≤ t → t ≤ 5000 →
        exec .setMarking s =
          .next (({ s.taken rest with marking := { s.marking with ackMs := t } } : State).done tag 0x48 []))) ∧
    (s.takes tag 0x49 ops rest → ops.length = 0 →
      let m := s.marking
      let ackFrames := fun (x : Slot) => if x.state = .awaitAck then x.ackLeft else 0
      let slot := fun (x : Slot) => toBytes 1 x.state.code ++ optByte x.record ++ toBytes 4 (ackFrames x)
      let data := fun (line : List Byte) =>
        toBytes 2 m.ackMs ++ slotByte m.lastFilled ++ (toBytes 1 m.queue.length ++ m.queue.flatMap (toBytes 1)) ++
        slot m.slotA ++ slot m.slotB ++ toBytes 1 m.receiver.code ++ line ++ toBytes 4 m.charErrors ++
        toBytes 4 m.strayAcks
      (m.transmitter = .idle →
        exec .readMarking s = .next ((s.taken rest).spend.done tag 0x49 (data [0, 0]))) ∧
      (∀ k, m.transmitter = .stopping k →
        exec .readMarking s = .next ((s.taken rest).spend.done tag 0x49 (data (1 :: toBytes 1 k)))) ∧
      ∀ i k, m.transmitter = .sending i k → k ≤ 25 →
        ∃ k', k ≤ k' ∧ k' ≤ 25 ∧
          exec .readMarking s =
            .next (({ s.taken rest with marking := { m with transmitter := .sending i k' } } : State).spend.done tag 0x49
              (data (1 :: toBytes 1 k'))))

/-- RESUME LINE (R166, R167), ENABLE NEST (R171), SET YIELD (R172) with Q below 255: its two checks, and the oldest entries
leaving a window that is too long. For a Q byte of 0xFF see SetCalibrationAndClearCounts. -/
def Obligations.YieldCommands : Prop :=
  (∀ (s : State) (tag : Byte) (ops : List Byte) (rest : List CommandCell),
     (s.takes tag 0x52 ops rest → ops.length = 0 →
       (s.yield.line = .running → exec .resumeLine s = .next ((s.taken rest).refusal tag 0x52 .notHeld [])) ∧
       (s.yield.line = .held →
         exec .resumeLine s =
           .next ((({ s.taken rest with
                        yield := { s.yield with line := .running, window := [], passCount := 0 } } : State).notice
             (.clear s.yield.window.length s.yield.passCount s.link.frameIndex)).done tag 0x52 []))) ∧
     (s.takes tag 0x53 ops rest → ops.length = 1 →
       (Nest.ofNum (fieldAt ops 0 1) = none → exec .enableNest s = .next ((s.taken rest).refusal tag 0x53 .range [])) ∧
       ∀ n, Nest.ofNum (fieldAt ops 0 1) = some n →
         (s.yield.admission.get n = .enabled →
           exec .enableNest s = .next ((s.taken rest).refusal tag 0x53 .notQuarantined [])) ∧
         (s.yield.admission.get n = .quarantined →
           exec .enableNest s =
             .next (({ s.taken rest with
                         yield := { s.yield with streak := s.yield.streak.set n 0
                                                 admission := s.yield.admission.set n .enabled } } : State).done
               tag 0x53 [])))) ∧
  ∀ (s : State) (tag : Byte) (ops : List Byte) (rest : List CommandCell),
    s.takes tag 0x54 ops rest → ops.length = 5 →
    let w := fieldAt ops 0 2
    let l := fieldAt ops 2 2
    let q := fieldAt ops 4 1
    let window := s.yield.window.drop (s.yield.window.length - w)
    (w < 16 ∨ 1024 < w → exec .setYield s = .next ((s.taken rest).refusal tag 0x54 .range (toBytes 1 0))) ∧
    (16 ≤ w → w ≤ 1024 → w < l → exec .setYield s = .next ((s.taken rest).refusal tag 0x54 .range (toBytes 1 1))) ∧
    (16 ≤ w → w ≤ 1024 → l ≤ w → q < 255 → s.yield.line = .held →
      exec .setYield s = .next ((s.taken rest).refusal tag 0x54 .held [])) ∧
    (16 ≤ w → w ≤ 1024 → l ≤ w → q < 255 → s.yield.line = .running → s.yield.passCount = s.yield.window.countP (fun b => b) →
      exec .setYield s =
        .next (({ s.taken rest with
                    yield := { s.yield with
                                 windowLength := w, holdLevel := l, quarantineLevel := q, window := window
                                 passCount := window.countP (fun b => b) } } : State).done tag 0x54 []))

/-! ### The capture ring -/

/-- CAPTURE HEAD, CAPTURE READ and CAPTURE DROP (R186 to R191): RANGE, EMPTY, PENDING, or the first record that is not
VOID, with the VOID records before it gone. -/
def Obligations.CaptureReadOut : Prop :=
  ∀ (s : State) (tag : Byte) (ops : List Byte) (rest : List CommandCell),
    let c := s.capture
    let left := fun (voids : List CaptureRecord) => c.occupied - (voids.map CaptureRecord.size).sum
    let word := fun (r : CaptureRecord) (i : Nat) => Memory.read 0 c.words ((r.start + i) % 1048576)
    let header := fun (r : CaptureRecord) =>
      toBytes 4 (word r 0).toNat ++ toBytes 1 ((word r 1).toNat / 2 ^ 24) ++ toBytes 2 ((word r 1).toNat / 2 ^ 16 % 256) ++
      toBytes 4 (word r 2).toNat ++ toBytes 4 ((word r 3).toNat % 2 ^ 24) ++ toBytes 1 ((word r 3).toNat / 2 ^ 24)
    let k := fieldAt ops 0 1
    let mode := fieldAt ops 1 1
    (s.takes tag 0x61 ops rest → ops.length = 2 → (k < 1 ∨ 56 < k ∨ 1 < mode) →
      exec .captureRead s = .next ((s.taken rest).refusal tag 0x61 .range [])) ∧
    (∀ i code, (i, code) = (Instr.captureHead, (0x60 : Byte)) ∨ (i, code) = (Instr.captureDrop, (0x62 : Byte)) ∨
        ((i, code) = (Instr.captureRead, (0x61 : Byte)) ∧ 1 ≤ k ∧ k ≤ 56 ∧ mode ≤ 1) →
      s.takes tag code ops rest → operandLength i = some ops.length →
      ((∀ r ∈ c.records, r.state = .void) → exec i s = .next ((s.taken rest).refusal tag code .empty [])) ∧
      ∀ voids r behind, c.records = voids ++ r :: behind → (∀ v ∈ voids, v.state = .void) → r.state = .provisional →
        exec i s = .next ((s.taken rest).refusal tag code .pending [])) ∧
    ∀ voids r behind, c.records = voids ++ r :: behind → (∀ v ∈ voids, v.state = .void) → r.state = .committed →
      (s.takes tag 0x60 ops rest → ops.length = 0 →
        exec .captureHead s =
          .next (({ s.taken rest with capture := { c with records := r :: behind, occupied := left voids } } : State).done
            tag 0x60
            (header r ++ toBytes 4 r.first.toNat ++ toBytes 4 r.length ++ toBytes 4 r.cursor ++
              toBytes 2 behind.length))) ∧
      (s.takes tag 0x62 ops rest → ops.length = 0 →
        exec .captureDrop s =
          .next (({ s.taken rest with
                      capture := { c with records := behind, occupied := left voids - (r.length + 4) } } : State).done
            tag 0x62 ((header r).take 7 ++ toBytes 4 (r.length - r.cursor)))) ∧
      (s.takes tag 0x61 ops rest → ops.length = 2 → 1 ≤ k → k ≤ 56 → mode ≤ 1 →
        let m := min k (r.length - r.cursor)
        let words := (List.range m).map (fun j => word r (4 + r.cursor + j))
        let data := fun (released : Bool) =>
          toBytes 4 r.first.toNat ++ toBytes 4 r.cursor ++
          (toBytes 1 words.length ++ words.flatMap (fun w => toBytes 4 w.toNat)) ++ boolByte released
        (mode = 1 →
          exec .captureRead s =
            .next (({ s.taken rest with capture := { c with records := r :: behind, occupied := left voids } } : State).done
              tag 0x61 (data false))) ∧
        (mode = 0 → r.cursor + m ≠ r.length →
          exec .captureRead s =
            .next (({ s.taken rest with
                        capture := { c with records := { r with cursor := r.cursor + m } :: behind
                                            occupied := left voids } } : State).done tag 0x61 (data false))) ∧
        (mode = 0 → r.cursor + m = r.length →
          exec .captureRead s =
            .next (({ s.taken rest with
                        capture := { c with records := behind
                                            occupied := left voids - (r.length + 4) } } : State).done tag 0x61
              (data true))))

/-- A window's entry asks for a record (R181, R182): no attempt, skipped for want of space, or reserved at the tail. -/
def Obligations.CaptureReservation : Prop :=
  ∀ (s : State) (n : Nest) (id : Nat) (st : Step),
    (s.nest n).record = some id → (s.nest n).step = some st → id < s.records.length → s.capture.ok →
    let u := s.record id
    let q := s.nest n
    let t := s.reserveCapture n
    let live := s.capture.records.dropWhile (fun r => decide (r.state = .void))
    let room := 1048576 - (live.map (fun r => r.length + 4)).sum
    (q.settings.policy = .off ∨ q.settings.captureLimit ≤ u.capturesCommitted → t = s) ∧
    (q.settings.policy ≠ .off → u.capturesCommitted < q.settings.captureLimit → room < st.window + 4 →
      t.capture.records = live ∧ t.capture.words = s.capture.words ∧
      t = { (s.setRecord id { u with capturesSkipped := min (u.capturesSkipped + 1) 65535 }) with capture := t.capture }) ∧
    (q.settings.policy ≠ .off → u.capturesCommitted < q.settings.captureLimit → st.window + 4 ≤ room →
      ∃ r, t.capture.records = live ++ [r] ∧ t = { s with capture := t.capture } ∧ t.capture.ok ∧
        r.state = .provisional ∧ r.owner = n ∧ r.length = st.window ∧ r.fill = 0 ∧ r.cursor = 0 ∧
        r.first = s.link.frameIndex + 1 ∧ t.capture.mark.get n = some r.start ∧
        (Memory.wf 0 s.capture.words = true →
          t.capture.readWord r 0 = u.carrier ∧ t.capture.readWord r 2 = BitVec.ofNat 32 st.frequency ∧
          t.capture.readWord r 1 = BitVec.ofNat 32 (n.num * 2 ^ 24 + q.stepIndex * 2 ^ 16) ∧
          t.capture.readWord r 3 = BitVec.ofNat 32 (0xFF * 2 ^ 24 + st.window % 2 ^ 24)))

/-! ### The port's own commands, RESTART and REBOOT -/

/-- STATUS (R196, R207), SET NOTICES (R203), SET TAP (R205); and what a notice does: it joins the tail of the queue where
its enable is on, is dropped and counted where the queue holds 32, and is not formed where its enable is off (R202). -/
def Obligations.PortCommands : Prop :=
  (∀ (s : State) (x : Notice),
    let e := s.port.enables
    let on := match x with
      | .verdict .. => e.verdict
      | .step .. => e.step
      | .label .. => e.label
      | .discard .. => e.discard
      | .hold .. => e.hold
      | .clear .. => e.hold
      | .quarantine .. => e.quarantine
      | .link .. => e.link
      | .guard .. => e.guard
    (on = false → s.notice x = s) ∧
    (on = true → s.port.notices.length < 32 →
      s.notice x = { s with port := { s.port with notices := s.port.notices ++ [x] } }) ∧
    (on = true → 32 ≤ s.port.notices.length →
      s.notice x = { s with port := { s.port with noticeDrops := count s.port.noticeDrops 1 } })) ∧
  ∀ (s : State) (tag : Byte) (ops : List Byte) (rest : List CommandCell),
    let p := s.port
    (s.takes tag 0x70 ops rest → ops.length = 0 →
      exec .status s =
        .next (({ s.taken rest with port := { (s.taken rest).port with overrunFlag := false } } : State).done tag 0x70
          (toBytes 2 4406 ++ toBytes 1 1 ++
            (p.startup.groups.flatMap (fun g => toBytes 1 g.code) ++
              (toBytes 1 p.startup.failed.length ++
                p.startup.failed.flatMap (fun f => toBytes 1 f.entry ++ toBytes 1 f.reason.code ++ f.data))) ++
            toBytes 1 s.link.state.code ++ toBytes 4 s.link.badFrames ++ toBytes 4 s.link.missingFrames ++
            toBytes 4 s.link.linkDowns ++ toBytes 1 s.yield.line.code ++ toBytes 1 p.enables.code ++
            toBytes 2 p.tapSelection.toNat ++ toBytes 4 p.badCells ++ toBytes 4 p.commandOverruns ++
            toBytes 4 p.noticeDrops ++ toBytes 4 p.tapDrops ++ toBytes 4 p.streamDiscards ++
            Nest.order.flatMap (fun n => toBytes 4 (p.streamOverruns.get n) ++ toBytes 4 (p.streamUnderruns.get n)) ++
            Nest.order.flatMap (fun n =>
              toBytes 1 (p.pace.get n).lastSent.code ++ optByte ((p.pace.get n).pendingState.map PaceState.code)) ++
            boolByte p.overrunFlag))) ∧
    (s.takes tag 0x71 ops rest → ops.length = 1 →
      let b := ops.headD 0
      exec .setNotices s =
        .next (({ s.taken rest with
                    port := { (s.taken rest).port with
                                enables := ⟨b.getLsbD 0, b.getLsbD 1, b.getLsbD 2, b.getLsbD 3, b.getLsbD 4, b.getLsbD 5,
                                            b.getLsbD 6, b.getLsbD 7⟩ } } : State).done tag 0x71 [])) ∧
    (s.takes tag 0x72 ops rest → ops.length = 2 →
      let sel := fieldAt ops 0 2
      (512 ≤ sel → exec .setTap s = .next ((s.taken rest).refusal tag 0x72 .range [])) ∧
      (sel < 512 →
        ∃ taps, exec .setTap s =
            .next (({ s.taken rest with
                        port := { (s.taken rest).port with
                                    tapSelection := BitVec.ofNat 9 sel, taps := taps } } : State).done tag 0x72 []) ∧
          ∀ i, i < 9 → taps.getD i .empty =
            if sel.testBit i = true ∧ p.tapSelection.getLsbD i = true then p.taps.getD i .empty else .empty))

/-- RESTART (R22, R67, R81, R143, R159, R177, R194, R209): everything in flight ended, what is kept kept, every use count
zero; the aborted and discarded counters and the notices of each ABORTED and each discarded unit, and no other count or
notice (R138, R140, R162). How many characters of a message going out had been sent is free (log 9). REBOOT (R210): the reply
joins and the command unit waits for it to be sent; the reset behind it is the arbiter's. -/
def Obligations.RestartAndReboot : Prop :=
  (∀ (s : State) (tag : Byte) (rest : List CommandCell), s.sound → s.takes tag 0x73 [] rest →
     ∃ t, exec .restart s = .next t ∧
       t.link = s.link ∧ t.guard = s.guard ∧ t.stopLine = s.stopLine ∧ t.out = s.out ∧ t.pending = s.pending ∧
       t.recipe.rows = s.recipe.rows ∧ t.recipe.directory = s.recipe.directory ∧ t.recipe.bins = s.recipe.bins ∧
       (∀ n, t.nest n = .reset) ∧
       (∀ n, t.tone n = { s.tone n with envelope := .silent, glide := none, burst := none, pendingStep := none
                                        burstMute := false }) ∧
       (∀ id, (t.record id).state = .free ∧ ((s.record id).state ≠ .free → t.record id = .free)) ∧
       (∀ n, t.analyser.lanesOf n = 0 ∧ t.analyser.calibration.get n = s.analyser.calibration.get n) ∧
       t.analyser.queue = [] ∧
       t.marking.queue = [] ∧ t.marking.slotA = .free ∧ t.marking.slotB = .free ∧ t.marking.lastFilled = none ∧
       t.marking.receiver = .expectKind ∧ t.marking.ackMs = s.marking.ackMs ∧
       t.marking.charErrors = s.marking.charErrors ∧ t.marking.strayAcks = s.marking.strayAcks ∧
       ((∀ i k, s.marking.transmitter ≠ .sending i k) → t.marking.transmitter = s.marking.transmitter) ∧
       (∀ i k, s.marking.transmitter = .sending i k → k ≤ 25 →
         ∃ k', t.marking.transmitter = .stopping k' ∧ k ≤ k' ∧ k' ≤ 25) ∧
       t.yield.windowLength = s.yield.windowLength ∧ t.yield.holdLevel = s.yield.holdLevel ∧
       t.yield.quarantineLevel = s.yield.quarantineLevel ∧
       (∀ p, t.recipe.uses p = s.recipe.uses p - (s.playing p).length) ∧
       (s.usesOk → ∀ p, t.recipe.uses p = 0) ∧
       t.yield.window = s.yield.window ∧ t.yield.passCount = s.yield.passCount ∧ t.yield.line = s.yield.line ∧
       t.yield.streak = s.yield.streak ∧ t.yield.admission = s.yield.admission ∧
       t.yield.counts =
         { s.yield.counts with
             aborted := counterAfter s.yield.counts.aborted
               (Nest.order.countP (fun n => (s.nest n).state.running))
             discarded := counterAfter s.yield.counts.discarded
               (Nest.order.countP (fun n => decide ((s.nest n).state = .judged)) + s.labelIds.length) } ∧
       (∃ skipped : Nest → Nat,
         (∀ n id, (s.nest n).record = some id → (s.nest n).state ≠ .waitLanes →
           skipped n = (s.record id).capturesSkipped) ∧
         let p := (s.restartNotices skipped).foldl Port.notice s.port
         t.port.notices = p.notices ∧ t.port.noticeDrops = p.noticeDrops) ∧
       t.capture.records = [] ∧ t.capture.occupied = 0 ∧ (∀ n, t.capture.mark.get n = none) ∧
       t.port.commands = rest ∧ t.port.replies = s.port.replies ++ [⟨tag, 0x73, none, []⟩] ∧ t.port.part = .ready ∧
       t.port.unit = .idle ∧ t.port.enables = s.port.enables ∧ t.port.tapSelection = s.port.tapSelection ∧
       t.port.taps = s.port.taps ∧ t.port.tapQueue = s.port.tapQueue ∧ t.port.overrunFlag = s.port.overrunFlag ∧
       t.port.config = s.port.config ∧
       ∀ n, ((s.nest n).state = .reserved → t.port.streams.get n = [] ∧
           t.port.pace.get n =
             if (s.port.pace.get n).current = .stop then
               { s.port.pace.get n with pendingState := if (s.port.pace.get n).lastSent = .go then none else some .go }
             else s.port.pace.get n) ∧
         ((s.nest n).state ≠ .reserved →
           t.port.streams.get n = s.port.streams.get n ∧ t.port.pace.get n = s.port.pace.get n)) ∧
  ∀ (s : State) (tag : Byte) (rest : List CommandCell), s.takes tag 0x74 [] rest →
    exec .reboot s =
      .next (({ s.taken rest with port := { (s.taken rest).port with unit := .rebooting } } : State).done tag 0x74 [])

/-! ### Reading -/

/-- READ BINS, READ LANES, READ YIELD and READ CAPTURE (R20, R91, R176, R192); the codes of a lane state NONE and of an
EMPTY ring are the model's (log 12). -/
def Obligations.ReadingChangesNothing : Prop :=
  ∀ (s : State) (tag : Byte) (rest : List CommandCell),
    let answers := fun (c : Instr) (code : Byte) (data : List Byte) =>
      s.takes tag code [] rest → exec c s = .next ((s.taken rest).done tag code data)
    let a := s.analyser
    let y := s.yield
    let c := s.capture
    answers .readBins 0x17
      (s.recipe.bins.flatMap (fun b => toBytes 1 b.bin ++ boolByte b.label ++ codeBytes b.code)) ∧
    answers .readLanes 0x32
      (toBytes 1 (a.lanes.countP (fun l => l.isNone)) ++
        (toBytes 1 a.queue.length ++ a.queue.flatMap (fun r => toBytes 1 r.nest.num ++ toBytes 1 r.size)) ++
        Nest.order.flatMap (fun n => toBytes 1 (a.lanesOf n) ++ a.laneStateByte n)) ∧
    answers .readYield 0x55
      (toBytes 2 y.windowLength ++ toBytes 2 y.holdLevel ++ toBytes 1 y.quarantineLevel ++ toBytes 1 y.line.code ++
        toBytes 2 y.window.length ++ toBytes 2 y.passCount ++ packBits 0 0 y.window ++
        Nest.order.flatMap (fun n => toBytes 2 (y.streak.get n) ++ toBytes 1 (y.admission.get n).code)) ∧
    answers .readCapture 0x63
      (toBytes 4 c.occupied ++ toBytes 4 (1048576 - c.occupied) ++
        toBytes 2 (c.records.countP (fun r => decide (r.state = .provisional))) ++
        toBytes 2 (c.records.countP (fun r => decide (r.state = .committed))) ++
        toBytes 2 (c.records.countP (fun r => decide (r.state = .void))) ++
        optByte (c.records.head?.map (fun r => r.state.code)) ++
        Nest.order.flatMap (fun n =>
          match c.provisional n with
          | none => [0]
          | some r => [1] ++ toBytes 4 r.fill ++ toBytes 4 r.length))

/-- READ CALIBRATION (R102), READ GUARD (R118), READ COUNTS (R174). -/
def Obligations.SettingsAndCountsRead : Prop :=
  ∀ (s : State) (tag : Byte) (rest : List CommandCell),
    let answers := fun (c : Instr) (code : Byte) (data : List Byte) =>
      s.takes tag code [] rest → exec c s = .next ((s.taken rest).done tag code data)
    let g := s.guard
    let k := s.yield.counts
    answers .readCalibration 0x31 (Nest.order.flatMap (fun n => signedBytes 2 (s.analyser.calibration.get n))) ∧
    answers .readGuard 0x39
      (boolByte g.enable ++ signedBytes 2 g.threshold ++ signedBytes 2 g.hysteresis ++ toBytes 4 (g.peak.getD 0) ++
        toBytes 2 g.holdMs ++ boolByte g.loud ++ optLevel g.lastLevel ++ toBytes 4 g.holdCount ++
        toBytes 4 g.loudEntries) ∧
    answers .readCounts 0x50
      (([k.retired] ++ k.bins ++ [k.applied, k.rejected, k.noAck, k.notLabelled] ++
        Nest.order.map (fun n => k.judged.get n) ++ Nest.order.map (fun n => k.passed.get n) ++
        [k.aborted, k.discarded, s.marking.charErrors, s.marking.strayAcks]).flatMap (toBytes 4))

/-- READ ROWS (R9), READ DIRECTORY (R11), READ UNIT (R141) and CONFIG READ (R211); the count before the rows and the
bytes, and the widths the chapters leave open, are the model's (log 11). -/
def Obligations.ReadsWithOperands : Prop :=
  ∀ (s : State) (tag : Byte) (ops : List Byte) (rest : List CommandCell),
    let k := fieldAt ops 0 1
    (s.takes tag 0x11 ops rest → ops.length = 4 →
      let first := fieldAt ops 0 2
      let n := fieldAt ops 2 2
      exec .readRows s =
        .next (if 1 ≤ n ∧ n ≤ 14 ∧ first + n ≤ 4096 then
            (s.taken rest).done tag 0x11
              (toBytes 1 n ++ (List.range (16 * n)).map (fun i => Memory.read 0 s.recipe.rows (16 * first + i)))
          else (s.taken rest).refusal tag 0x11 .range [])) ∧
    (s.takes tag 0x13 ops rest → ops.length = 1 →
      (7 < k → exec .readDirectory s = .next ((s.taken rest).refusal tag 0x13 .range [])) ∧
      (k ≤ 7 → s.recipe.entry k = .empty →
        exec .readDirectory s =
          .next ((s.taken rest).done tag 0x13 ([0] ++ List.replicate 14 0xFF ++ [0x80, 0x00, 0xFF, 0, 0]))) ∧
      ∀ f, k ≤ 7 → s.recipe.entry k = .inactive f ∨ s.recipe.entry k = .active f →
        exec .readDirectory s =
          .next ((s.taken rest).done tag 0x13
            ([if s.recipe.entry k = .active f then 2 else 1] ++
              (toBytes 2 f.firstStep ++ toBytes 2 f.stepCount ++ toBytes 2 f.firstLimit ++ toBytes 2 f.limitCount ++
                toBytes 2 f.taktMs ++ toBytes 1 f.retryBudget ++ boolByte f.stopOnFail ++ toBytes 1 f.policy.code ++
                toBytes 1 f.captureLimit ++ toBytes 2 f.gradeMargin ++ toBytes 1 f.rangeGapMs) ++
              toBytes 1 (s.recipe.uses k) ++ [0]))) ∧
    (s.takes tag 0x40 ops rest → ops.length = 1 →
      let u := s.record k
      (13 < k → exec .readUnit s = .next ((s.taken rest).refusal tag 0x40 .range [])) ∧
      (k ≤ 13 → u.state = .free → exec .readUnit s = .next ((s.taken rest).refusal tag 0x40 .empty [])) ∧
      (k ≤ 13 → u.state ≠ .free →
        exec .readUnit s =
          .next ((s.taken rest).done tag 0x40
            (toBytes 1 u.state.code ++ toBytes 1 k ++ optByte (u.nest.map Nest.num) ++ toBytes 4 u.carrier.toNat ++
              toBytes 1 u.program ++ toBytes 4 u.arrival.toNat ++ toBytes 1 u.retriesUsed ++ toBytes 2 u.stepsCompleted ++
              optIndex (u.firstFailing.map Prod.fst) ++ optByte (u.firstFailing.map (fun p => p.2.code)) ++
              optMargin u.worstResponse ++ optMargin u.worstThd ++ optMargin u.worstHoh ++ optMargin u.worstOverall ++
              optByte (u.unitClass.map UnitClass.code) ++ optByte (u.binCopy.map BinEntry.bin) ++
              optBool (u.binCopy.map BinEntry.label) ++ codeBytes ((u.binCopy.map BinEntry.code).getD []) ++
              toBytes 1 u.capturesCommitted ++ toBytes 2 u.capturesSkipped ++ slotByte u.slot ++
              optByte (u.labelOutcome.map LabelOutcome.code))))) ∧
    (s.takes tag 0x75 ops rest → ops.length = 5 →
      let addr := fieldAt ops 0 4
      let n := fieldAt ops 4 1
      exec .configRead s =
        .next (if 1 ≤ n ∧ n ≤ 64 ∧ addr + n ≤ 131072 then
            (s.taken rest).done tag 0x75
              (toBytes 1 n ++ (List.range n).map (fun i => Memory.read erased s.port.config (addr + i)))
          else (s.taken rest).refusal tag 0x75 .range []))

/-! ### Levels and codes -/

/-- The log converter of R96, R98, R107 and R112 (1,000 log10 of a fraction, to the nearest integer, clamped; its lower end
for a power of zero), the amplitude of a drive level (R71), the increment of a frequency (R69), the sine table (R70). -/
def Obligations.LevelsAmplitudesIncrements : Prop :=
  (∀ (p q : Nat) (lo hi : Int), 0 < p → 0 < q → lo ≤ hi → hi - lo < 65536 →
     levelOf p q lo hi = max lo (min hi ⌊1000 * Real.logb 10 ((p : ℝ) / q) + 1 / 2⌋)) ∧
  (∀ (q : Nat) (lo hi : Int), levelOf 0 q lo hi = lo) ∧
  (∀ d : Int, -12000 ≤ d → d ≤ 0 →
    (amplitudeOf d : Int) = ⌊(8388607 : ℝ) * (10 : ℝ) ^ ((d : ℝ) / 2000) + 1 / 2⌋) ∧
  (∀ f : Nat, 2000 ≤ f → f ≤ 4000000 →
    (incrementOf f).toNat = (2 * f * 2 ^ 32 + 9600000) / (2 * 9600000)) ∧
  ∀ i : Nat, i < 16384 → sineEntry i = ⌊32767 * Real.sin (2 * Real.pi * i / 16384) + 1 / 2⌋

/-- Fields, cells and frames read back as they were written (R195, R218, R219, R221, R222). -/
def Obligations.CodesReadBack : Prop :=
  (∀ (before after : List Byte) (k v : Nat), v < 256 ^ k → fieldAt (before ++ toBytes k v ++ after) before.length k = v) ∧
  (∀ (before after : List Byte) (k : Nat) (v : Int), 0 < k → -(256 ^ k : Int) ≤ 2 * v → 2 * v < (256 ^ k : Int) →
    signedAt (before ++ signedBytes k v ++ after) before.length k = v) ∧
  (∀ (tag : Byte) (payload : List Byte), payload.length ≤ 240 →
    Cell.ofBytes (cellBytes 1 tag payload) = some (.command ⟨tag, payload⟩)) ∧
  (∀ (n : Nest) (xs : List Sample), xs.length = 48 →
    Cell.ofBytes (cellBytes 2 (BitVec.ofNat 8 n.num) (xs.flatMap sampleBytes)) = some (.stream n xs)) ∧
  (∀ (number : BitVec 16) (a b c d e : Sample) (flags : Byte),
    UpstreamFrame.ofBytes (withCheck (toBytes 2 number.toNat ++ [a, b, c, d, e].flatMap sampleBytes ++ [flags])) =
      some ⟨number, [a, b, c, d, e],
        [flags.getLsbD 0, flags.getLsbD 1, flags.getLsbD 2, flags.getLsbD 3, flags.getLsbD 4]⟩) ∧
  (∀ (f : ProgramFields) (state : Byte) (after : List Byte),
    f.firstStep ≤ 4095 → 1 ≤ f.stepCount → f.stepCount ≤ 256 → f.firstLimit ≤ 4095 → f.limitCount ≤ 256 →
    100 ≤ f.taktMs → f.taktMs ≤ 60000 → f.retryBudget ≤ 15 → f.captureLimit ≤ 16 → f.gradeMargin ≤ 3000 →
    f.rangeGapMs ≤ 50 → ProgramFields.ofBytes ([state] ++ f.bytes ++ after) = .ok f) ∧
  ∀ e : Enables, Enables.ofByte (BitVec.ofNat 8 e.code) = e

/-! ### Invariants -/

/-- What every step keeps: the yield window within W with its pass count (R164), 64 lanes (R84, R91), no retry count above
its budget (R49, R123), the memories in canonical form, the queues and buffers within their sizes (R196, R198, R201,
R202, R204), the sizes of the tables (R5, R19, R126), the ring's occupied words (R178). -/
def Obligations.StepsKeepInvariants : Prop :=
  ∀ s t : State, step s = .next t →
    (s.yield.ok → t.yield.ok) ∧ (s.analyser.pool → t.analyser.pool) ∧ (s.retriesOk → t.retriesOk) ∧
    (s.memoriesOk → t.memoriesOk) ∧ (s.port.bounded → t.port.bounded) ∧ (s.tablesOk → t.tablesOk) ∧
    (s.capture.ok → t.capture.ok)

/-- Requests, lanes, records and their holders stay in step with the nest states (R37, R84, R87, R126, R144, R145), and in such
a state no command stops the part: ARRIVE always finds a FREE record (R39, R126). Use counts stay the numbers of
running units (R6), where the tables have their sizes. -/
def Obligations.SoundStatesStepOn : Prop :=
  ∀ s : State, s.sound → ∃ t, step s = .next t ∧ t.sound ∧ (s.tablesOk → s.usesOk → t.usesOk)

/-- The state after POWER-ON has every invariant. -/
def Obligations.ResetHasInvariants : Prop :=
  State.reset.yield.ok ∧ State.reset.analyser.pool ∧ State.reset.retriesOk ∧ State.reset.memoriesOk ∧
  State.reset.port.bounded ∧ State.reset.tablesOk ∧ State.reset.capture.ok ∧ State.reset.sound ∧ State.reset.usesOk
end

