-- ==== Sys2Proof/Laws/Memory.lean ====
section
/-! SUPPORT. The sparse memories: every write keeps the canonical form, and a read gives what was last written. -/

namespace Sys2Proof.Machine.Memory

variable {α : Type} [DecidableEq α] {d : α}

theorem wf_cons (a : Nat) (v : α) (m : List (Nat × α)) :
    wf d ((a, v) :: m) = true ↔ v ≠ d ∧ (∀ c ∈ m, a < c.1) ∧ wf d m = true := by
  simp [wf, and_assoc]

@[simp] theorem wf_nil : wf d ([] : List (Nat × α)) = true := rfl

/-- Every address of a memory after a write is the one written or was there before. -/
theorem mem_write {a : Nat} {v : α} {m : List (Nat × α)} {c : Nat × α} (h : c ∈ write d a v m) :
    c.1 = a ∨ c ∈ m := by
  induction m with
  | nil =>
    unfold write at h
    split at h
    · simp at h
    · simp at h; exact Or.inl (by rw [h])
  | cons x m ih =>
    obtain ⟨b, w⟩ := x
    unfold write at h
    split at h
    · split at h
      · exact Or.inr h
      · rcases List.mem_cons.1 h with h | h
        · exact Or.inl (by rw [h])
        · exact Or.inr h
    · split at h
      · split at h
        · exact Or.inr (List.mem_cons_of_mem _ h)
        · rcases List.mem_cons.1 h with h | h
          · exact Or.inl (by rw [h])
          · exact Or.inr (List.mem_cons_of_mem _ h)
      · rcases List.mem_cons.1 h with h | h
        · exact Or.inr (by rw [h]; exact List.mem_cons_self)
        · rcases ih h with h | h
          · exact Or.inl h
          · exact Or.inr (List.mem_cons_of_mem _ h)

/-- A write keeps the canonical form. -/
theorem wf_write (a : Nat) (v : α) {m : List (Nat × α)} (h : wf d m = true) : wf d (write d a v m) = true := by
  induction m with
  | nil =>
    unfold write
    split
    · rfl
    · rename_i hv; exact (wf_cons a v []).2 ⟨hv, by simp, rfl⟩
  | cons x m ih =>
    obtain ⟨b, w⟩ := x
    obtain ⟨hw, hb, hm⟩ := (wf_cons b w m).1 h
    unfold write
    split
    · rename_i hab
      split
      · exact h
      · rename_i hv
        refine (wf_cons a v _).2 ⟨hv, ?_, h⟩
        intro c hc
        rcases List.mem_cons.1 hc with hc | hc
        · rw [hc]; exact hab
        · exact Nat.lt_trans hab (hb c hc)
    · split
      · rename_i hab
        split
        · exact hm
        · rename_i hv; exact (wf_cons a v m).2 ⟨hv, by rw [hab]; exact hb, hm⟩
      · rename_i h1 h2
        refine (wf_cons b w _).2 ⟨hw, ?_, ih hm⟩
        intro c hc
        rcases mem_write hc with hc | hc
        · rw [hc]; omega
        · exact hb c hc

/-- Writing several values keeps the canonical form. -/
theorem wf_writeMany (vs : List α) (a : Nat) {m : List (Nat × α)} (h : wf d m = true) :
    wf d (writeMany d a vs m) = true := by
  induction vs generalizing a m with
  | nil => exact h
  | cons v vs ih => exact ih (a + 1) (wf_write a v h)

omit [DecidableEq α] in
/-- An address below every listed one reads as an unlisted one. -/
theorem read_below {a : Nat} {m : List (Nat × α)} (h : ∀ c ∈ m, a < c.1) : read d m a = d := by
  induction m with
  | nil => rfl
  | cons x m ih =>
    obtain ⟨b, w⟩ := x
    have hb : a < b := h (b, w) List.mem_cons_self
    unfold read
    rw [if_neg (by omega)]
    exact ih (fun c hc => h c (List.mem_cons_of_mem _ hc))

/-- Reading after a write: the value at the address written, and every other address as before. -/
theorem read_write (a b : Nat) (v : α) {m : List (Nat × α)} (h : wf d m = true) :
    read d (write d a v m) b = if b = a then v else read d m b := by
  induction m with
  | nil =>
    unfold write
    split
    · rename_i hv; simp [read, hv]
    · simp [read]
  | cons x m ih =>
    obtain ⟨c, w⟩ := x
    obtain ⟨_, hc, hm⟩ := (wf_cons c w m).1 h
    unfold write
    split
    · rename_i hac
      split
      · rename_i hv
        split
        · rename_i hba
          rw [hba, hv]
          apply read_below
          intro e he
          rcases List.mem_cons.1 he with he | he
          · rw [he]; exact hac
          · exact Nat.lt_trans hac (hc e he)
        · rfl
      · simp [read]
    · split
      · rename_i hac
        subst hac
        split
        · rename_i hv
          split
          · rename_i hba; rw [hba, hv]; exact read_below hc
          · rename_i hba; simp [read, hba]
        · simp only [read]; split <;> rfl
      · rename_i h1 h2
        simp only [read, ih hm]
        split
        · rename_i hbc
          rw [if_neg (by omega)]
        · rfl

/-- Bytes laid out from an address on are in canonical form, and every address listed is one of theirs. -/
theorem wf_ofBytes (d : Byte) (bs : List Byte) (a : Nat) :
    wf d (ofBytes d a bs) = true ∧ ∀ c ∈ ofBytes d a bs, a ≤ c.1 := by
  induction bs generalizing a with
  | nil => simp [ofBytes]
  | cons b bs ih =>
    obtain ⟨h1, h2⟩ := ih (a + 1)
    unfold ofBytes
    split
    · exact ⟨h1, fun c hc => by have := h2 c hc; omega⟩
    · rename_i hb
      refine ⟨(wf_cons a b _).2 ⟨hb, fun c hc => by have := h2 c hc; omega, h1⟩, ?_⟩
      intro c hc
      rcases List.mem_cons.1 hc with hc | hc
      · rw [hc]
      · have := h2 c hc; omega

/-- A write that POWER-ON cut keeps the canonical form. -/
theorem wf_tornWrite (free : Nat) (bs : List Byte) (i a : Nat) {m : List Host.Cell} (h : wf erased m = true) :
    wf erased (tornWrite free i a bs m) = true := by
  induction bs generalizing i a m with
  | nil => exact h
  | cons b bs ih =>
    unfold tornWrite
    apply ih
    split
    · exact wf_write a b h
    · exact h

omit [DecidableEq α] in
/-- What several reads give. -/
theorem readMany_length (m : List (Nat × α)) (a n : Nat) : (readMany d m a n).length = n := by
  induction n generalizing a with
  | zero => rfl
  | succ n ih => simp [readMany, ih]

/-- A byte that a run of writes reaches holds its value; any other is as before. -/
theorem read_writeMany (vs : List α) (a b : Nat) {m : List (Nat × α)} (h : wf d m = true) :
    read d (writeMany d a vs m) b = if h : a ≤ b ∧ b < a + vs.length then vs[b - a]'(by omega) else read d m b := by
  induction vs generalizing a m with
  | nil => simp [writeMany]
  | cons v vs ih =>
    simp only [writeMany]
    rw [ih (a + 1) (wf_write a v h), read_write a b v h]
    by_cases hb : b = a
    · subst hb; simp
    · by_cases hr : a + 1 ≤ b ∧ b < a + 1 + vs.length
      · have hr' : a ≤ b ∧ b < a + (v :: vs).length := by simp; omega
        rw [dif_pos hr, dif_pos hr']
        have : b - a = (b - (a + 1)) + 1 := by omega
        simp [this]
      · have hr' : ¬ (a ≤ b ∧ b < a + (v :: vs).length) := by simp; omega
        rw [dif_neg hr, dif_neg hr', if_neg hb]

omit [DecidableEq α] in
/-- Several reads of two memories that agree there. -/
theorem readMany_congr {m m' : List (Nat × α)} {a n : Nat}
    (h : ∀ b, a ≤ b → b < a + n → read d m b = read d m' b) : readMany d m a n = readMany d m' a n := by
  induction n generalizing a with
  | zero => rfl
  | succ n ih =>
    simp only [readMany]
    rw [h a (by omega) (by omega), ih (fun b h1 h2 => h b (by omega) (by omega))]

omit [DecidableEq α] in
/-- The `i`-th of several reads. -/
theorem readMany_getElem? (m : List (Nat × α)) (a n i : Nat) :
    (readMany d m a n)[i]? = if i < n then some (read d m (a + i)) else none := by
  induction n generalizing a i with
  | zero => simp [readMany]
  | succ n ih =>
    cases i with
    | zero => simp [readMany]
    | succ i =>
      simp only [readMany, List.getElem?_cons_succ]
      rw [ih]
      have e : a + 1 + i = a + (i + 1) := by omega
      simp [e]

/-- Reads elsewhere do not see a run of writes. -/
theorem readMany_outside (vs : List α) {a b n : Nat} {m : List (Nat × α)} (h : wf d m = true)
    (ho : b + n ≤ a ∨ a + vs.length ≤ b) : readMany d (writeMany d a vs m) b n = readMany d m b n :=
  readMany_congr (fun c h1 h2 => by rw [read_writeMany vs a c h, dif_neg (by omega)])

/-- A run of writes reads back. -/
theorem readMany_writeMany (vs : List α) (a : Nat) {m : List (Nat × α)} (h : wf d m = true) :
    readMany d (writeMany d a vs m) a vs.length = vs := by
  apply List.ext_getElem?
  intro i
  rw [readMany_getElem?, read_writeMany vs a _ h]
  by_cases hi : i < vs.length
  · rw [if_pos hi, dif_pos (by omega), List.getElem?_eq_getElem hi]
    congr 2
    omega
  · rw [if_neg hi, List.getElem?_eq_none (by omega)]

end Sys2Proof.Machine.Memory
end

