-- ==== Sys2Proof/Laws/State.lean ====
section
/-! SUPPORT. One lemma for each update of the state and each field: what the field is after the update. All hold by
definition, so no proof about a meaning unfolds a record update. -/

namespace Sys2Proof.Machine

variable (s : State)

/-! setNest -/

@[simp] theorem State.setNest_link (n : Nest) (q : Sequencer) : (s.setNest n q).link = s.link := rfl
@[simp] theorem State.setNest_recipe (n : Nest) (q : Sequencer) : (s.setNest n q).recipe = s.recipe := rfl
@[simp] theorem State.setNest_nests (n : Nest) (q : Sequencer) : (s.setNest n q).nests = s.nests.set n q := rfl
@[simp] theorem State.setNest_tones (n : Nest) (q : Sequencer) : (s.setNest n q).tones = s.tones := rfl
@[simp] theorem State.setNest_analyser (n : Nest) (q : Sequencer) : (s.setNest n q).analyser = s.analyser := rfl
@[simp] theorem State.setNest_guard (n : Nest) (q : Sequencer) : (s.setNest n q).guard = s.guard := rfl
@[simp] theorem State.setNest_records (n : Nest) (q : Sequencer) : (s.setNest n q).records = s.records := rfl
@[simp] theorem State.setNest_marking (n : Nest) (q : Sequencer) : (s.setNest n q).marking = s.marking := rfl
@[simp] theorem State.setNest_yield (n : Nest) (q : Sequencer) : (s.setNest n q).yield = s.yield := rfl
@[simp] theorem State.setNest_capture (n : Nest) (q : Sequencer) : (s.setNest n q).capture = s.capture := rfl
@[simp] theorem State.setNest_port (n : Nest) (q : Sequencer) : (s.setNest n q).port = s.port := rfl
@[simp] theorem State.setNest_stopLine (n : Nest) (q : Sequencer) : (s.setNest n q).stopLine = s.stopLine := rfl
@[simp] theorem State.setNest_out (n : Nest) (q : Sequencer) : (s.setNest n q).out = s.out := rfl
@[simp] theorem State.setNest_freeCount (n : Nest) (q : Sequencer) : (s.setNest n q).freeCount = s.freeCount := rfl
@[simp] theorem State.setNest_pending (n : Nest) (q : Sequencer) : (s.setNest n q).pending = s.pending := rfl

/-! modNest -/

@[simp] theorem State.modNest_link (n : Nest) (f : Sequencer → Sequencer) : (s.modNest n f).link = s.link := rfl
@[simp] theorem State.modNest_recipe (n : Nest) (f : Sequencer → Sequencer) : (s.modNest n f).recipe = s.recipe := rfl
@[simp] theorem State.modNest_nests (n : Nest) (f : Sequencer → Sequencer) : (s.modNest n f).nests = s.nests.set n (f (s.nest n)) := rfl
@[simp] theorem State.modNest_tones (n : Nest) (f : Sequencer → Sequencer) : (s.modNest n f).tones = s.tones := rfl
@[simp] theorem State.modNest_analyser (n : Nest) (f : Sequencer → Sequencer) : (s.modNest n f).analyser = s.analyser := rfl
@[simp] theorem State.modNest_guard (n : Nest) (f : Sequencer → Sequencer) : (s.modNest n f).guard = s.guard := rfl
@[simp] theorem State.modNest_records (n : Nest) (f : Sequencer → Sequencer) : (s.modNest n f).records = s.records := rfl
@[simp] theorem State.modNest_marking (n : Nest) (f : Sequencer → Sequencer) : (s.modNest n f).marking = s.marking := rfl
@[simp] theorem State.modNest_yield (n : Nest) (f : Sequencer → Sequencer) : (s.modNest n f).yield = s.yield := rfl
@[simp] theorem State.modNest_capture (n : Nest) (f : Sequencer → Sequencer) : (s.modNest n f).capture = s.capture := rfl
@[simp] theorem State.modNest_port (n : Nest) (f : Sequencer → Sequencer) : (s.modNest n f).port = s.port := rfl
@[simp] theorem State.modNest_stopLine (n : Nest) (f : Sequencer → Sequencer) : (s.modNest n f).stopLine = s.stopLine := rfl
@[simp] theorem State.modNest_out (n : Nest) (f : Sequencer → Sequencer) : (s.modNest n f).out = s.out := rfl
@[simp] theorem State.modNest_freeCount (n : Nest) (f : Sequencer → Sequencer) : (s.modNest n f).freeCount = s.freeCount := rfl
@[simp] theorem State.modNest_pending (n : Nest) (f : Sequencer → Sequencer) : (s.modNest n f).pending = s.pending := rfl

/-! setTone -/

@[simp] theorem State.setTone_link (n : Nest) (t : Tone) : (s.setTone n t).link = s.link := rfl
@[simp] theorem State.setTone_recipe (n : Nest) (t : Tone) : (s.setTone n t).recipe = s.recipe := rfl
@[simp] theorem State.setTone_nests (n : Nest) (t : Tone) : (s.setTone n t).nests = s.nests := rfl
@[simp] theorem State.setTone_tones (n : Nest) (t : Tone) : (s.setTone n t).tones = s.tones.set n t := rfl
@[simp] theorem State.setTone_analyser (n : Nest) (t : Tone) : (s.setTone n t).analyser = s.analyser := rfl
@[simp] theorem State.setTone_guard (n : Nest) (t : Tone) : (s.setTone n t).guard = s.guard := rfl
@[simp] theorem State.setTone_records (n : Nest) (t : Tone) : (s.setTone n t).records = s.records := rfl
@[simp] theorem State.setTone_marking (n : Nest) (t : Tone) : (s.setTone n t).marking = s.marking := rfl
@[simp] theorem State.setTone_yield (n : Nest) (t : Tone) : (s.setTone n t).yield = s.yield := rfl
@[simp] theorem State.setTone_capture (n : Nest) (t : Tone) : (s.setTone n t).capture = s.capture := rfl
@[simp] theorem State.setTone_port (n : Nest) (t : Tone) : (s.setTone n t).port = s.port := rfl
@[simp] theorem State.setTone_stopLine (n : Nest) (t : Tone) : (s.setTone n t).stopLine = s.stopLine := rfl
@[simp] theorem State.setTone_out (n : Nest) (t : Tone) : (s.setTone n t).out = s.out := rfl
@[simp] theorem State.setTone_freeCount (n : Nest) (t : Tone) : (s.setTone n t).freeCount = s.freeCount := rfl
@[simp] theorem State.setTone_pending (n : Nest) (t : Tone) : (s.setTone n t).pending = s.pending := rfl

/-! modTone -/

@[simp] theorem State.modTone_link (n : Nest) (f : Tone → Tone) : (s.modTone n f).link = s.link := rfl
@[simp] theorem State.modTone_recipe (n : Nest) (f : Tone → Tone) : (s.modTone n f).recipe = s.recipe := rfl
@[simp] theorem State.modTone_nests (n : Nest) (f : Tone → Tone) : (s.modTone n f).nests = s.nests := rfl
@[simp] theorem State.modTone_tones (n : Nest) (f : Tone → Tone) : (s.modTone n f).tones = s.tones.set n (f (s.tone n)) := rfl
@[simp] theorem State.modTone_analyser (n : Nest) (f : Tone → Tone) : (s.modTone n f).analyser = s.analyser := rfl
@[simp] theorem State.modTone_guard (n : Nest) (f : Tone → Tone) : (s.modTone n f).guard = s.guard := rfl
@[simp] theorem State.modTone_records (n : Nest) (f : Tone → Tone) : (s.modTone n f).records = s.records := rfl
@[simp] theorem State.modTone_marking (n : Nest) (f : Tone → Tone) : (s.modTone n f).marking = s.marking := rfl
@[simp] theorem State.modTone_yield (n : Nest) (f : Tone → Tone) : (s.modTone n f).yield = s.yield := rfl
@[simp] theorem State.modTone_capture (n : Nest) (f : Tone → Tone) : (s.modTone n f).capture = s.capture := rfl
@[simp] theorem State.modTone_port (n : Nest) (f : Tone → Tone) : (s.modTone n f).port = s.port := rfl
@[simp] theorem State.modTone_stopLine (n : Nest) (f : Tone → Tone) : (s.modTone n f).stopLine = s.stopLine := rfl
@[simp] theorem State.modTone_out (n : Nest) (f : Tone → Tone) : (s.modTone n f).out = s.out := rfl
@[simp] theorem State.modTone_freeCount (n : Nest) (f : Tone → Tone) : (s.modTone n f).freeCount = s.freeCount := rfl
@[simp] theorem State.modTone_pending (n : Nest) (f : Tone → Tone) : (s.modTone n f).pending = s.pending := rfl

/-! setRecord -/

@[simp] theorem State.setRecord_link (id : Nat) (r : UnitRecord) : (s.setRecord id r).link = s.link := rfl
@[simp] theorem State.setRecord_recipe (id : Nat) (r : UnitRecord) : (s.setRecord id r).recipe = s.recipe := rfl
@[simp] theorem State.setRecord_nests (id : Nat) (r : UnitRecord) : (s.setRecord id r).nests = s.nests := rfl
@[simp] theorem State.setRecord_tones (id : Nat) (r : UnitRecord) : (s.setRecord id r).tones = s.tones := rfl
@[simp] theorem State.setRecord_analyser (id : Nat) (r : UnitRecord) : (s.setRecord id r).analyser = s.analyser := rfl
@[simp] theorem State.setRecord_guard (id : Nat) (r : UnitRecord) : (s.setRecord id r).guard = s.guard := rfl
@[simp] theorem State.setRecord_records (id : Nat) (r : UnitRecord) : (s.setRecord id r).records = s.records.set id r := rfl
@[simp] theorem State.setRecord_marking (id : Nat) (r : UnitRecord) : (s.setRecord id r).marking = s.marking := rfl
@[simp] theorem State.setRecord_yield (id : Nat) (r : UnitRecord) : (s.setRecord id r).yield = s.yield := rfl
@[simp] theorem State.setRecord_capture (id : Nat) (r : UnitRecord) : (s.setRecord id r).capture = s.capture := rfl
@[simp] theorem State.setRecord_port (id : Nat) (r : UnitRecord) : (s.setRecord id r).port = s.port := rfl
@[simp] theorem State.setRecord_stopLine (id : Nat) (r : UnitRecord) : (s.setRecord id r).stopLine = s.stopLine := rfl
@[simp] theorem State.setRecord_out (id : Nat) (r : UnitRecord) : (s.setRecord id r).out = s.out := rfl
@[simp] theorem State.setRecord_freeCount (id : Nat) (r : UnitRecord) : (s.setRecord id r).freeCount = s.freeCount := rfl
@[simp] theorem State.setRecord_pending (id : Nat) (r : UnitRecord) : (s.setRecord id r).pending = s.pending := rfl

/-! setDetector -/

@[simp] theorem State.setDetector_link (n : Nest) (d : Detector) : (s.setDetector n d).link = s.link := rfl
@[simp] theorem State.setDetector_recipe (n : Nest) (d : Detector) : (s.setDetector n d).recipe = s.recipe := rfl
@[simp] theorem State.setDetector_nests (n : Nest) (d : Detector) : (s.setDetector n d).nests = s.nests := rfl
@[simp] theorem State.setDetector_tones (n : Nest) (d : Detector) : (s.setDetector n d).tones = s.tones := rfl
@[simp] theorem State.setDetector_analyser (n : Nest) (d : Detector) : (s.setDetector n d).analyser = s.analyser.setDetector n d := rfl
@[simp] theorem State.setDetector_guard (n : Nest) (d : Detector) : (s.setDetector n d).guard = s.guard := rfl
@[simp] theorem State.setDetector_records (n : Nest) (d : Detector) : (s.setDetector n d).records = s.records := rfl
@[simp] theorem State.setDetector_marking (n : Nest) (d : Detector) : (s.setDetector n d).marking = s.marking := rfl
@[simp] theorem State.setDetector_yield (n : Nest) (d : Detector) : (s.setDetector n d).yield = s.yield := rfl
@[simp] theorem State.setDetector_capture (n : Nest) (d : Detector) : (s.setDetector n d).capture = s.capture := rfl
@[simp] theorem State.setDetector_port (n : Nest) (d : Detector) : (s.setDetector n d).port = s.port := rfl
@[simp] theorem State.setDetector_stopLine (n : Nest) (d : Detector) : (s.setDetector n d).stopLine = s.stopLine := rfl
@[simp] theorem State.setDetector_out (n : Nest) (d : Detector) : (s.setDetector n d).out = s.out := rfl
@[simp] theorem State.setDetector_freeCount (n : Nest) (d : Detector) : (s.setDetector n d).freeCount = s.freeCount := rfl
@[simp] theorem State.setDetector_pending (n : Nest) (d : Detector) : (s.setDetector n d).pending = s.pending := rfl

/-! modAnalyser -/

@[simp] theorem State.modAnalyser_link (f : Analyser → Analyser) : (s.modAnalyser f).link = s.link := rfl
@[simp] theorem State.modAnalyser_recipe (f : Analyser → Analyser) : (s.modAnalyser f).recipe = s.recipe := rfl
@[simp] theorem State.modAnalyser_nests (f : Analyser → Analyser) : (s.modAnalyser f).nests = s.nests := rfl
@[simp] theorem State.modAnalyser_tones (f : Analyser → Analyser) : (s.modAnalyser f).tones = s.tones := rfl
@[simp] theorem State.modAnalyser_analyser (f : Analyser → Analyser) : (s.modAnalyser f).analyser = f s.analyser := rfl
@[simp] theorem State.modAnalyser_guard (f : Analyser → Analyser) : (s.modAnalyser f).guard = s.guard := rfl
@[simp] theorem State.modAnalyser_records (f : Analyser → Analyser) : (s.modAnalyser f).records = s.records := rfl
@[simp] theorem State.modAnalyser_marking (f : Analyser → Analyser) : (s.modAnalyser f).marking = s.marking := rfl
@[simp] theorem State.modAnalyser_yield (f : Analyser → Analyser) : (s.modAnalyser f).yield = s.yield := rfl
@[simp] theorem State.modAnalyser_capture (f : Analyser → Analyser) : (s.modAnalyser f).capture = s.capture := rfl
@[simp] theorem State.modAnalyser_port (f : Analyser → Analyser) : (s.modAnalyser f).port = s.port := rfl
@[simp] theorem State.modAnalyser_stopLine (f : Analyser → Analyser) : (s.modAnalyser f).stopLine = s.stopLine := rfl
@[simp] theorem State.modAnalyser_out (f : Analyser → Analyser) : (s.modAnalyser f).out = s.out := rfl
@[simp] theorem State.modAnalyser_freeCount (f : Analyser → Analyser) : (s.modAnalyser f).freeCount = s.freeCount := rfl
@[simp] theorem State.modAnalyser_pending (f : Analyser → Analyser) : (s.modAnalyser f).pending = s.pending := rfl

/-! notice -/

@[simp] theorem State.notice_link (x : Notice) : (s.notice x).link = s.link := rfl
@[simp] theorem State.notice_recipe (x : Notice) : (s.notice x).recipe = s.recipe := rfl
@[simp] theorem State.notice_nests (x : Notice) : (s.notice x).nests = s.nests := rfl
@[simp] theorem State.notice_tones (x : Notice) : (s.notice x).tones = s.tones := rfl
@[simp] theorem State.notice_analyser (x : Notice) : (s.notice x).analyser = s.analyser := rfl
@[simp] theorem State.notice_guard (x : Notice) : (s.notice x).guard = s.guard := rfl
@[simp] theorem State.notice_records (x : Notice) : (s.notice x).records = s.records := rfl
@[simp] theorem State.notice_marking (x : Notice) : (s.notice x).marking = s.marking := rfl
@[simp] theorem State.notice_yield (x : Notice) : (s.notice x).yield = s.yield := rfl
@[simp] theorem State.notice_capture (x : Notice) : (s.notice x).capture = s.capture := rfl
@[simp] theorem State.notice_port (x : Notice) : (s.notice x).port = s.port.notice x := rfl
@[simp] theorem State.notice_stopLine (x : Notice) : (s.notice x).stopLine = s.stopLine := rfl
@[simp] theorem State.notice_out (x : Notice) : (s.notice x).out = s.out := rfl
@[simp] theorem State.notice_freeCount (x : Notice) : (s.notice x).freeCount = s.freeCount := rfl
@[simp] theorem State.notice_pending (x : Notice) : (s.notice x).pending = s.pending := rfl

/-! withCounts -/

@[simp] theorem State.withCounts_link (f : Counts → Counts) : (s.withCounts f).link = s.link := rfl
@[simp] theorem State.withCounts_recipe (f : Counts → Counts) : (s.withCounts f).recipe = s.recipe := rfl
@[simp] theorem State.withCounts_nests (f : Counts → Counts) : (s.withCounts f).nests = s.nests := rfl
@[simp] theorem State.withCounts_tones (f : Counts → Counts) : (s.withCounts f).tones = s.tones := rfl
@[simp] theorem State.withCounts_analyser (f : Counts → Counts) : (s.withCounts f).analyser = s.analyser := rfl
@[simp] theorem State.withCounts_guard (f : Counts → Counts) : (s.withCounts f).guard = s.guard := rfl
@[simp] theorem State.withCounts_records (f : Counts → Counts) : (s.withCounts f).records = s.records := rfl
@[simp] theorem State.withCounts_marking (f : Counts → Counts) : (s.withCounts f).marking = s.marking := rfl
@[simp] theorem State.withCounts_yield (f : Counts → Counts) : (s.withCounts f).yield = { s.yield with counts := f s.yield.counts } := rfl
@[simp] theorem State.withCounts_capture (f : Counts → Counts) : (s.withCounts f).capture = s.capture := rfl
@[simp] theorem State.withCounts_port (f : Counts → Counts) : (s.withCounts f).port = s.port := rfl
@[simp] theorem State.withCounts_stopLine (f : Counts → Counts) : (s.withCounts f).stopLine = s.stopLine := rfl
@[simp] theorem State.withCounts_out (f : Counts → Counts) : (s.withCounts f).out = s.out := rfl
@[simp] theorem State.withCounts_freeCount (f : Counts → Counts) : (s.withCounts f).freeCount = s.freeCount := rfl
@[simp] theorem State.withCounts_pending (f : Counts → Counts) : (s.withCounts f).pending = s.pending := rfl

/-! countAborted -/

@[simp] theorem State.countAborted_link : (s.countAborted).link = s.link := rfl
@[simp] theorem State.countAborted_recipe : (s.countAborted).recipe = s.recipe := rfl
@[simp] theorem State.countAborted_nests : (s.countAborted).nests = s.nests := rfl
@[simp] theorem State.countAborted_tones : (s.countAborted).tones = s.tones := rfl
@[simp] theorem State.countAborted_analyser : (s.countAborted).analyser = s.analyser := rfl
@[simp] theorem State.countAborted_guard : (s.countAborted).guard = s.guard := rfl
@[simp] theorem State.countAborted_records : (s.countAborted).records = s.records := rfl
@[simp] theorem State.countAborted_marking : (s.countAborted).marking = s.marking := rfl
@[simp] theorem State.countAborted_capture : (s.countAborted).capture = s.capture := rfl
@[simp] theorem State.countAborted_port : (s.countAborted).port = s.port := rfl
@[simp] theorem State.countAborted_stopLine : (s.countAborted).stopLine = s.stopLine := rfl
@[simp] theorem State.countAborted_out : (s.countAborted).out = s.out := rfl
@[simp] theorem State.countAborted_freeCount : (s.countAborted).freeCount = s.freeCount := rfl
@[simp] theorem State.countAborted_pending : (s.countAborted).pending = s.pending := rfl

/-! countDiscarded -/

@[simp] theorem State.countDiscarded_link : (s.countDiscarded).link = s.link := rfl
@[simp] theorem State.countDiscarded_recipe : (s.countDiscarded).recipe = s.recipe := rfl
@[simp] theorem State.countDiscarded_nests : (s.countDiscarded).nests = s.nests := rfl
@[simp] theorem State.countDiscarded_tones : (s.countDiscarded).tones = s.tones := rfl
@[simp] theorem State.countDiscarded_analyser : (s.countDiscarded).analyser = s.analyser := rfl
@[simp] theorem State.countDiscarded_guard : (s.countDiscarded).guard = s.guard := rfl
@[simp] theorem State.countDiscarded_records : (s.countDiscarded).records = s.records := rfl
@[simp] theorem State.countDiscarded_marking : (s.countDiscarded).marking = s.marking := rfl
@[simp] theorem State.countDiscarded_capture : (s.countDiscarded).capture = s.capture := rfl
@[simp] theorem State.countDiscarded_port : (s.countDiscarded).port = s.port := rfl
@[simp] theorem State.countDiscarded_stopLine : (s.countDiscarded).stopLine = s.stopLine := rfl
@[simp] theorem State.countDiscarded_out : (s.countDiscarded).out = s.out := rfl
@[simp] theorem State.countDiscarded_freeCount : (s.countDiscarded).freeCount = s.freeCount := rfl
@[simp] theorem State.countDiscarded_pending : (s.countDiscarded).pending = s.pending := rfl

/-! setSlot -/

@[simp] theorem State.setSlot_link (i : SlotId) (x : Slot) : (s.setSlot i x).link = s.link := rfl
@[simp] theorem State.setSlot_recipe (i : SlotId) (x : Slot) : (s.setSlot i x).recipe = s.recipe := rfl
@[simp] theorem State.setSlot_nests (i : SlotId) (x : Slot) : (s.setSlot i x).nests = s.nests := rfl
@[simp] theorem State.setSlot_tones (i : SlotId) (x : Slot) : (s.setSlot i x).tones = s.tones := rfl
@[simp] theorem State.setSlot_analyser (i : SlotId) (x : Slot) : (s.setSlot i x).analyser = s.analyser := rfl
@[simp] theorem State.setSlot_guard (i : SlotId) (x : Slot) : (s.setSlot i x).guard = s.guard := rfl
@[simp] theorem State.setSlot_records (i : SlotId) (x : Slot) : (s.setSlot i x).records = s.records := rfl
@[simp] theorem State.setSlot_marking (i : SlotId) (x : Slot) : (s.setSlot i x).marking = s.marking.setSlot i x := rfl
@[simp] theorem State.setSlot_yield (i : SlotId) (x : Slot) : (s.setSlot i x).yield = s.yield := rfl
@[simp] theorem State.setSlot_capture (i : SlotId) (x : Slot) : (s.setSlot i x).capture = s.capture := rfl
@[simp] theorem State.setSlot_port (i : SlotId) (x : Slot) : (s.setSlot i x).port = s.port := rfl
@[simp] theorem State.setSlot_stopLine (i : SlotId) (x : Slot) : (s.setSlot i x).stopLine = s.stopLine := rfl
@[simp] theorem State.setSlot_out (i : SlotId) (x : Slot) : (s.setSlot i x).out = s.out := rfl
@[simp] theorem State.setSlot_freeCount (i : SlotId) (x : Slot) : (s.setSlot i x).freeCount = s.freeCount := rfl
@[simp] theorem State.setSlot_pending (i : SlotId) (x : Slot) : (s.setSlot i x).pending = s.pending := rfl

/-! setReceiver -/

@[simp] theorem State.setReceiver_link (r : Receiver) : (s.setReceiver r).link = s.link := rfl
@[simp] theorem State.setReceiver_recipe (r : Receiver) : (s.setReceiver r).recipe = s.recipe := rfl
@[simp] theorem State.setReceiver_nests (r : Receiver) : (s.setReceiver r).nests = s.nests := rfl
@[simp] theorem State.setReceiver_tones (r : Receiver) : (s.setReceiver r).tones = s.tones := rfl
@[simp] theorem State.setReceiver_analyser (r : Receiver) : (s.setReceiver r).analyser = s.analyser := rfl
@[simp] theorem State.setReceiver_guard (r : Receiver) : (s.setReceiver r).guard = s.guard := rfl
@[simp] theorem State.setReceiver_records (r : Receiver) : (s.setReceiver r).records = s.records := rfl
@[simp] theorem State.setReceiver_yield (r : Receiver) : (s.setReceiver r).yield = s.yield := rfl
@[simp] theorem State.setReceiver_capture (r : Receiver) : (s.setReceiver r).capture = s.capture := rfl
@[simp] theorem State.setReceiver_port (r : Receiver) : (s.setReceiver r).port = s.port := rfl
@[simp] theorem State.setReceiver_stopLine (r : Receiver) : (s.setReceiver r).stopLine = s.stopLine := rfl
@[simp] theorem State.setReceiver_out (r : Receiver) : (s.setReceiver r).out = s.out := rfl
@[simp] theorem State.setReceiver_freeCount (r : Receiver) : (s.setReceiver r).freeCount = s.freeCount := rfl
@[simp] theorem State.setReceiver_pending (r : Receiver) : (s.setReceiver r).pending = s.pending := rfl

/-! countCharError -/

@[simp] theorem State.countCharError_link : (s.countCharError).link = s.link := rfl
@[simp] theorem State.countCharError_recipe : (s.countCharError).recipe = s.recipe := rfl
@[simp] theorem State.countCharError_nests : (s.countCharError).nests = s.nests := rfl
@[simp] theorem State.countCharError_tones : (s.countCharError).tones = s.tones := rfl
@[simp] theorem State.countCharError_analyser : (s.countCharError).analyser = s.analyser := rfl
@[simp] theorem State.countCharError_guard : (s.countCharError).guard = s.guard := rfl
@[simp] theorem State.countCharError_records : (s.countCharError).records = s.records := rfl
@[simp] theorem State.countCharError_yield : (s.countCharError).yield = s.yield := rfl
@[simp] theorem State.countCharError_capture : (s.countCharError).capture = s.capture := rfl
@[simp] theorem State.countCharError_port : (s.countCharError).port = s.port := rfl
@[simp] theorem State.countCharError_stopLine : (s.countCharError).stopLine = s.stopLine := rfl
@[simp] theorem State.countCharError_out : (s.countCharError).out = s.out := rfl
@[simp] theorem State.countCharError_freeCount : (s.countCharError).freeCount = s.freeCount := rfl
@[simp] theorem State.countCharError_pending : (s.countCharError).pending = s.pending := rfl

/-! startMessage -/

@[simp] theorem State.startMessage_link : (s.startMessage).link = s.link := rfl
@[simp] theorem State.startMessage_recipe : (s.startMessage).recipe = s.recipe := rfl
@[simp] theorem State.startMessage_nests : (s.startMessage).nests = s.nests := rfl
@[simp] theorem State.startMessage_tones : (s.startMessage).tones = s.tones := rfl
@[simp] theorem State.startMessage_analyser : (s.startMessage).analyser = s.analyser := rfl
@[simp] theorem State.startMessage_guard : (s.startMessage).guard = s.guard := rfl
@[simp] theorem State.startMessage_records : (s.startMessage).records = s.records := rfl
@[simp] theorem State.startMessage_marking : (s.startMessage).marking = s.marking.startMessage := rfl
@[simp] theorem State.startMessage_yield : (s.startMessage).yield = s.yield := rfl
@[simp] theorem State.startMessage_capture : (s.startMessage).capture = s.capture := rfl
@[simp] theorem State.startMessage_port : (s.startMessage).port = s.port := rfl
@[simp] theorem State.startMessage_stopLine : (s.startMessage).stopLine = s.stopLine := rfl
@[simp] theorem State.startMessage_out : (s.startMessage).out = s.out := rfl
@[simp] theorem State.startMessage_freeCount : (s.startMessage).freeCount = s.freeCount := rfl
@[simp] theorem State.startMessage_pending : (s.startMessage).pending = s.pending := rfl

/-! withLink -/

@[simp] theorem State.withLink_link (l : Link) : (s.withLink l).link = l := rfl
@[simp] theorem State.withLink_recipe (l : Link) : (s.withLink l).recipe = s.recipe := rfl
@[simp] theorem State.withLink_nests (l : Link) : (s.withLink l).nests = s.nests := rfl
@[simp] theorem State.withLink_tones (l : Link) : (s.withLink l).tones = s.tones := rfl
@[simp] theorem State.withLink_analyser (l : Link) : (s.withLink l).analyser = s.analyser := rfl
@[simp] theorem State.withLink_guard (l : Link) : (s.withLink l).guard = s.guard := rfl
@[simp] theorem State.withLink_records (l : Link) : (s.withLink l).records = s.records := rfl
@[simp] theorem State.withLink_marking (l : Link) : (s.withLink l).marking = s.marking := rfl
@[simp] theorem State.withLink_yield (l : Link) : (s.withLink l).yield = s.yield := rfl
@[simp] theorem State.withLink_capture (l : Link) : (s.withLink l).capture = s.capture := rfl
@[simp] theorem State.withLink_port (l : Link) : (s.withLink l).port = s.port := rfl
@[simp] theorem State.withLink_stopLine (l : Link) : (s.withLink l).stopLine = s.stopLine := rfl
@[simp] theorem State.withLink_out (l : Link) : (s.withLink l).out = s.out := rfl
@[simp] theorem State.withLink_freeCount (l : Link) : (s.withLink l).freeCount = s.freeCount := rfl
@[simp] theorem State.withLink_pending (l : Link) : (s.withLink l).pending = s.pending := rfl

/-! popCommand -/

@[simp] theorem State.popCommand_link : (s.popCommand).link = s.link := rfl
@[simp] theorem State.popCommand_recipe : (s.popCommand).recipe = s.recipe := rfl
@[simp] theorem State.popCommand_nests : (s.popCommand).nests = s.nests := rfl
@[simp] theorem State.popCommand_tones : (s.popCommand).tones = s.tones := rfl
@[simp] theorem State.popCommand_analyser : (s.popCommand).analyser = s.analyser := rfl
@[simp] theorem State.popCommand_guard : (s.popCommand).guard = s.guard := rfl
@[simp] theorem State.popCommand_records : (s.popCommand).records = s.records := rfl
@[simp] theorem State.popCommand_marking : (s.popCommand).marking = s.marking := rfl
@[simp] theorem State.popCommand_yield : (s.popCommand).yield = s.yield := rfl
@[simp] theorem State.popCommand_capture : (s.popCommand).capture = s.capture := rfl
@[simp] theorem State.popCommand_stopLine : (s.popCommand).stopLine = s.stopLine := rfl
@[simp] theorem State.popCommand_out : (s.popCommand).out = s.out := rfl
@[simp] theorem State.popCommand_freeCount : (s.popCommand).freeCount = s.freeCount := rfl
@[simp] theorem State.popCommand_pending : (s.popCommand).pending = s.pending := rfl

/-! reply -/

@[simp] theorem State.reply_link (r : Reply) : (s.reply r).link = s.link := rfl
@[simp] theorem State.reply_recipe (r : Reply) : (s.reply r).recipe = s.recipe := rfl
@[simp] theorem State.reply_nests (r : Reply) : (s.reply r).nests = s.nests := rfl
@[simp] theorem State.reply_tones (r : Reply) : (s.reply r).tones = s.tones := rfl
@[simp] theorem State.reply_analyser (r : Reply) : (s.reply r).analyser = s.analyser := rfl
@[simp] theorem State.reply_guard (r : Reply) : (s.reply r).guard = s.guard := rfl
@[simp] theorem State.reply_records (r : Reply) : (s.reply r).records = s.records := rfl
@[simp] theorem State.reply_marking (r : Reply) : (s.reply r).marking = s.marking := rfl
@[simp] theorem State.reply_yield (r : Reply) : (s.reply r).yield = s.yield := rfl
@[simp] theorem State.reply_capture (r : Reply) : (s.reply r).capture = s.capture := rfl
@[simp] theorem State.reply_stopLine (r : Reply) : (s.reply r).stopLine = s.stopLine := rfl
@[simp] theorem State.reply_out (r : Reply) : (s.reply r).out = s.out := rfl
@[simp] theorem State.reply_freeCount (r : Reply) : (s.reply r).freeCount = s.freeCount := rfl
@[simp] theorem State.reply_pending (r : Reply) : (s.reply r).pending = s.pending := rfl

/-! spend -/

@[simp] theorem State.spend_link : (s.spend).link = s.link := rfl
@[simp] theorem State.spend_recipe : (s.spend).recipe = s.recipe := rfl
@[simp] theorem State.spend_nests : (s.spend).nests = s.nests := rfl
@[simp] theorem State.spend_tones : (s.spend).tones = s.tones := rfl
@[simp] theorem State.spend_analyser : (s.spend).analyser = s.analyser := rfl
@[simp] theorem State.spend_guard : (s.spend).guard = s.guard := rfl
@[simp] theorem State.spend_records : (s.spend).records = s.records := rfl
@[simp] theorem State.spend_marking : (s.spend).marking = s.marking := rfl
@[simp] theorem State.spend_yield : (s.spend).yield = s.yield := rfl
@[simp] theorem State.spend_capture : (s.spend).capture = s.capture := rfl
@[simp] theorem State.spend_port : (s.spend).port = s.port := rfl
@[simp] theorem State.spend_stopLine : (s.spend).stopLine = s.stopLine := rfl
@[simp] theorem State.spend_out : (s.spend).out = s.out := rfl
@[simp] theorem State.spend_freeCount : (s.spend).freeCount = s.freeCount + 1 := rfl
@[simp] theorem State.spend_pending : (s.spend).pending = s.pending := rfl

/-! setEntry -/

@[simp] theorem State.setEntry_link (e : Nat) (d : DirEntry) : (s.setEntry e d).link = s.link := rfl
@[simp] theorem State.setEntry_recipe (e : Nat) (d : DirEntry) : (s.setEntry e d).recipe = s.recipe.setEntry e d := rfl
@[simp] theorem State.setEntry_nests (e : Nat) (d : DirEntry) : (s.setEntry e d).nests = s.nests := rfl
@[simp] theorem State.setEntry_tones (e : Nat) (d : DirEntry) : (s.setEntry e d).tones = s.tones := rfl
@[simp] theorem State.setEntry_analyser (e : Nat) (d : DirEntry) : (s.setEntry e d).analyser = s.analyser := rfl
@[simp] theorem State.setEntry_guard (e : Nat) (d : DirEntry) : (s.setEntry e d).guard = s.guard := rfl
@[simp] theorem State.setEntry_records (e : Nat) (d : DirEntry) : (s.setEntry e d).records = s.records := rfl
@[simp] theorem State.setEntry_marking (e : Nat) (d : DirEntry) : (s.setEntry e d).marking = s.marking := rfl
@[simp] theorem State.setEntry_yield (e : Nat) (d : DirEntry) : (s.setEntry e d).yield = s.yield := rfl
@[simp] theorem State.setEntry_capture (e : Nat) (d : DirEntry) : (s.setEntry e d).capture = s.capture := rfl
@[simp] theorem State.setEntry_port (e : Nat) (d : DirEntry) : (s.setEntry e d).port = s.port := rfl
@[simp] theorem State.setEntry_stopLine (e : Nat) (d : DirEntry) : (s.setEntry e d).stopLine = s.stopLine := rfl
@[simp] theorem State.setEntry_out (e : Nat) (d : DirEntry) : (s.setEntry e d).out = s.out := rfl
@[simp] theorem State.setEntry_freeCount (e : Nat) (d : DirEntry) : (s.setEntry e d).freeCount = s.freeCount := rfl
@[simp] theorem State.setEntry_pending (e : Nat) (d : DirEntry) : (s.setEntry e d).pending = s.pending := rfl

/-! voidCapture -/

@[simp] theorem State.voidCapture_link (n : Nest) : (s.voidCapture n).link = s.link := rfl
@[simp] theorem State.voidCapture_recipe (n : Nest) : (s.voidCapture n).recipe = s.recipe := rfl
@[simp] theorem State.voidCapture_nests (n : Nest) : (s.voidCapture n).nests = s.nests := rfl
@[simp] theorem State.voidCapture_tones (n : Nest) : (s.voidCapture n).tones = s.tones := rfl
@[simp] theorem State.voidCapture_analyser (n : Nest) : (s.voidCapture n).analyser = s.analyser := rfl
@[simp] theorem State.voidCapture_guard (n : Nest) : (s.voidCapture n).guard = s.guard := rfl
@[simp] theorem State.voidCapture_records (n : Nest) : (s.voidCapture n).records = s.records := rfl
@[simp] theorem State.voidCapture_marking (n : Nest) : (s.voidCapture n).marking = s.marking := rfl
@[simp] theorem State.voidCapture_yield (n : Nest) : (s.voidCapture n).yield = s.yield := rfl
@[simp] theorem State.voidCapture_capture (n : Nest) : (s.voidCapture n).capture = s.capture.voidRecord n := rfl
@[simp] theorem State.voidCapture_port (n : Nest) : (s.voidCapture n).port = s.port := rfl
@[simp] theorem State.voidCapture_stopLine (n : Nest) : (s.voidCapture n).stopLine = s.stopLine := rfl
@[simp] theorem State.voidCapture_out (n : Nest) : (s.voidCapture n).out = s.out := rfl
@[simp] theorem State.voidCapture_freeCount (n : Nest) : (s.voidCapture n).freeCount = s.freeCount := rfl
@[simp] theorem State.voidCapture_pending (n : Nest) : (s.voidCapture n).pending = s.pending := rfl

/-! captureSample -/

@[simp] theorem State.captureSample_link (n : Nest) (x : Sample) : (s.captureSample n x).link = s.link := rfl
@[simp] theorem State.captureSample_recipe (n : Nest) (x : Sample) : (s.captureSample n x).recipe = s.recipe := rfl
@[simp] theorem State.captureSample_nests (n : Nest) (x : Sample) : (s.captureSample n x).nests = s.nests := rfl
@[simp] theorem State.captureSample_tones (n : Nest) (x : Sample) : (s.captureSample n x).tones = s.tones := rfl
@[simp] theorem State.captureSample_analyser (n : Nest) (x : Sample) : (s.captureSample n x).analyser = s.analyser := rfl
@[simp] theorem State.captureSample_guard (n : Nest) (x : Sample) : (s.captureSample n x).guard = s.guard := rfl
@[simp] theorem State.captureSample_records (n : Nest) (x : Sample) : (s.captureSample n x).records = s.records := rfl
@[simp] theorem State.captureSample_marking (n : Nest) (x : Sample) : (s.captureSample n x).marking = s.marking := rfl
@[simp] theorem State.captureSample_yield (n : Nest) (x : Sample) : (s.captureSample n x).yield = s.yield := rfl
@[simp] theorem State.captureSample_capture (n : Nest) (x : Sample) : (s.captureSample n x).capture = s.capture.writeSample n x := rfl
@[simp] theorem State.captureSample_port (n : Nest) (x : Sample) : (s.captureSample n x).port = s.port := rfl
@[simp] theorem State.captureSample_stopLine (n : Nest) (x : Sample) : (s.captureSample n x).stopLine = s.stopLine := rfl
@[simp] theorem State.captureSample_out (n : Nest) (x : Sample) : (s.captureSample n x).out = s.out := rfl
@[simp] theorem State.captureSample_freeCount (n : Nest) (x : Sample) : (s.captureSample n x).freeCount = s.freeCount := rfl
@[simp] theorem State.captureSample_pending (n : Nest) (x : Sample) : (s.captureSample n x).pending = s.pending := rfl

/-! beginTones -/

@[simp] theorem State.beginTones_link : (s.beginTones).link = s.link := rfl
@[simp] theorem State.beginTones_recipe : (s.beginTones).recipe = s.recipe := rfl
@[simp] theorem State.beginTones_nests : (s.beginTones).nests = s.nests := rfl
@[simp] theorem State.beginTones_analyser : (s.beginTones).analyser = s.analyser := rfl
@[simp] theorem State.beginTones_guard : (s.beginTones).guard = s.guard := rfl
@[simp] theorem State.beginTones_records : (s.beginTones).records = s.records := rfl
@[simp] theorem State.beginTones_marking : (s.beginTones).marking = s.marking := rfl
@[simp] theorem State.beginTones_yield : (s.beginTones).yield = s.yield := rfl
@[simp] theorem State.beginTones_capture : (s.beginTones).capture = s.capture := rfl
@[simp] theorem State.beginTones_port : (s.beginTones).port = s.port := rfl
@[simp] theorem State.beginTones_stopLine : (s.beginTones).stopLine = s.stopLine := rfl
@[simp] theorem State.beginTones_out : (s.beginTones).out = s.out := rfl
@[simp] theorem State.beginTones_freeCount : (s.beginTones).freeCount = s.freeCount := rfl
@[simp] theorem State.beginTones_pending : (s.beginTones).pending = s.pending := rfl

/-! advanceTones -/

@[simp] theorem State.advanceTones_link : (s.advanceTones).link = s.link := rfl
@[simp] theorem State.advanceTones_recipe : (s.advanceTones).recipe = s.recipe := rfl
@[simp] theorem State.advanceTones_nests : (s.advanceTones).nests = s.nests := rfl
@[simp] theorem State.advanceTones_tones : (s.advanceTones).tones = s.tones.map Tone.advance := rfl
@[simp] theorem State.advanceTones_analyser : (s.advanceTones).analyser = s.analyser := rfl
@[simp] theorem State.advanceTones_guard : (s.advanceTones).guard = s.guard := rfl
@[simp] theorem State.advanceTones_records : (s.advanceTones).records = s.records := rfl
@[simp] theorem State.advanceTones_marking : (s.advanceTones).marking = s.marking := rfl
@[simp] theorem State.advanceTones_yield : (s.advanceTones).yield = s.yield := rfl
@[simp] theorem State.advanceTones_capture : (s.advanceTones).capture = s.capture := rfl
@[simp] theorem State.advanceTones_port : (s.advanceTones).port = s.port := rfl
@[simp] theorem State.advanceTones_stopLine : (s.advanceTones).stopLine = s.stopLine := rfl
@[simp] theorem State.advanceTones_out : (s.advanceTones).out = s.out := rfl
@[simp] theorem State.advanceTones_freeCount : (s.advanceTones).freeCount = s.freeCount := rfl
@[simp] theorem State.advanceTones_pending : (s.advanceTones).pending = s.pending := rfl

/-! The readers of one nest, tone or record -/

@[simp] theorem PerNest.get_set_self {α : Type} (p : PerNest α) (n : Nest) (x : α) : (p.set n x).get n = x := by
  cases n <;> rfl

theorem PerNest.get_set_ne {α : Type} (p : PerNest α) {n m : Nest} (h : m ≠ n) (x : α) :
    (p.set n x).get m = p.get m := by
  cases n <;> cases m <;> first | rfl | exact absurd rfl h

theorem PerNest.get_set {α : Type} (p : PerNest α) (n m : Nest) (x : α) :
    (p.set n x).get m = if m = n then x else p.get m := by
  cases n <;> cases m <;> rfl

@[simp] theorem PerNest.get_all {α : Type} (x : α) (n : Nest) : (PerNest.all x).get n = x := by cases n <;> rfl

@[simp] theorem PerNest.get_map {α β : Type} (f : α → β) (p : PerNest α) (n : Nest) : (p.map f).get n = f (p.get n) := by
  cases n <;> rfl

@[simp] theorem State.nest_setNest (n : Nest) (q : Sequencer) : (s.setNest n q).nest n = q := by
  simp [State.nest]

@[simp] theorem State.nest_modNest (n : Nest) (f : Sequencer → Sequencer) : (s.modNest n f).nest n = f (s.nest n) := by
  simp [State.nest]

theorem State.nest_setNest_ne {n m : Nest} (h : m ≠ n) (q : Sequencer) : (s.setNest n q).nest m = s.nest m := by
  simp [State.nest, PerNest.get_set_ne _ h]

theorem State.nest_modNest_ne {n m : Nest} (h : m ≠ n) (f : Sequencer → Sequencer) :
    (s.modNest n f).nest m = s.nest m := by
  simp [State.nest, PerNest.get_set_ne _ h]

@[simp] theorem State.tone_setTone (n : Nest) (t : Tone) : (s.setTone n t).tone n = t := by simp [State.tone]

@[simp] theorem State.tone_modTone (n : Nest) (f : Tone → Tone) : (s.modTone n f).tone n = f (s.tone n) := by
  simp [State.tone]

theorem State.record_setRecord {id : Nat} (h : id < s.records.length) (r : UnitRecord) :
    (s.setRecord id r).record id = r := by
  simp [State.record, h]

theorem State.record_setRecord_ne {id j : Nat} (h : j ≠ id) (r : UnitRecord) :
    (s.setRecord id r).record j = s.record j := by
  simp [State.record, List.getElem?_set_ne (Ne.symm h)]

@[simp] theorem State.setNest_tone (n : Nest) (q : Sequencer) (m : Nest) : (s.setNest n q).tone m = s.tone m := rfl
@[simp] theorem State.setNest_record (n : Nest) (q : Sequencer) (j : Nat) : (s.setNest n q).record j = s.record j := rfl
@[simp] theorem State.modNest_tone (n : Nest) (f : Sequencer → Sequencer) (m : Nest) : (s.modNest n f).tone m = s.tone m := rfl
@[simp] theorem State.modNest_record (n : Nest) (f : Sequencer → Sequencer) (j : Nat) : (s.modNest n f).record j = s.record j := rfl
@[simp] theorem State.setTone_nest (n : Nest) (t : Tone) (m : Nest) : (s.setTone n t).nest m = s.nest m := rfl
@[simp] theorem State.setTone_record (n : Nest) (t : Tone) (j : Nat) : (s.setTone n t).record j = s.record j := rfl
@[simp] theorem State.modTone_nest (n : Nest) (f : Tone → Tone) (m : Nest) : (s.modTone n f).nest m = s.nest m := rfl
@[simp] theorem State.modTone_record (n : Nest) (f : Tone → Tone) (j : Nat) : (s.modTone n f).record j = s.record j := rfl
@[simp] theorem State.setRecord_nest (id : Nat) (r : UnitRecord) (m : Nest) : (s.setRecord id r).nest m = s.nest m := rfl
@[simp] theorem State.setRecord_tone (id : Nat) (r : UnitRecord) (m : Nest) : (s.setRecord id r).tone m = s.tone m := rfl
@[simp] theorem State.setDetector_nest (n : Nest) (d : Detector) (m : Nest) : (s.setDetector n d).nest m = s.nest m := rfl
@[simp] theorem State.setDetector_tone (n : Nest) (d : Detector) (m : Nest) : (s.setDetector n d).tone m = s.tone m := rfl
@[simp] theorem State.setDetector_record (n : Nest) (d : Detector) (j : Nat) : (s.setDetector n d).record j = s.record j := rfl
@[simp] theorem State.modAnalyser_nest (f : Analyser → Analyser) (m : Nest) : (s.modAnalyser f).nest m = s.nest m := rfl
@[simp] theorem State.modAnalyser_tone (f : Analyser → Analyser) (m : Nest) : (s.modAnalyser f).tone m = s.tone m := rfl
@[simp] theorem State.modAnalyser_record (f : Analyser → Analyser) (j : Nat) : (s.modAnalyser f).record j = s.record j := rfl
@[simp] theorem State.notice_nest (x : Notice) (m : Nest) : (s.notice x).nest m = s.nest m := rfl
@[simp] theorem State.notice_tone (x : Notice) (m : Nest) : (s.notice x).tone m = s.tone m := rfl
@[simp] theorem State.notice_record (x : Notice) (j : Nat) : (s.notice x).record j = s.record j := rfl
@[simp] theorem State.withCounts_nest (f : Counts → Counts) (m : Nest) : (s.withCounts f).nest m = s.nest m := rfl
@[simp] theorem State.withCounts_tone (f : Counts → Counts) (m : Nest) : (s.withCounts f).tone m = s.tone m := rfl
@[simp] theorem State.withCounts_record (f : Counts → Counts) (j : Nat) : (s.withCounts f).record j = s.record j := rfl
@[simp] theorem State.countAborted_nest (m : Nest) : (s.countAborted).nest m = s.nest m := rfl
@[simp] theorem State.countAborted_tone (m : Nest) : (s.countAborted).tone m = s.tone m := rfl
@[simp] theorem State.countAborted_record (j : Nat) : (s.countAborted).record j = s.record j := rfl
@[simp] theorem State.countDiscarded_nest (m : Nest) : (s.countDiscarded).nest m = s.nest m := rfl
@[simp] theorem State.countDiscarded_tone (m : Nest) : (s.countDiscarded).tone m = s.tone m := rfl
@[simp] theorem State.countDiscarded_record (j : Nat) : (s.countDiscarded).record j = s.record j := rfl
@[simp] theorem State.setSlot_nest (i : SlotId) (x : Slot) (m : Nest) : (s.setSlot i x).nest m = s.nest m := rfl
@[simp] theorem State.setSlot_tone (i : SlotId) (x : Slot) (m : Nest) : (s.setSlot i x).tone m = s.tone m := rfl
@[simp] theorem State.setSlot_record (i : SlotId) (x : Slot) (j : Nat) : (s.setSlot i x).record j = s.record j := rfl
@[simp] theorem State.setReceiver_nest (r : Receiver) (m : Nest) : (s.setReceiver r).nest m = s.nest m := rfl
@[simp] theorem State.setReceiver_tone (r : Receiver) (m : Nest) : (s.setReceiver r).tone m = s.tone m := rfl
@[simp] theorem State.setReceiver_record (r : Receiver) (j : Nat) : (s.setReceiver r).record j = s.record j := rfl
@[simp] theorem State.countCharError_nest (m : Nest) : (s.countCharError).nest m = s.nest m := rfl
@[simp] theorem State.countCharError_tone (m : Nest) : (s.countCharError).tone m = s.tone m := rfl
@[simp] theorem State.countCharError_record (j : Nat) : (s.countCharError).record j = s.record j := rfl
@[simp] theorem State.startMessage_nest (m : Nest) : (s.startMessage).nest m = s.nest m := rfl
@[simp] theorem State.startMessage_tone (m : Nest) : (s.startMessage).tone m = s.tone m := rfl
@[simp] theorem State.startMessage_record (j : Nat) : (s.startMessage).record j = s.record j := rfl
@[simp] theorem State.withLink_nest (l : Link) (m : Nest) : (s.withLink l).nest m = s.nest m := rfl
@[simp] theorem State.withLink_tone (l : Link) (m : Nest) : (s.withLink l).tone m = s.tone m := rfl
@[simp] theorem State.withLink_record (l : Link) (j : Nat) : (s.withLink l).record j = s.record j := rfl
@[simp] theorem State.popCommand_nest (m : Nest) : (s.popCommand).nest m = s.nest m := rfl
@[simp] theorem State.popCommand_tone (m : Nest) : (s.popCommand).tone m = s.tone m := rfl
@[simp] theorem State.popCommand_record (j : Nat) : (s.popCommand).record j = s.record j := rfl
@[simp] theorem State.reply_nest (r : Reply) (m : Nest) : (s.reply r).nest m = s.nest m := rfl
@[simp] theorem State.reply_tone (r : Reply) (m : Nest) : (s.reply r).tone m = s.tone m := rfl
@[simp] theorem State.reply_record (r : Reply) (j : Nat) : (s.reply r).record j = s.record j := rfl
@[simp] theorem State.spend_nest (m : Nest) : (s.spend).nest m = s.nest m := rfl
@[simp] theorem State.spend_tone (m : Nest) : (s.spend).tone m = s.tone m := rfl
@[simp] theorem State.spend_record (j : Nat) : (s.spend).record j = s.record j := rfl
@[simp] theorem State.setEntry_nest (e : Nat) (d : DirEntry) (m : Nest) : (s.setEntry e d).nest m = s.nest m := rfl
@[simp] theorem State.setEntry_tone (e : Nat) (d : DirEntry) (m : Nest) : (s.setEntry e d).tone m = s.tone m := rfl
@[simp] theorem State.setEntry_record (e : Nat) (d : DirEntry) (j : Nat) : (s.setEntry e d).record j = s.record j := rfl
@[simp] theorem State.voidCapture_nest (n : Nest) (m : Nest) : (s.voidCapture n).nest m = s.nest m := rfl
@[simp] theorem State.voidCapture_tone (n : Nest) (m : Nest) : (s.voidCapture n).tone m = s.tone m := rfl
@[simp] theorem State.voidCapture_record (n : Nest) (j : Nat) : (s.voidCapture n).record j = s.record j := rfl
@[simp] theorem State.captureSample_nest (n : Nest) (x : Sample) (m : Nest) : (s.captureSample n x).nest m = s.nest m := rfl
@[simp] theorem State.captureSample_tone (n : Nest) (x : Sample) (m : Nest) : (s.captureSample n x).tone m = s.tone m := rfl
@[simp] theorem State.captureSample_record (n : Nest) (x : Sample) (j : Nat) : (s.captureSample n x).record j = s.record j := rfl
@[simp] theorem State.beginTones_nest (m : Nest) : (s.beginTones).nest m = s.nest m := rfl
@[simp] theorem State.beginTones_record (j : Nat) : (s.beginTones).record j = s.record j := rfl
@[simp] theorem State.advanceTones_nest (m : Nest) : (s.advanceTones).nest m = s.nest m := rfl
@[simp] theorem State.advanceTones_record (j : Nat) : (s.advanceTones).record j = s.record j := rfl

end Sys2Proof.Machine
end

