-- ==== Sys2Proof/Laws/Moves.lean ====
section
/-! SUPPORT. What nothing that a nest, the lanes, a record, a verdict or the guard does can change: `Moves`. One lemma for
each shared operation, which the proofs about steps cite in place of unfolding it. -/

namespace Sys2Proof.Machine

/-- The port after some notices were formed and some stream buffers emptied. -/
structure PortMoves (p q : Port) : Prop where
  commands : q.commands = p.commands
  unit : q.unit = p.unit
  overrunFlag : q.overrunFlag = p.overrunFlag
  replies : q.replies = p.replies
  enables : q.enables = p.enables
  tapSelection : q.tapSelection = p.tapSelection
  taps : q.taps = p.taps
  tapQueue : q.tapQueue = p.tapQueue
  part : q.part = p.part
  startup : q.startup = p.startup
  config : q.config = p.config
  notices : p.notices.length ≤ 32 → q.notices.length ≤ 32
  streams : ∀ n, (q.streams.get n).length ≤ (p.streams.get n).length

structure Moves (s t : State) : Prop where
  link : t.link = s.link
  rows : t.recipe.rows = s.recipe.rows
  directory : t.recipe.directory = s.recipe.directory
  bins : t.recipe.bins = s.recipe.bins
  uses : t.recipe.useCount.length = s.recipe.useCount.length
  lanes : t.analyser.lanes.length = s.analyser.lanes.length
  records : t.records.length = s.records.length
  words : Memory.wf 0 s.capture.words = true → Memory.wf 0 t.capture.words = true
  ring : s.capture.ok → t.capture.ok
  yield : s.yield.ok → t.yield.ok
  retries : s.retriesOk → t.retriesOk
  port : PortMoves s.port t.port
  stopLine : t.stopLine = s.stopLine
  out : t.out = s.out
  pending : t.pending = s.pending

theorem PortMoves.refl (p : Port) : PortMoves p p := by
  constructor <;> first | rfl | exact id | exact fun _ => Nat.le_refl _

theorem PortMoves.trans {p q r : Port} (h : PortMoves p q) (k : PortMoves q r) : PortMoves p r :=
  { commands := k.commands.trans h.commands, unit := k.unit.trans h.unit, overrunFlag := k.overrunFlag.trans h.overrunFlag
    replies := k.replies.trans h.replies, enables := k.enables.trans h.enables
    tapSelection := k.tapSelection.trans h.tapSelection, taps := k.taps.trans h.taps
    tapQueue := k.tapQueue.trans h.tapQueue, part := k.part.trans h.part, startup := k.startup.trans h.startup
    config := k.config.trans h.config, notices := fun x => k.notices (h.notices x)
    streams := fun n => Nat.le_trans (k.streams n) (h.streams n) }

theorem Moves.refl (s : State) : Moves s s := by
  constructor <;> first | rfl | exact id | exact PortMoves.refl _

theorem Moves.trans {s t u : State} (h : Moves s t) (k : Moves t u) : Moves s u :=
  { link := k.link.trans h.link, rows := k.rows.trans h.rows, directory := k.directory.trans h.directory
    bins := k.bins.trans h.bins, uses := k.uses.trans h.uses, lanes := k.lanes.trans h.lanes
    records := k.records.trans h.records, words := fun x => k.words (h.words x)
    ring := fun x => k.ring (h.ring x), yield := fun x => k.yield (h.yield x)
    retries := fun x => k.retries (h.retries x), port := h.port.trans k.port, stopLine := k.stopLine.trans h.stopLine
    out := k.out.trans h.out, pending := k.pending.trans h.pending }

/-- The last move first: with the goal at hand, every update is read off it. -/
theorem Moves.after {s t u : State} (k : Moves t u) (h : Moves s t) : Moves s u := h.trans k

/-! ### Single updates -/

variable (s : State)

/-- An update of one nest that keeps its retries within the budget. -/
theorem moves_modNest (n : Nest) (f : Sequencer → Sequencer)
    (h : ∀ q : Sequencer, q.retries ≤ q.settings.retryBudget → (f q).retries ≤ (f q).settings.retryBudget) :
    Moves s (s.modNest n f) :=
  { Moves.refl s with
    retries := by
      intro hs m
      by_cases hm : m = n
      · subst hm; simpa using h _ (hs m)
      · rw [State.nest_modNest_ne s hm]; exact hs m }

theorem moves_setNest (n : Nest) (q : Sequencer)
    (h : (s.nest n).retries ≤ (s.nest n).settings.retryBudget → q.retries ≤ q.settings.retryBudget) :
    Moves s (s.setNest n q) :=
  { Moves.refl s with
    retries := by
      intro hs m
      by_cases hm : m = n
      · subst hm; simpa using h (hs m)
      · rw [State.nest_setNest_ne s hm]; exact hs m }

theorem moves_setTone (n : Nest) (t : Tone) : Moves s (s.setTone n t) := { Moves.refl s with }

theorem moves_modTone (n : Nest) (f : Tone → Tone) : Moves s (s.modTone n f) := { Moves.refl s with }

theorem moves_modAnalyser (f : Analyser → Analyser) (h : (f s.analyser).lanes.length = s.analyser.lanes.length) :
    Moves s (s.modAnalyser f) := { Moves.refl s with lanes := h }

theorem moves_setDetector (n : Nest) (d : Detector) : Moves s (s.setDetector n d) := { Moves.refl s with }

theorem moves_setRecord (id : Nat) (r : UnitRecord) : Moves s (s.setRecord id r) :=
  { Moves.refl s with records := by simp }

theorem moves_capture (c : Capture) (h : Memory.wf 0 s.capture.words = true → Memory.wf 0 c.words = true)
    (k : s.capture.ok → c.ok) : Moves s { s with capture := c } := { Moves.refl s with words := h, ring := k }

theorem moves_yield (y : Yield) (h : s.yield.ok → y.ok) : Moves s { s with yield := y } :=
  { Moves.refl s with yield := h }

theorem moves_withCounts (f : Counts → Counts) : Moves s (s.withCounts f) :=
  moves_yield s _ (fun h => h)

theorem moves_guard (g : Guard) : Moves s { s with guard := g } := { Moves.refl s with }

theorem moves_marking (m : Marking) : Moves s { s with marking := m } := { Moves.refl s with }

theorem moves_spend : Moves s s.spend := { Moves.refl s with }

theorem moves_tones (t : PerNest Tone) : Moves s { s with tones := t } := { Moves.refl s with }

/-! ### Notices and stream buffers -/

theorem portMoves_notice (p : Port) (x : Notice) : PortMoves p (p.notice x) := by
  unfold Port.notice
  split
  · split
    · rename_i h
      exact { PortMoves.refl p with notices := fun _ => by simp; omega }
    · exact { PortMoves.refl p with }
  · exact PortMoves.refl p

theorem moves_notice (x : Notice) : Moves s (s.notice x) :=
  { Moves.refl s with port := portMoves_notice s.port x }

theorem portMoves_emptyStream (p : Port) (n : Nest) : PortMoves p (p.emptyStream n) :=
  { PortMoves.refl p with
    streams := by
      intro m
      by_cases h : m = n
      · subst h; simp [Port.emptyStream]
      · simp [Port.emptyStream, PerNest.get_set_ne _ h] }

theorem moves_emptyStream (n : Nest) : Moves s { s with port := s.port.emptyStream n } :=
  { Moves.refl s with port := portMoves_emptyStream s.port n }

/-! ### The capture ring -/

theorem Capture.writeWord_wf {c : Capture} (r : CaptureRecord) (i : Nat) (w : Word) (h : Memory.wf 0 c.words = true) :
    Memory.wf 0 (c.writeWord r i w).words = true := Memory.wf_write _ _ h

theorem Capture.reserve_wf {c : Capture} (n : Nest) (carrier : Word) (i : Nat) (st : Step) (first : Word)
    (h : Memory.wf 0 c.words = true) : Memory.wf 0 (c.reserve n carrier i st first).words = true := by
  unfold Capture.reserve Capture.writeHeader
  exact writeWord_wf _ _ _ (writeWord_wf _ _ _ (writeWord_wf _ _ _ (writeWord_wf _ _ _ h)))

@[simp] theorem Capture.change_words (c : Capture) (n : Nest) (f : CaptureRecord → CaptureRecord) :
    (c.change n f).words = c.words := by unfold Capture.change; split <;> rfl

@[simp] theorem Capture.voidRecord_words (c : Capture) (n : Nest) : (c.voidRecord n).words = c.words := by
  simp [Capture.voidRecord]

theorem Capture.writeSample_wf {c : Capture} (n : Nest) (x : Sample) (h : Memory.wf 0 c.words = true) :
    Memory.wf 0 (c.writeSample n x).words = true := by
  unfold Capture.writeSample
  split
  · exact h
  · simpa using writeWord_wf _ _ _ h

theorem Capture.commitRecord_wf {c : Capture} (n : Nest) (o : StepOutcome) (h : Memory.wf 0 c.words = true) :
    Memory.wf 0 (c.commitRecord n o).words = true := by
  unfold Capture.commitRecord
  split
  · exact h
  · simpa using writeWord_wf _ _ _ h

/-- A change of records that keeps every size keeps the ring's account. -/
theorem Capture.ok_change {c : Capture} (n : Nest) (f : CaptureRecord → CaptureRecord) (hf : ∀ r, (f r).length = r.length)
    (h : c.ok) : (c.change n f).ok := by
  unfold Capture.change
  split
  · exact h
  · refine ⟨?_, h.2⟩
    show c.occupied = _
    rw [h.1, List.map_map]
    congr 1
    apply List.map_congr_left
    intro r _
    simp only [Function.comp, CaptureRecord.size]
    split
    · rw [hf]
    · rfl

theorem Capture.ok_voidRecord {c : Capture} (n : Nest) (h : c.ok) : (c.voidRecord n).ok :=
  Capture.ok_change n (fun r => { r with state := .void }) (fun _ => rfl) h

theorem Capture.ok_writeSample {c : Capture} (n : Nest) (x : Sample) (h : c.ok) : (c.writeSample n x).ok := by
  unfold Capture.writeSample
  split
  · exact h
  · exact Capture.ok_change n (fun r => { r with fill := r.fill + 1 }) (fun _ => rfl) h

theorem Capture.ok_commitRecord {c : Capture} (n : Nest) (o : StepOutcome) (h : c.ok) : (c.commitRecord n o).ok := by
  unfold Capture.commitRecord
  split
  · exact h
  · rename_i r _
    exact Capture.ok_change (c := c.writeWord r 3 _) n (fun r => { r with state := .committed }) (fun _ => rfl) h

/-- The words of a ring's records are those of the VOID ones at its head and those behind them. -/
theorem Capture.size_split (rs : List CaptureRecord) :
    (rs.map CaptureRecord.size).sum =
      ((rs.takeWhile CaptureRecord.isVoid).map CaptureRecord.size).sum +
        ((rs.dropWhile CaptureRecord.isVoid).map CaptureRecord.size).sum := by
  conv => lhs; rw [← List.takeWhile_append_dropWhile (p := CaptureRecord.isVoid) (l := rs)]
  rw [List.map_append, List.sum_append]

theorem Capture.ok_reclaim {c : Capture} (h : c.ok) : c.reclaim.ok := by
  have e := Capture.size_split c.records
  have h1 := h.1
  have h2 := h.2
  refine ⟨?_, ?_⟩ <;> simp only [Capture.reclaim] <;> omega

theorem Capture.ok_reserve {c : Capture} (n : Nest) (carrier : Word) (i : Nat) (st : Step) (first : Word)
    (hs : ¬ c.freeWords < st.window + 4) (h : c.ok) : (c.reserve n carrier i st first).ok := by
  have h1 := h.1
  have h2 := h.2
  unfold Capture.freeWords at hs
  refine ⟨?_, ?_⟩
  · show c.occupied + (st.window + 4) = _
    simp [Capture.reserve, Capture.writeHeader, Capture.writeWord, CaptureRecord.size, h1]
  · show c.occupied + (st.window + 4) ≤ _
    omega

theorem Capture.ok_releaseHead {c : Capture} (h : c.ok) : c.releaseHead.ok := by
  have h1 := h.1
  have h2 := h.2
  unfold Capture.releaseHead
  split
  · exact h
  · rename_i r rest hr
    rw [hr, List.map_cons, List.sum_cons] at h1
    refine ⟨?_, ?_⟩ <;> simp only <;> omega

theorem Capture.ok_setHeadCursor {c : Capture} (k : Nat) (h : c.ok) : (c.setHeadCursor k).ok := by
  unfold Capture.setHeadCursor
  split
  · exact h
  · rename_i r rest hr
    refine ⟨?_, h.2⟩
    show c.occupied = _
    rw [h.1, hr]; rfl

theorem moves_voidCapture (n : Nest) : Moves s (s.voidCapture n) :=
  moves_capture s _ (by simp) (Capture.ok_voidRecord n)

theorem moves_captureSample (n : Nest) (x : Sample) : Moves s (s.captureSample n x) :=
  moves_capture s _ (Capture.writeSample_wf n x) (Capture.ok_writeSample n x)

theorem moves_reserveCapture (n : Nest) : Moves s (s.reserveCapture n) := by
  unfold State.reserveCapture
  split
  · split
    · exact Moves.refl s
    · dsimp only
      split
      · exact Moves.refl s
      · split
        · exact Moves.after (moves_setRecord _ _ _) (moves_capture s _ (fun h => h) Capture.ok_reclaim)
        · rename_i hs
          exact moves_capture s _ (Capture.reserve_wf _ _ _ _ _)
            (fun h => Capture.ok_reserve _ _ _ _ _ hs (Capture.ok_reclaim h))
  · exact Moves.refl s

theorem moves_decideCapture (n : Nest) (o : StepOutcome) : Moves s (s.decideCapture n o) := by
  unfold State.decideCapture
  split
  · split
    · exact Moves.after (moves_setRecord _ _ _) (moves_capture s _ (Capture.commitRecord_wf n o)
        (Capture.ok_commitRecord n o))
    · exact moves_voidCapture s n
  · exact Moves.refl s

/-! ### Lanes -/

@[simp] theorem assignLanes_length (n : Nest) (p : List (Nat × LaneRole)) (ls : List (Option Assignment)) :
    (assignLanes n p ls).length = ls.length := by
  fun_induction assignLanes n p ls <;> simp_all

@[simp] theorem Analyser.mapLanes_length (a : Analyser) (n : Nest) (f : Assignment → Assignment) :
    (a.mapLanes n f).lanes.length = a.lanes.length := by simp [Analyser.mapLanes]

@[simp] theorem Analyser.release_length (a : Analyser) (n : Nest) : (a.release n).lanes.length = a.lanes.length := by
  simp [Analyser.release, Analyser.setOverload, Analyser.setEvaluation]

@[simp] theorem Analyser.startWindow_length (a : Analyser) (n : Nest) :
    (a.startWindow n).lanes.length = a.lanes.length := by simp [Analyser.startWindow, Analyser.setOverload]

@[simp] theorem Analyser.hold_length (a : Analyser) (n : Nest) : (a.hold n).lanes.length = a.lanes.length := by
  simp [Analyser.hold]

@[simp] theorem Analyser.startEvaluation_length (a : Analyser) (n : Nest) :
    (a.startEvaluation n).lanes.length = a.lanes.length := by simp [Analyser.startEvaluation, Analyser.setEvaluation]

@[simp] theorem Analyser.windowFrame_length (a : Analyser) (n : Nest) (x : Sample) (ph : Word) (o : Bool) :
    (a.windowFrame n x ph o).lanes.length = a.lanes.length := by simp [Analyser.windowFrame, Analyser.setOverload]

theorem moves_enterWindow (n : Nest) : Moves s (s.enterWindow n) := by
  unfold State.enterWindow
  exact Moves.after (moves_reserveCapture _ n) (Moves.after (moves_modAnalyser _ _ (by simp)) (moves_modNest s n _
    (fun _ h => h)))

theorem moves_grant (r : LaneRequest) (rest : List LaneRequest) : Moves s (s.grant r rest) := by
  unfold State.grant
  dsimp only
  split
  · exact Moves.after (moves_modNest _ _ _ (fun _ h => h)) (moves_modAnalyser s _ (by simp [Analyser.setOverload]))
  · exact Moves.after (moves_enterWindow _ _) (moves_modAnalyser s _ (by simp [Analyser.setOverload]))

theorem moves_grantHeads (fuel : Nat) : Moves s (s.grantHeads fuel) := by
  induction fuel generalizing s with
  | zero => exact Moves.refl s
  | succ fuel ih =>
    unfold State.grantHeads
    split
    · exact Moves.refl s
    · split
      · exact Moves.after (ih _) (moves_grant s _ _)
      · exact Moves.refl s

theorem moves_grantCheck : Moves s s.grantCheck := moves_grantHeads s _

theorem moves_requestLanes (n : Nest) : Moves s (s.requestLanes n) := by
  unfold State.requestLanes
  split
  · exact Moves.refl s
  · exact Moves.after (moves_grantCheck _) (Moves.after (moves_modAnalyser _ _ rfl) (Moves.after (moves_setDetector _
      n _) (moves_modNest s n _ (fun _ h => h))))

theorem moves_releaseLanes (n : Nest) : Moves s (s.releaseLanes n) :=
  Moves.after (moves_grantCheck _) (moves_modAnalyser s _ (by simp))

theorem moves_withdraw (n : Nest) : Moves s (s.withdraw n) :=
  Moves.after (moves_grantCheck _) (moves_modAnalyser s _ rfl)

theorem moves_backToGuardWait (n : Nest) : Moves s (s.backToGuardWait n) :=
  Moves.after (moves_voidCapture _ n) (Moves.after (moves_modAnalyser _ _ (by simp)) (moves_modNest s n _ (fun _ h => h)))

theorem moves_giveBack (n : Nest) : Moves s (s.giveBack n) := by
  unfold State.giveBack
  split
  · exact moves_withdraw s n
  · exact moves_releaseLanes s n
  · exact Moves.after (moves_voidCapture _ n) (moves_releaseLanes s n)
  · exact Moves.after (moves_voidCapture _ n) (moves_releaseLanes s n)
  all_goals exact Moves.refl s

theorem moves_windowComplete (n : Nest) : Moves s (s.windowComplete n) :=
  Moves.after (moves_modAnalyser _ _ (by simp)) (moves_modNest s n _ (fun _ h => h))

/-! ### Steps -/

theorem moves_foldResult (r : StepResult) : Moves s (s.foldResult r) :=
  Moves.after (moves_notice _ _) (moves_setRecord s _ _)

theorem moves_foldCondition (n : Nest) : Moves s (s.foldCondition n) := by
  unfold State.foldCondition
  split
  · exact Moves.refl s
  · exact moves_setRecord s _ _

theorem moves_foldUnsettled (n : Nest) : Moves s (s.foldUnsettled n) := by
  unfold State.foldUnsettled
  split
  · exact moves_foldResult s _
  · exact Moves.refl s

theorem moves_unsettle (n : Nest) : Moves s (s.unsettle n) := Moves.after (moves_setDetector _ n _) (moves_foldUnsettled s n)

theorem moves_loadStep (n : Nest) : Moves s (s.loadStep n) := by
  unfold State.loadStep
  split
  · exact Moves.refl s
  · exact moves_modNest s n _ (fun _ h => h)

theorem moves_openGap (n : Nest) (st : Step) : Moves s (s.openGap n st) := by
  unfold State.openGap
  dsimp only
  split
  · exact Moves.after (moves_setTone _ n _) (moves_setNest s n _ (fun h => h))
  · split
    · exact Moves.after (moves_setTone _ n _) (moves_setNest s n _ (fun h => h))
    · exact Moves.after (moves_setTone _ n _) (moves_setNest s n _ (fun h => h))

theorem moves_enterStep (n : Nest) (st : Step) : Moves s (s.enterStep n st) := by
  unfold State.enterStep
  split
  · exact Moves.after (moves_setDetector _ n _) (moves_modNest s n _ (fun _ h => h))
  · exact Moves.after (moves_modTone _ n _) (moves_modNest s n _ (fun _ h => h))

theorem moves_nextIndex (n : Nest) : Moves s (s.nextIndex n) := moves_modNest s n _ (fun _ h => h)

theorem moves_runSteps (fuel : Nat) (n : Nest) : Moves s (State.runSteps fuel n s).1 := by
  induction fuel generalizing s with
  | zero => exact Moves.refl s
  | succ fuel ih =>
    unfold State.runSteps
    dsimp only
    split
    · exact moves_loadStep s n
    · rename_i st _
      split
      · exact Moves.after (moves_openGap _ n _) (moves_loadStep s n)
      · have h := Moves.after (moves_enterStep ((s.loadStep n).modTone n fun t => t.directStart st) n st)
          (Moves.after (moves_modTone _ n _) (moves_loadStep s n))
        split
        · exact h
        · exact Moves.after (moves_requestLanes _ n) h
        · split
          · exact Moves.after (moves_unsettle _ n) h
          · exact Moves.after (ih _) (Moves.after (moves_nextIndex _ n) (Moves.after (moves_unsettle _ n) h))

theorem moves_finishStep (n : Nest) (failed : Bool) : Moves s (s.finishStep n failed).1 := by
  unfold State.finishStep
  split
  · exact Moves.refl s
  · exact Moves.after (moves_runSteps _ _ n) (moves_nextIndex s n)

theorem moves_testSettle (n : Nest) : Moves s (s.testSettle n).1 := by
  unfold State.testSettle
  split
  · exact Moves.refl s
  · exact moves_requestLanes s n
  · exact Moves.after (moves_finishStep _ n true) (moves_unsettle s n)

theorem moves_gapPhaseEnd (n : Nest) : Moves s (s.gapPhaseEnd n).1 := by
  unfold State.gapPhaseEnd
  split
  · dsimp only; exact moves_modNest s n _ (fun _ h => h)
  · dsimp only; exact moves_modNest s n _ (fun _ h => h)
  · exact Moves.after (moves_testSettle _ n) (moves_enterStep s n _)
  · exact Moves.refl s

theorem moves_settleBlockEnd (n : Nest) : Moves s (s.settleBlockEnd n) := by
  unfold State.settleBlockEnd
  exact Moves.after (moves_modNest _ n _ (fun _ h => h)) (moves_setDetector s n _)

theorem moves_burstPhaseEnd (n : Nest) : Moves s (s.burstPhaseEnd n).1 := by
  unfold State.burstPhaseEnd
  split
  · exact Moves.refl s
  · dsimp only
    split
    · exact Moves.after (moves_finishStep _ n false) (Moves.after (moves_foldCondition _ n) (moves_setTone s n _))
    · exact moves_setTone s n _

theorem moves_spoil (n : Nest) (c : UnitClass) : Moves s (s.spoil n c).1 := by
  have h := (moves_releaseLanes s n).trans (moves_voidCapture _ n)
  unfold State.spoil
  dsimp only
  split
  · rename_i hr
    refine Moves.after (Moves.after (moves_requestLanes _ n) (?_)) (h)
    exact
      { moves_modNest ((s.releaseLanes n).voidCapture n) n (fun q => q) (fun _ h => h) with
        retries := by
          intro hs m
          by_cases hm : m = n
          · subst hm; simp only [State.nest_modNest]; exact hr
          · rw [State.nest_modNest_ne _ hm]; exact hs m }
  · exact h

theorem moves_completeEvaluation (n : Nest) : Moves s (s.completeEvaluation n).1 := by
  unfold State.completeEvaluation
  split
  · exact Moves.after (moves_finishStep _ n _) (Moves.after (moves_decideCapture _ n _) (Moves.after
      (moves_releaseLanes _ n) (moves_foldResult s _)))
  · exact Moves.refl s

/-! ### The yield block -/

theorem passesIn_append (a b : List Bool) : passesIn (a ++ b) = passesIn a + passesIn b := by
  simp [passesIn, List.countP_append]

/-- Trimming keeps the pass count right and brings the window to its length. -/
theorem Yield.trim_ok (y : Yield) (w : Nat) (h : y.passCount = passesIn y.window) :
    (y.trim w).window.length ≤ w ∧ (y.trim w).passCount = passesIn (y.trim w).window := by
  refine ⟨by simp only [Yield.trim, List.length_drop]; omega, ?_⟩
  have hsplit := passesIn_append (y.window.take (y.window.length - w)) (y.window.drop (y.window.length - w))
  rw [List.take_append_drop] at hsplit
  simp only [Yield.trim]
  omega

@[simp] theorem Yield.trim_windowLength (y : Yield) (w : Nat) : (y.trim w).windowLength = y.windowLength := rfl

theorem Yield.join_ok (y : Yield) (pass : Bool) (h : y.ok) : (y.join pass).ok := by
  have := Yield.trim_ok { y with window := y.window ++ [pass], passCount := y.passCount + pass.toNat } y.windowLength
    (by simp only [passesIn_append, h.2]; cases pass <;> simp [passesIn])
  exact this

theorem Yield.takeVerdict_ok (y : Yield) (c : UnitClass) (h : y.ok) : (y.takeVerdict c).ok := by
  unfold Yield.takeVerdict
  split
  · exact h
  · exact Yield.join_ok y _ h

theorem moves_evaluateHold (n : Nest) (id : Nat) (c : UnitClass) : Moves s (s.evaluateHold n id c) := by
  unfold State.evaluateHold
  split
  · exact Moves.after (moves_notice _ _) (moves_yield s _ (fun h => h))
  · exact Moves.refl s

theorem moves_evaluateQuarantine (n : Nest) (id : Nat) (carrier : Word) (c : UnitClass) :
    Moves s (s.evaluateQuarantine n id carrier c) := by
  unfold State.evaluateQuarantine
  split
  · exact Moves.after (moves_notice _ _) (moves_yield s _ (fun h => h))
  · exact Moves.refl s

theorem moves_yieldVerdict (n : Nest) (id : Nat) (carrier : Word) (c : UnitClass) :
    Moves s (s.yieldVerdict n id carrier c) := by
  unfold State.yieldVerdict
  dsimp only
  refine Moves.after (moves_evaluateQuarantine _ n id carrier c) (Moves.after (moves_yield _ _ ?_)
    (Moves.after (moves_evaluateHold _ n id c) (moves_yield s _ ?_)))
  · exact fun h => h
  · exact fun h => Yield.takeVerdict_ok _ c h

/-! ### Verdicts and endings -/

theorem moves_recordVerdict (n : Nest) (c : Option UnitClass) : Moves s (s.recordVerdict n c) := by
  unfold State.recordVerdict
  split
  · exact Moves.refl s
  · exact Moves.after (moves_yieldVerdict _ n _ _ _) (Moves.after (moves_notice _ _) (moves_setRecord s _ _))

theorem moves_recordAborted (n : Nest) : Moves s (s.recordAborted n) := by
  unfold State.recordAborted
  split
  · exact Moves.refl s
  · exact Moves.after (moves_setRecord _ _ _) (Moves.after (moves_withCounts _ _) (Moves.after (moves_notice _ _)
      (moves_setRecord s _ _)))

theorem moves_discard (id : Nat) (b : Bool) : Moves s (s.discard id b) :=
  Moves.after (moves_setRecord _ _ _) (Moves.after (moves_withCounts _ _) (moves_notice s _))

theorem moves_retire (id : Nat) (o : LabelOutcome) : Moves s (s.retire id o) :=
  Moves.after (moves_setRecord _ _ _) (Moves.after (moves_notice _ _) (Moves.after (moves_withCounts _ _) (moves_setRecord s _ _)))

theorem moves_lowerUse (n : Nest) : Moves s (s.lowerUse n) := by
  unfold State.lowerUse
  split
  · exact Moves.refl s
  · exact { Moves.refl s with uses := by simp }

theorem moves_verdict (n : Nest) (e : Ending) : Moves s (s.verdict n e) := by
  unfold State.verdict
  exact Moves.after (moves_recordVerdict _ n _) (Moves.after (moves_modTone _ n _) (Moves.after (moves_setDetector _
    n _) (Moves.after (moves_modNest _ n _ (fun _ h => h)) (Moves.after (moves_lowerUse _ n) (moves_modNest s n _
    (fun _ h => h))))))

theorem moves_deliver (n : Nest) (e : Option Ending) : Moves s (s.deliver n e) := by
  cases e
  · exact Moves.refl s
  · exact moves_verdict s n _

theorem moves_withVerdict (n : Nest) {r : State × Option Ending} (h : Moves s r.1) : Moves s (State.withVerdict n r) :=
  h.trans (moves_deliver _ n _)

theorem moves_endRun (n : Nest) (c : UnitClass) : Moves s (s.endRun n c) :=
  Moves.after (moves_verdict _ n _) (moves_giveBack s n)

theorem moves_expire (n : Nest) : Moves s (s.expire n) := by
  unfold State.expire
  split
  · exact moves_endRun s n _
  · exact Moves.refl s

theorem moves_emptyNest (n : Nest) : Moves s (s.emptyNest n) :=
  Moves.after (moves_modTone _ n _) (moves_modNest s n _ (fun _ h => h))

theorem moves_abortRunning (n : Nest) : Moves s (s.abortRunning n) := by
  unfold State.abortRunning
  exact Moves.after (moves_emptyNest _ n) (Moves.after (moves_recordAborted _ n) (Moves.after (moves_setDetector _ n
    _) (Moves.after (moves_lowerUse _ n) (Moves.after (moves_modNest _ n _ (fun _ h => h)) (moves_giveBack s n)))))

theorem moves_discardJudged (n : Nest) (b : Bool) : Moves s (s.discardJudged n b) := by
  unfold State.discardJudged
  split
  · exact Moves.refl s
  · exact Moves.after (moves_emptyNest _ n) (moves_discard s _ b)

theorem moves_abortIfRunning (n : Nest) : Moves s (State.abortIfRunning n s) := by
  unfold State.abortIfRunning
  split
  · exact moves_abortRunning s n
  · exact Moves.refl s

/-- Something done for the four nests in order. -/
theorem moves_inNestOrder (f : Nest → State → State) (h : ∀ n s, Moves s (f n s)) : Moves s (inNestOrder f s) :=
  Moves.after (h _ _) (Moves.after (h _ _) (Moves.after (h _ _) (h _ _)))

theorem moves_stopAll : Moves s s.stopAll := moves_inNestOrder s _ (fun n s => moves_abortIfRunning s n)

theorem moves_restartNest (n : Nest) : Moves s (State.restartNest n s) := by
  unfold State.restartNest
  refine Moves.after (Moves.after (moves_modTone _ n _) (moves_setNest _ n _ (fun _ => Nat.le_refl _))) (?_)
  split
  · exact moves_abortRunning s n
  · split
    · exact moves_discardJudged s n true
    · split
      · exact moves_emptyStream s n
      · exact Moves.refl s

theorem moves_endForLink (n : Nest) : Moves s (State.endForLink n s) := by
  unfold State.endForLink
  split
  · exact moves_endRun s n _
  · exact Moves.refl s

/-- Something done to a list one after the other. -/
theorem moves_foldl {β : Type} (f : State → β → State) (xs : List β) (h : ∀ s b, Moves s (f s b)) :
    Moves s (xs.foldl f s) := by
  induction xs generalizing s with
  | nil => exact Moves.refl s
  | cons x xs ih => exact (h s x).trans (ih _)

/-! ### Admission -/

theorem moves_openFirstGap (n : Nest) : Moves s (s.openFirstGap n) := by
  unfold State.openFirstGap
  dsimp only
  split
  · exact moves_loadStep s n
  · exact Moves.after (moves_openGap _ n _) (moves_loadStep s n)

theorem moves_uses (u : List Nat) (h : u.length = s.recipe.useCount.length) :
    Moves s { s with recipe := { s.recipe with useCount := u } } := { Moves.refl s with uses := h }

theorem moves_admit (n : Nest) (id : Nat) (c : Word) (p : Nat) (f : ProgramFields) : Moves s (s.seat n id c p f) := by
  unfold State.seat
  dsimp only
  refine Moves.after (moves_openFirstGap _ n) (Moves.after (moves_modNest _ n _ ?_) (Moves.after (moves_uses _ _ ?_)
    (moves_setRecord s id _)))
  · exact fun _ _ => Nat.zero_le _
  · simp

/-! ### Labels -/

theorem moves_fillSlot (i : SlotId) (id : Nat) (rest : List Nat) : Moves s (s.fillSlot i id rest) :=
  Moves.after (moves_marking _ _) (Moves.after (moves_marking _ _) (moves_setRecord s id _))

theorem moves_fillSlots (fuel : Nat) : Moves s (s.fillSlots fuel) := by
  induction fuel generalizing s with
  | zero => exact Moves.refl s
  | succ fuel ih =>
    unfold State.fillSlots
    split
    · exact Moves.after (ih _) (moves_fillSlot s _ _ _)
    · exact Moves.refl s

theorem moves_fillCheck : Moves s s.fillCheck := moves_fillSlots s 2

theorem moves_enqueueLabel (id : Nat) : Moves s (s.enqueueLabel id) :=
  Moves.after (moves_fillCheck _) (Moves.after (moves_marking _ _) (moves_setRecord s id _))

theorem moves_retireSlot (i : SlotId) (o : LabelOutcome) : Moves s (s.retireSlot i o) := by
  unfold State.retireSlot
  refine Moves.after (Moves.after (moves_fillCheck _) (moves_marking _ _)) (?_)
  split
  · exact moves_retire s _ o
  · exact Moves.refl s

theorem moves_ackExpired (i : SlotId) : Moves s (s.ackExpired i) := by
  unfold State.ackExpired
  split
  · exact moves_retireSlot s i _
  · exact Moves.refl s

theorem moves_ackFrame (i : SlotId) : Moves s (s.ackFrame i) := Moves.after (moves_ackExpired _ i) (moves_marking s _)

theorem moves_completeReply (b : Bool) (i : SlotId) : Moves s (s.completeReply b i) := by
  unfold State.completeReply
  split
  · exact moves_retireSlot s i _
  · exact moves_marking s _

theorem moves_assembleReply (c : Byte) : Moves s (s.assembleReply c) := by
  unfold State.assembleReply
  have e : Moves s s.countCharError := moves_marking s _
  split
  · split
    · exact moves_marking s _
    · split
      · exact moves_marking s _
      · exact e
  · split
    · exact moves_marking s _
    · split
      · exact moves_marking s _
      · exact Moves.after (moves_marking _ _) (e)
  · split
    · exact Moves.after (moves_completeReply _ _ _) (moves_marking s _)
    · split
      · exact Moves.after (moves_marking _ _) (e)
      · split
        · exact Moves.after (moves_marking _ _) (e)
        · exact Moves.after (moves_marking _ _) (e)

theorem moves_releaseUnit (n : Nest) (id : Nat) (b : Bool) : Moves s (s.releaseUnit n id b) := by
  unfold State.releaseUnit
  refine Moves.after (moves_emptyNest _ n) (?_)
  split
  · exact moves_enqueueLabel s id
  · exact moves_retire s id _

theorem moves_restartMarking : Moves s s.restartMarking := by
  unfold State.restartMarking State.discardLabels
  exact Moves.after (moves_spend _) (Moves.after (moves_marking _ _) (moves_foldl s _ _ (fun s id => moves_discard s id true)))

theorem moves_restart : Moves s s.restart := by
  unfold State.restart
  exact Moves.after (moves_capture _ _ (fun h => h) (fun _ => ⟨rfl, Nat.zero_le _⟩)) (Moves.after (moves_restartMarking _) (moves_inNestOrder s _
    (fun n s => moves_restartNest s n)))

/-! ### The guard -/

theorem moves_becomeQuiet (c : GuardCauses) : Moves s (s.becomeQuiet c) := by
  unfold State.becomeQuiet
  exact Moves.after (moves_notice _ _) (Moves.after (moves_foldl _ _ _ (fun s n => moves_enterWindow s n))
    (moves_guard s _))

theorem moves_guardHoldEnd : Moves s s.guardHoldEnd := by
  unfold State.guardHoldEnd
  split
  · exact moves_becomeQuiet s _
  · exact Moves.refl s

theorem moves_setGuard (x : GuardSettings) : Moves s (s.setGuard x) := by
  unfold State.setGuard
  dsimp only
  split
  · exact moves_guard s _
  · split
    · exact Moves.after (moves_spend _) (Moves.after (moves_becomeQuiet _ _) (moves_guard s _))
    · split
      · exact moves_guard s _
      · exact moves_guard s _

theorem Turn.run_moves (t : Turn) (n : Nest) (f : State → State × Option Ending) (h : ∀ s, Moves s (f s).1) :
    Moves t.state (t.run n f).state := h t.state

theorem moves_entryAt (t : Turn) (n : Nest) : Moves t.state (t.entryAt n).state := by
  unfold Turn.entryAt
  dsimp only
  split
  · exact Moves.refl _
  · split
    · exact Moves.refl _
    · split
      · split
        · exact moves_backToGuardWait _ n
        · exact t.run_moves n _ (fun s => moves_spoil s n _)
      · split
        · exact t.run_moves n _ (fun s => moves_spoil s n _)
        · exact Moves.refl _
      · exact Moves.refl _

theorem moves_entries (t : Turn) (ns : List Nest) : Moves t.state (ns.foldl Turn.entryAt t).state := by
  induction ns generalizing t with
  | nil => exact Moves.refl _
  | cons n ns ih => exact (moves_entryAt t n).trans (ih _)

theorem moves_enterLoud (t : Turn) (c : GuardCauses) (l : Option Int) : Moves t.state (t.enterLoud c l).state := by
  unfold Turn.enterLoud
  exact Moves.after (moves_entries _ _) (moves_guard t.state _)

theorem moves_judgeGuard (t : Turn) (l : Option Int) : Moves t.state (t.judgeGuard l).state := by
  unfold Turn.judgeGuard
  dsimp only
  split
  · exact Moves.refl _
  · split
    · split
      · exact moves_guard _ _
      · exact moves_enterLoud t _ _
    · split
      · exact Moves.after (moves_guardHoldEnd _) (moves_guard _ _)
      · exact Moves.refl _

theorem moves_guardBlockEnd (t : Turn) : Moves t.state t.guardBlockEnd.state :=
  Moves.after (moves_judgeGuard _ _) (moves_guard t.state _)

theorem moves_guardFrame (t : Turn) : Moves t.state t.guardFrame.state := by
  unfold Turn.guardFrame
  dsimp only
  split
  · exact Moves.after (moves_guardBlockEnd _) (moves_guard t.state _)
  · exact Moves.after (moves_judgeGuard _ _) (moves_guard t.state _)

theorem moves_finish (t : Turn) : Moves t.state t.finish := by
  have h : Moves t.state (inNestOrder (fun n s => t.judge n s) t.state) := by
    apply moves_inNestOrder
    intro n s
    unfold Turn.judge
    split
    · exact moves_verdict s n _
    · exact moves_expire s n
  unfold Turn.finish
  dsimp only
  split
  · exact h
  · exact Moves.after (moves_notice _ _) (h)

/-! ### One frame for a nest -/

theorem moves_gapFrame (n : Nest) : Moves s (s.gapFrame n).1 := by
  unfold State.gapFrame
  dsimp only
  split
  · exact Moves.after (moves_gapPhaseEnd _ n) (moves_modNest s n _ (fun _ h => h))
  · dsimp only; exact moves_modNest s n _ (fun _ h => h)

theorem moves_settleFrame (n : Nest) : Moves s (s.settleFrame n).1 := by
  unfold State.settleFrame
  dsimp only
  split
  · exact Moves.after (moves_testSettle _ n) (Moves.after (moves_settleBlockEnd _ n)
      (Moves.after (moves_setDetector _ n _) (moves_modNest s n _ (fun _ h => h))))
  · exact Moves.after (moves_testSettle _ n)
      (Moves.after (moves_setDetector _ n _) (moves_modNest s n _ (fun _ h => h)))

theorem moves_conditionFrame (n : Nest) (w : Bool) : Moves s (s.conditionFrame n w).1 := by
  unfold State.conditionFrame
  dsimp only
  split
  · split
    · exact Moves.after (moves_burstPhaseEnd _ n) (moves_modTone s n _)
    · exact moves_modTone s n _
  · exact Moves.refl s

theorem moves_countWindowFrame (n : Nest) (ph : Word) : Moves s (s.countWindowFrame n ph) :=
  Moves.after (moves_captureSample _ n _) (Moves.after (moves_modAnalyser _ _ (by simp)) (moves_modNest s n _ (fun _ h => h)))

theorem moves_timeOut (n : Nest) : Moves s (s.timeOut n).1 := moves_giveBack s n

theorem moves_windowCheck (n : Nest) : Moves s (s.windowCheck n) := by
  unfold State.windowCheck
  split
  · exact moves_windowComplete s n
  · exact Moves.refl s

theorem moves_windowFrame (n : Nest) (ph : Word) (e x : Bool) : Moves s (s.windowFrame n ph e x).1 := by
  have h := moves_countWindowFrame s n ph
  unfold State.windowFrame
  dsimp only
  split
  · split
    · exact Moves.after (moves_timeOut _ n) h
    · exact Moves.after (moves_spoil _ n _) h
  · split
    · exact Moves.after (moves_timeOut _ n) (Moves.after (moves_windowCheck _ n) h)
    · exact Moves.after (moves_windowCheck _ n) h

theorem moves_evaluateFrame (n : Nest) : Moves s (s.evaluateFrame n).1 := by
  unfold State.evaluateFrame
  split
  · exact Moves.refl s
  · dsimp only
    split
    · exact Moves.after (moves_completeEvaluation _ n) (moves_modAnalyser s _ rfl)
    · dsimp only; exact moves_modAnalyser s _ rfl

theorem moves_count (t : Turn) (n : Nest) (f : ToneFrame) : Moves t.state (t.count n f).state := by
  unfold Turn.count
  split
  · exact t.run_moves n _ (fun s => moves_gapFrame s n)
  · exact t.run_moves n _ (fun s => moves_settleFrame s n)
  · exact t.run_moves n _ (fun s => moves_conditionFrame s n _)
  · exact t.run_moves n _ (fun s => moves_windowFrame s n _ _ _)
  · exact t.run_moves n _ (fun s => moves_evaluateFrame s n)
  all_goals exact Moves.refl _

theorem moves_nestFrame (t : Turn) (n : Nest) (f : ToneFrame) : Moves t.state (t.nestFrame n f).state := by
  have h : Moves t.state (t.state.modNest n Sequencer.deadlineFrame) := by
    apply moves_modNest
    intro q hq
    unfold Sequencer.deadlineFrame
    split
    · exact hq
    · exact hq
  unfold Turn.nestFrame
  dsimp only
  split
  · exact Moves.after (moves_timeOut _ n) h
  · exact Moves.after (moves_count _ n f) h

/-- The guard and the nests taking one frame. -/
theorem moves_consumeFrame (f : PerNest ToneFrame) : Moves s (s.consumeFrame f) := by
  unfold State.consumeFrame
  refine Moves.after (moves_finish _) (?_)
  have h : ∀ (cs : List Consumer) (t : Turn), Moves t.state (cs.foldl (Turn.consume f) t).state := by
    intro cs
    induction cs with
    | nil => exact fun t => Moves.refl _
    | cons c cs ih =>
      intro t
      refine Moves.after (ih _) (?_)
      cases c
      · exact moves_guardFrame t
      · exact moves_nestFrame t _ _
  exact h s.consumers (Turn.start s false)

theorem moves_ackFrames : Moves s s.ackFrames := by
  unfold State.ackFrames
  split
  · exact Moves.after (moves_ackFrame _ .a) (moves_ackFrame s .b)
  · exact Moves.after (moves_ackFrame _ .b) (moves_ackFrame s .a)

theorem moves_consumeWithAcks (c : State → State) (h : ∀ s, Moves s (c s)) : Moves s (s.consumeWithAcks c) := by
  unfold State.consumeWithAcks
  split
  · exact Moves.after (h _) (moves_ackFrames s)
  · exact Moves.after (moves_ackFrames _) (h s)

/-- A frame produced in ACQUIRING. -/
theorem moves_frameAcquiring : Moves s s.frameAcquiring := by
  unfold State.frameAcquiring
  refine Moves.after (Moves.after (Moves.after (moves_spend _) (moves_consumeWithAcks _ _ ?_)) (moves_tones _ _))
    (moves_tones s _)
  intro s
  exact Moves.after (moves_finish _) (moves_guardFrame (Turn.start s true))

theorem moves_betweenFrames : Moves s s.betweenFrames := by
  unfold State.betweenFrames
  refine Moves.after (moves_spend _) (moves_foldl s _ _ ?_)
  intro s n
  unfold State.completeFree
  split
  · exact moves_withVerdict s n (moves_completeEvaluation s n)
  · exact Moves.refl s

end Sys2Proof.Machine
end

