-- ==== Sys2Proof/Laws/Commands.lean ====
section
/-! SUPPORT. What the taking of a command can do: one lemma for a command that is carried out, one for each of R200's
general refusals, one for a command that is not taken, and one that lists all cases. -/

namespace Sys2Proof.Machine

theorem Port.takeable_eq_some (p : Port) (cell : CommandCell) :
    p.takeable = some cell ↔ p.unit = .idle ∧ p.replies.length < 8 ∧ p.commands.head? = some cell := by
  unfold Port.takeable
  split
  · rename_i h; simp [h]
  · rename_i h
    constructor
    · intro h'; simp at h'
    · rintro ⟨h1, h2, -⟩; exact absurd ⟨h1, h2⟩ h

/-- A cell at the head of the queue of a unit that can take it. -/
theorem State.takes_takeable {s : State} {tag code : Byte} {ops : List Byte} {rest : List CommandCell}
    (h : s.takes tag code ops rest) : s.port.takeable = some ⟨tag, code :: ops⟩ :=
  (Port.takeable_eq_some _ _).2 ⟨h.2.1, h.2.2.1, by rw [h.2.2.2]; rfl⟩

theorem State.takes_pop {s : State} {tag code : Byte} {ops : List Byte} {rest : List CommandCell}
    (h : s.takes tag code ops rest) : s.popCommand = s.taken rest := by
  unfold State.popCommand State.taken; rw [h.2.2.2]; rfl

/-- A command whose operands have its length acts on the state with its cell gone, and its answer is replied (R200). -/
theorem takeCommand_takes {s : State} {tag code : Byte} {ops : List Byte} {rest : List CommandCell}
    (h : s.takes tag code ops rest) {fits : List Byte → Bool} (hf : fits ops = true)
    (act : List Byte → State → State × Answer) :
    takeCommand code fits act s =
      (act ops (s.taken rest)).1.answer ⟨tag, code :: ops⟩ (act ops (s.taken rest)).2 := by
  have hp : (s.taken rest).port.part ≠ .starting := by
    simp only [State.taken, h.1]; decide
  simp only [takeCommand, State.takes_takeable h, State.takes_pop h, carryOut, List.head?_cons, List.tail_cons, hf,
    if_true, if_neg hp]

/-- Operands of another length are refused RANGE (R200, check 3). -/
theorem takeCommand_wrongLength {s : State} {tag code : Byte} {ops : List Byte} {rest : List CommandCell}
    (h : s.takes tag code ops rest) {fits : List Byte → Bool} (hf : fits ops = false)
    (act : List Byte → State → State × Answer) :
    takeCommand code fits act s = (s.taken rest).refusal tag code .range [] := by
  have hp : (s.taken rest).port.part ≠ .starting := by
    simp only [State.taken, h.1]; decide
  simp only [takeCommand, State.takes_takeable h, State.takes_pop h, carryOut, List.head?_cons, List.tail_cons, hf,
    if_true, if_neg hp, Bool.false_eq_true, if_false]
  rfl

/-- While the part is STARTING every command is refused STARTING (R200, check 1). -/
theorem takeCommand_starting {s : State} {tag code : Byte} {ops : List Byte} {rest : List CommandCell}
    (hp : s.port.part = .starting) (hu : s.port.unit = .idle) (hr : s.port.replies.length < 8)
    (hc : s.port.commands = ⟨tag, code :: ops⟩ :: rest) (fits : List Byte → Bool)
    (act : List Byte → State → State × Answer) :
    takeCommand code fits act s = (s.taken rest).refusal tag code .starting [] := by
  have ht : s.port.takeable = some ⟨tag, code :: ops⟩ := (Port.takeable_eq_some _ _).2 ⟨hu, hr, by rw [hc]; rfl⟩
  have hpop : s.popCommand = s.taken rest := by unfold State.popCommand State.taken; rw [hc]; rfl
  have hq : (s.taken rest).port.part = .starting := hp
  simp only [takeCommand, ht, hpop, carryOut, List.head?_cons, if_true, if_pos hq]
  rfl

/-- Where the command unit can take nothing, nothing happens. -/
theorem takeCommand_idle {s : State} (h : s.port.takeable = none) (code : Byte) (fits : List Byte → Bool)
    (act : List Byte → State → State × Answer) : takeCommand code fits act s = s := by
  simp only [takeCommand, h]

/-- The head cell with the reply it gets, for any property of states that the taking of the cell keeps, that one more
reply keeps where fewer than 8 wait, and that the command's own rule keeps. -/
theorem takeCommand_keeps (P : State → Prop) {code : Byte} {fits : List Byte → Bool}
    {act : List Byte → State → State × Answer} {s : State} (hs : P s)
    (hstay : ∀ cell reason, s.port.takeable = some cell → P (s.popCommand.answer cell (.refused reason [])))
    (hact : ∀ cell, s.port.takeable = some cell →
      P ((act cell.payload.tail s.popCommand).1.answer cell (act cell.payload.tail s.popCommand).2)) :
    P (takeCommand code fits act s) := by
  unfold takeCommand
  split
  · exact hs
  · rename_i cell hcell
    split
    · unfold carryOut
      split
      · exact hstay cell _ hcell
      · split
        · exact hact cell hcell
        · exact hstay cell _ hcell
    · exact hs

end Sys2Proof.Machine
end

