-- ==== Sys2Proof/Laws/Holdings.lean ====
section
/-! SUPPORT. Who holds what: how each shared operation moves lanes, requests and records between the nests, the lane pool
and the label queue. The proofs about sound states cite these lemmas in place of unfolding the operations. -/

namespace Sys2Proof.Machine

/-! ### Grants -/

/-- A nest that waited for lanes has been granted them. -/
def Granted (q r : Sequencer) : Prop :=
  q.state = .waitLanes ∧ (r = { q with state := .guardWait } ∨ r = { q with state := .window, windowCount := 0 })

/-- As it was, or granted its lanes. -/
def GrantedOrSame (q r : Sequencer) : Prop := r = q ∨ Granted q r

theorem GrantedOrSame.refl (q : Sequencer) : GrantedOrSame q q := Or.inl rfl

theorem GrantedOrSame.trans {q r u : Sequencer} (h : GrantedOrSame q r) (k : GrantedOrSame r u) : GrantedOrSame q u := by
  rcases h with rfl | h
  · exact k
  · rcases k with rfl | k
    · exact Or.inr h
    · exfalso
      rcases h.2 with rfl | rfl <;> exact absurd k.1 (by simp)

theorem GrantedOrSame.record {q r : Sequencer} (h : GrantedOrSame q r) : r.record = q.record := by
  rcases h with rfl | ⟨-, rfl | rfl⟩ <;> rfl

/-- A nest not in WAIT_LANES stays as it is. -/
theorem GrantedOrSame.same {q r : Sequencer} (h : GrantedOrSame q r) (hq : q.state ≠ .waitLanes) : r = q := by
  rcases h with h | h
  · exact h
  · exact absurd h.1 hq

theorem GrantedOrSame.state {q r : Sequencer} (h : GrantedOrSame q r) :
    r.state = q.state ∨ (q.state = .waitLanes ∧ (r.state = .guardWait ∨ r.state = .window)) := by
  rcases h with rfl | ⟨h, rfl | rfl⟩
  · exact Or.inl rfl
  · exact Or.inr ⟨h, Or.inl rfl⟩
  · exact Or.inr ⟨h, Or.inr rfl⟩

theorem GrantedOrSame.holdsUnit {q r : Sequencer} (h : GrantedOrSame q r) : r.state.holdsUnit = q.state.holdsUnit := by
  rcases h.state with h | ⟨h, h' | h'⟩
  · rw [h]
  · rw [h, h']; rfl
  · rw [h, h']; rfl

/-! ### What an operation on one nest does elsewhere -/

/-- An operation on nest `n`: the other nests, the labels and the states of the records. -/
structure Acts (n : Nest) (s t : State) : Prop where
  others : ∀ m, m ≠ n → GrantedOrSame (s.nest m) (t.nest m)
  record : (t.nest n).record = (s.nest n).record
  marking : t.marking = s.marking
  states : ∀ id, (t.record id).state = (s.record id).state
  count : t.records.length = s.records.length
  lanes : ∀ m, m ≠ n → (s.nest m).state ≠ .waitLanes → t.analyser.lanesOf m = s.analyser.lanesOf m

theorem Acts.refl (n : Nest) (s : State) : Acts n s s := ⟨fun _ _ => .refl _, rfl, rfl, fun _ => rfl, rfl, fun _ _ _ => rfl⟩

theorem Acts.trans {n : Nest} {s t u : State} (h : Acts n s t) (k : Acts n t u) : Acts n s u :=
  ⟨fun m hm => (h.others m hm).trans (k.others m hm), k.record.trans h.record, k.marking.trans h.marking,
    fun id => (k.states id).trans (h.states id), k.count.trans h.count, fun m hm hw => by
      have e := (h.others m hm).same hw
      exact (k.lanes m hm (by rw [e]; exact hw)).trans (h.lanes m hm hw)⟩

theorem Acts.after {n : Nest} {s t u : State} (k : Acts n t u) (h : Acts n s t) : Acts n s u := h.trans k

variable (s : State)

theorem acts_modNest (n : Nest) (f : Sequencer → Sequencer) (h : (f (s.nest n)).record = (s.nest n).record) :
    Acts n s (s.modNest n f) :=
  { Acts.refl n s with
    others := fun m hm => by rw [State.nest_modNest_ne s hm]; exact .refl _
    record := by rw [State.nest_modNest]; exact h }

theorem acts_setNest (n : Nest) (q : Sequencer) (h : q.record = (s.nest n).record) : Acts n s (s.setNest n q) :=
  acts_modNest s n (fun _ => q) h

theorem acts_setTone (n m : Nest) (t : Tone) : Acts n s (s.setTone m t) := { Acts.refl n s with }
theorem acts_modTone (n m : Nest) (f : Tone → Tone) : Acts n s (s.modTone m f) := { Acts.refl n s with }
theorem acts_modAnalyser (n : Nest) (f : Analyser → Analyser)
    (h : ∀ m, m ≠ n → (f s.analyser).lanesOf m = s.analyser.lanesOf m) : Acts n s (s.modAnalyser f) :=
  { Acts.refl n s with lanes := fun m hm _ => h m hm }
theorem acts_setDetector (n m : Nest) (d : Detector) : Acts n s (s.setDetector m d) := { Acts.refl n s with }
theorem acts_notice (n : Nest) (x : Notice) : Acts n s (s.notice x) := { Acts.refl n s with }
theorem acts_capture (n : Nest) (c : Capture) : Acts n s { s with capture := c } := { Acts.refl n s with }
theorem acts_recipe (n : Nest) (r : Recipe) : Acts n s { s with recipe := r } := { Acts.refl n s with }
theorem acts_yield (n : Nest) (y : Yield) : Acts n s { s with yield := y } := { Acts.refl n s with }
theorem acts_spend (n : Nest) : Acts n s s.spend := { Acts.refl n s with }
theorem acts_guard (n : Nest) (g : Guard) : Acts n s { s with guard := g } := { Acts.refl n s with }
theorem acts_voidCapture (n m : Nest) : Acts n s (s.voidCapture m) := acts_capture s n _
theorem acts_captureSample (n m : Nest) (x : Sample) : Acts n s (s.captureSample m x) := acts_capture s n _

/-- A record replaced by one of the same state. -/
theorem acts_setRecord (n : Nest) (id : Nat) (u : UnitRecord) (h : u.state = (s.record id).state) :
    Acts n s (s.setRecord id u) :=
  { Acts.refl n s with
    count := by simp
    states := fun k => by
      by_cases hk : k = id
      · subst hk
        unfold State.setRecord State.record at *
        simp only [List.getD_eq_getElem?_getD, List.getElem?_set] at *
        split
        · split
          · exact h
          · rename_i hl; rw [List.getElem?_eq_none (by omega)]
        · rfl
      · rw [State.record_setRecord_ne s hk] }

theorem acts_reserveCapture (n m : Nest) : Acts n s (s.reserveCapture m) := by
  unfold State.reserveCapture
  split
  · split
    · exact Acts.refl n s
    · dsimp only
      split
      · exact Acts.refl n s
      · split
        · exact Acts.after (acts_setRecord _ n _ _ rfl) (acts_capture s n _)
        · exact acts_capture s n _
  · exact Acts.refl n s

theorem acts_decideCapture (n m : Nest) (o : StepOutcome) : Acts n s (s.decideCapture m o) := by
  unfold State.decideCapture
  split
  · split
    · exact Acts.after (acts_setRecord _ n _ _ rfl) (acts_capture s n _)
    · exact acts_voidCapture s n m
  · exact Acts.refl n s

theorem acts_foldResult (n : Nest) (r : StepResult) : Acts n s (s.foldResult r) :=
  Acts.after (acts_notice _ n _) (acts_setRecord s n _ _ rfl)

theorem acts_foldCondition (n m : Nest) : Acts n s (s.foldCondition m) := by
  unfold State.foldCondition
  split
  · exact Acts.refl n s
  · exact acts_setRecord s n _ _ rfl

theorem acts_foldUnsettled (n m : Nest) : Acts n s (s.foldUnsettled m) := by
  unfold State.foldUnsettled
  split
  · exact acts_foldResult s n _
  · exact Acts.refl n s

theorem acts_lowerUse (n m : Nest) : Acts n s (s.lowerUse m) := by
  unfold State.lowerUse
  split
  · exact Acts.refl n s
  · exact acts_recipe s n _

theorem acts_loadStep (n : Nest) : Acts n s (s.loadStep n) := by
  unfold State.loadStep
  split
  · exact Acts.refl n s
  · exact acts_modNest s n _ rfl

theorem acts_openGap (n : Nest) (st : Step) : Acts n s (s.openGap n st) := by
  unfold State.openGap
  dsimp only
  split
  · exact Acts.after (acts_setTone _ n _ _) (acts_setNest s n _ rfl)
  · split
    · exact Acts.after (acts_setTone _ n _ _) (acts_setNest s n _ rfl)
    · exact Acts.after (acts_setTone _ n _ _) (acts_setNest s n _ rfl)

theorem acts_enterStep (n : Nest) (st : Step) : Acts n s (s.enterStep n st) := by
  unfold State.enterStep
  split
  · exact Acts.after (acts_setDetector _ n _ _) (acts_modNest s n _ rfl)
  · exact Acts.after (acts_modTone _ n _ _) (acts_modNest s n _ rfl)

/-! ### The lane pool -/

/-- `poolOk`, but for one nest, which has neither a request nor lanes whatever its state. -/
structure PoolBut (x : Option Nest) (s : State) : Prop where
  requests : ∀ n, some n ≠ x → s.requests n = if (s.nest n).state = .waitLanes then 1 else 0
  lanes : ∀ n, some n ≠ x → s.analyser.lanesOf n ≠ 0 → (s.nest n).state.mayHoldLanes = true
  off : ∀ n, x = some n → s.requests n = 0 ∧ s.analyser.lanesOf n = 0
  sizes : ∀ r ∈ s.analyser.queue, r.size = r.plan.length

theorem poolBut_none : PoolBut none s ↔ s.poolOk := by
  constructor
  · intro h
    exact ⟨fun n => h.requests n (by simp), fun n => h.lanes n (by simp), h.sizes⟩
  · intro h
    exact ⟨fun n _ => h.1 n, fun n _ => h.2.1 n, fun _ h => by simp at h, h.2.2⟩

/-- What the pool's soundness is about. -/
theorem PoolBut.congr {x : Option Nest} {s t : State} (h : PoolBut x s) (hq : t.analyser.queue = s.analyser.queue)
    (hl : ∀ n, t.analyser.lanesOf n = s.analyser.lanesOf n)
    (hn : ∀ n, some n ≠ x → (t.nest n).state = (s.nest n).state) : PoolBut x t := by
  have hr : ∀ n, t.requests n = s.requests n := fun n => by unfold State.requests; rw [hq]
  refine ⟨fun n hx => ?_, fun n hx => ?_, fun n hx => ?_, ?_⟩
  · rw [hr, hn n hx]; exact h.requests n hx
  · rw [hl, hn n hx]; exact h.lanes n hx
  · rw [hr, hl]; exact h.off n hx
  · rw [hq]; exact h.sizes

/-- A nest with nothing may be in any state but WAIT_LANES. -/
theorem PoolBut.settle {n : Nest} {s : State} (h : PoolBut (some n) s) (hn : (s.nest n).state ≠ .waitLanes) :
    PoolBut none s := by
  refine ⟨fun m _ => ?_, fun m _ hm => ?_, fun _ h => by simp at h, h.sizes⟩
  · by_cases hmn : m = n
    · subst hmn; rw [(h.off m rfl).1, if_neg hn]
    · exact h.requests m (by simpa using hmn)
  · by_cases hmn : m = n
    · subst hmn; exact absurd (h.off m rfl).2 hm
    · exact h.lanes m (by simpa using hmn) hm

/-- A nest whose state may hold no lanes and waits for none has nothing. -/
theorem PoolBut.free {n : Nest} {s : State} (h : PoolBut none s) (hn : (s.nest n).state ≠ .waitLanes)
    (hl : (s.nest n).state.mayHoldLanes = false) : PoolBut (some n) s := by
  refine ⟨fun m _ => h.requests m (by simp), fun m _ => h.lanes m (by simp), fun m hm => ?_, h.sizes⟩
  cases hm
  refine ⟨by rw [h.requests n (by simp), if_neg hn], ?_⟩
  by_contra hne
  have := h.lanes n (by simp) hne
  rw [hl] at this
  cases this

theorem laneOf_map_ne {n m : Nest} (h : m ≠ n) (l : Option Assignment) (g : Option Assignment → Option Assignment)
    (hg : laneOf n l = true → laneOf m (g l) = false) :
    laneOf m (if laneOf n l = true then g l else l) = laneOf m l := by
  by_cases hl : laneOf n l = true
  · rw [if_pos hl, hg hl]
    cases l with
    | none => rfl
    | some a =>
      simp only [laneOf, Option.any_some, decide_eq_true_eq] at hl ⊢
      simp [hl, h.symm]
  · rw [if_neg hl]

theorem Analyser.lanesOf_mapLanes (a : Analyser) (n m : Nest) (f : Assignment → Assignment) (hf : ∀ x, (f x).nest = x.nest) :
    (a.mapLanes n f).lanesOf m = a.lanesOf m := by
  simp only [Analyser.lanesOf, Analyser.mapLanes, List.countP_map]
  congr 1
  funext l
  simp only [Function.comp]
  split
  · cases l with
    | none => rfl
    | some x => simp [laneOf, hf]
  · rfl

@[simp] theorem Analyser.lanesOf_startWindow (a : Analyser) (n m : Nest) : (a.startWindow n).lanesOf m = a.lanesOf m :=
  a.lanesOf_mapLanes n m _ (fun _ => rfl)
@[simp] theorem Analyser.lanesOf_hold (a : Analyser) (n m : Nest) : (a.hold n).lanesOf m = a.lanesOf m :=
  a.lanesOf_mapLanes n m _ (fun _ => rfl)
@[simp] theorem Analyser.lanesOf_startEvaluation (a : Analyser) (n m : Nest) :
    (a.startEvaluation n).lanesOf m = a.lanesOf m := a.lanesOf_mapLanes n m _ (fun _ => rfl)
@[simp] theorem Analyser.lanesOf_windowFrame (a : Analyser) (n m : Nest) (x : Sample) (p : Word) (o : Bool) :
    (a.windowFrame n x p o).lanesOf m = a.lanesOf m := a.lanesOf_mapLanes n m _ (fun _ => rfl)
@[simp] theorem Analyser.queue_startWindow (a : Analyser) (n : Nest) : (a.startWindow n).queue = a.queue := rfl
@[simp] theorem Analyser.queue_hold (a : Analyser) (n : Nest) : (a.hold n).queue = a.queue := rfl
@[simp] theorem Analyser.queue_startEvaluation (a : Analyser) (n : Nest) : (a.startEvaluation n).queue = a.queue := rfl
@[simp] theorem Analyser.queue_windowFrame (a : Analyser) (n : Nest) (x : Sample) (p : Word) (o : Bool) :
    (a.windowFrame n x p o).queue = a.queue := rfl

theorem Analyser.lanesOf_release (a : Analyser) (n m : Nest) :
    (a.release n).lanesOf m = if m = n then 0 else a.lanesOf m := by
  simp only [Analyser.lanesOf, Analyser.release, Analyser.setOverload, Analyser.setEvaluation, List.countP_map]
  split
  · rename_i h; subst h
    rw [List.countP_eq_zero]
    intro l _
    simp only [Function.comp]
    by_cases hl : laneOf m l = true
    · rw [if_pos hl]; simp [laneOf]
    · rw [if_neg hl]; exact hl
  · rename_i h
    congr 1
    funext l
    simp only [Function.comp]
    exact laneOf_map_ne h l (fun _ => none) (fun _ => rfl)

theorem lanesOf_assignLanes_ne {n m : Nest} (h : m ≠ n) (p : List (Nat × LaneRole)) (ls : List (Option Assignment)) :
    (assignLanes n p ls).countP (laneOf m) = ls.countP (laneOf m) := by
  fun_induction assignLanes n p ls with
  | case1 => rfl
  | case2 => rfl
  | case3 p ps x ls ih => simp [List.countP_cons, ih]
  | case4 p ps ls ih => simp [ih, laneOf, h.symm]

theorem reserveCapture_analyser (m : Nest) : (s.reserveCapture m).analyser = s.analyser := by
  unfold State.reserveCapture
  split
  · split
    · rfl
    · dsimp only
      split
      · rfl
      · split <;> rfl
  · rfl

theorem reserveCapture_nests (m : Nest) : (s.reserveCapture m).nests = s.nests := by
  unfold State.reserveCapture
  split
  · split
    · rfl
    · dsimp only
      split
      · rfl
      · split <;> rfl
  · rfl

theorem reserveCapture_nest (m n : Nest) : (s.reserveCapture m).nest n = s.nest n := by
  unfold State.nest; rw [reserveCapture_nests]

theorem enterWindow_analyser (n : Nest) : (s.enterWindow n).analyser = s.analyser.startWindow n := by
  unfold State.enterWindow; rw [reserveCapture_analyser]; rfl

theorem enterWindow_nest (n m : Nest) :
    (s.enterWindow n).nest m = if m = n then { s.nest n with state := .window, windowCount := 0 } else s.nest m := by
  unfold State.enterWindow; rw [reserveCapture_nest]
  split
  · rename_i h; subst h; simp
  · rename_i h; simp [State.nest_modNest_ne s h]

theorem acts_enterWindow (n : Nest) : Acts n s (s.enterWindow n) :=
  Acts.after (acts_reserveCapture _ n n) (Acts.after (acts_modAnalyser _ n _ (fun m _ => Analyser.lanesOf_startWindow _ n m))
    (acts_modNest s n _ rfl))

/-- What one grant does to its nest. -/
theorem grant_nest (r : LaneRequest) (rest : List LaneRequest) (m : Nest) :
    (s.grant r rest).nest m =
      if m = r.nest then
        (if (s.nest r.nest).guarded ∧ s.guard.loud then { s.nest r.nest with state := .guardWait }
          else { s.nest r.nest with state := .window, windowCount := 0 })
      else s.nest m := by
  unfold State.grant
  dsimp only
  split
  · rename_i hg
    have hg' : (s.nest r.nest).guarded = true ∧ s.guard.loud = true := hg
    by_cases hm : m = r.nest
    · subst hm; rw [if_pos rfl, if_pos hg', State.nest_modNest]; rfl
    · rw [if_neg hm, State.nest_modNest_ne _ hm]; rfl
  · rename_i hg
    have hg' : ¬ ((s.nest r.nest).guarded = true ∧ s.guard.loud = true) := hg
    rw [enterWindow_nest]
    by_cases hm : m = r.nest
    · rw [if_pos hm, if_pos hm, if_neg hg']; rfl
    · rw [if_neg hm, if_neg hm]; rfl

theorem acts_grant (r : LaneRequest) (rest : List LaneRequest) : Acts r.nest s (s.grant r rest) := by
  unfold State.grant
  dsimp only
  split
  · exact Acts.after (acts_modNest _ _ _ rfl) (acts_modAnalyser s _ _ (fun m hm => lanesOf_assignLanes_ne hm _ _))
  · exact Acts.after (acts_enterWindow _ _) (acts_modAnalyser s _ _ (fun m hm => lanesOf_assignLanes_ne hm _ _))

theorem grant_queue (r : LaneRequest) (rest : List LaneRequest) : (s.grant r rest).analyser.queue = rest := by
  unfold State.grant
  dsimp only
  split
  · rfl
  · rw [enterWindow_analyser]; rfl

theorem grant_lanesOf_ne (r : LaneRequest) (rest : List LaneRequest) {m : Nest} (h : m ≠ r.nest) :
    (s.grant r rest).analyser.lanesOf m = s.analyser.lanesOf m := by
  unfold State.grant
  dsimp only
  split
  · exact lanesOf_assignLanes_ne h _ _
  · rw [enterWindow_analyser, Analyser.lanesOf_startWindow]; exact lanesOf_assignLanes_ne h _ _

/-- A grant keeps the pool, and its nest was waiting. -/
theorem grant_pool {x : Option Nest} {s : State} {r : LaneRequest} {rest : List LaneRequest} (h : PoolBut x s)
    (hq : s.analyser.queue = r :: rest) :
    PoolBut x (s.grant r rest) ∧ (s.nest r.nest).state = .waitLanes ∧ some r.nest ≠ x := by
  have hreq : ∀ m, s.requests m = (s.grant r rest).requests m + if r.nest = m then 1 else 0 := by
    intro m
    unfold State.requests
    rw [grant_queue, hq, List.countP_cons]
    simp
  have hpos : 0 < s.requests r.nest := by have := hreq r.nest; simp at this; omega
  have hx : some r.nest ≠ x := by
    intro hx; have := (h.off r.nest hx.symm).1; omega
  have hw : (s.nest r.nest).state = .waitLanes := by
    by_contra hw
    have := h.requests r.nest hx
    rw [if_neg hw] at this; omega
  refine ⟨⟨fun m hm => ?_, fun m hm hl => ?_, fun m hm => ?_, ?_⟩, hw, hx⟩
  · have e := hreq m
    by_cases hmr : m = r.nest
    · subst hmr
      have e1 := h.requests r.nest hx
      rw [if_pos hw] at e1
      rw [grant_nest, if_pos rfl]
      rw [if_pos rfl] at e
      split <;> simp <;> omega
    · rw [grant_nest, if_neg hmr]
      rw [if_neg (fun h => hmr h.symm)] at e
      have := h.requests m hm
      omega
  · by_cases hmr : m = r.nest
    · subst hmr
      rw [grant_nest, if_pos rfl]; split <;> rfl
    · rw [grant_nest, if_neg hmr]
      rw [grant_lanesOf_ne s r rest hmr] at hl
      exact h.lanes m hm hl
  · have hmr : m ≠ r.nest := fun e => hx (by rw [hm, e])
    have e := hreq m
    rw [if_neg (fun h => hmr h.symm)] at e
    rw [grant_lanesOf_ne s r rest hmr]
    have := h.off m hm
    exact ⟨by omega, this.2⟩
  · rw [grant_queue]
    intro q hqm
    exact h.sizes q (by rw [hq]; exact List.mem_cons_of_mem _ hqm)

/-- A nest taken out of consideration is left alone by grants; the others wait on or are granted. -/
structure Grants (x : Option Nest) (s t : State) : Prop where
  pool : PoolBut x t
  nests : ∀ m, GrantedOrSame (s.nest m) (t.nest m)
  out : ∀ n, x = some n → t.nest n = s.nest n
  marking : t.marking = s.marking
  states : ∀ id, (t.record id).state = (s.record id).state
  count : t.records.length = s.records.length
  lanes : ∀ m, some m ≠ x → (s.nest m).state ≠ .waitLanes → t.analyser.lanesOf m = s.analyser.lanesOf m

theorem grants_grantHeads {x : Option Nest} {s : State} (fuel : Nat) (h : PoolBut x s) : Grants x s (s.grantHeads fuel) := by
  induction fuel generalizing s with
  | zero => exact ⟨h, fun _ => .refl _, fun _ _ => rfl, rfl, fun _ => rfl, rfl, fun _ _ _ => rfl⟩
  | succ fuel ih =>
    unfold State.grantHeads
    split
    · exact ⟨h, fun _ => .refl _, fun _ _ => rfl, rfl, fun _ => rfl, rfl, fun _ _ _ => rfl⟩
    · rename_i r rest hq
      split
      · obtain ⟨hp, hw, hx⟩ := grant_pool h hq
        have g := ih hp
        have a := acts_grant s r rest
        refine ⟨g.pool, fun m => ?_, fun n hn => ?_, g.marking.trans a.marking, fun id => (g.states id).trans (a.states id),
          g.count.trans a.count, fun m hm' hw' => ?_⟩
        · refine GrantedOrSame.trans ?_ (g.nests m)
          by_cases hm : m = r.nest
          · subst hm
            rw [grant_nest, if_pos rfl]
            refine Or.inr ⟨hw, ?_⟩
            split
            · exact Or.inl rfl
            · exact Or.inr rfl
          · exact a.others m hm
        · rw [g.out n hn, grant_nest, if_neg]
          rintro rfl
          exact hx hn.symm
        · have hm : m ≠ r.nest := by rintro rfl; exact hw' hw
          rw [g.lanes m hm' (by rw [grant_nest, if_neg hm]; exact hw'), grant_lanesOf_ne s r rest hm]
      · exact ⟨h, fun _ => .refl _, fun _ _ => rfl, rfl, fun _ => rfl, rfl, fun _ _ _ => rfl⟩

theorem grants_grantCheck {x : Option Nest} {s : State} (h : PoolBut x s) : Grants x s s.grantCheck := grants_grantHeads _ h

theorem Grants.acts {n : Nest} {s t : State} (h : Grants (some n) s t) : Acts n s t :=
  ⟨fun m _ => h.nests m, by rw [h.out n rfl], h.marking, h.states, h.count, fun m hm => h.lanes m (by simpa using hm)⟩

theorem Grants.acts' {s t : State} (h : Grants none s t) (n : Nest) : Acts n s t :=
  ⟨fun m _ => h.nests m, (h.nests n).record, h.marking, h.states, h.count, fun m _ => h.lanes m (by simp)⟩

/-! ### Lanes released, asked for and given back -/

/-- Everything of one nest's but its request is released: from a sound pool of a nest that does not wait. -/
theorem release_pool {n : Nest} {x : Option Nest} {s : State} (h : PoolBut x s)
    (hx : x = some n ∨ x = none ∧ (s.nest n).state ≠ .waitLanes) :
    PoolBut (some n) (s.modAnalyser (fun a => a.release n)) := by
  have hl : ∀ m, (s.modAnalyser (fun a => a.release n)).analyser.lanesOf m = if m = n then 0 else s.analyser.lanesOf m :=
    fun m => Analyser.lanesOf_release _ n m
  have hr : ∀ m, (s.modAnalyser (fun a => a.release n)).requests m = s.requests m := fun _ => rfl
  have hm' : ∀ m, some m ≠ some n → some m ≠ x := by
    intro m hm
    rcases hx with rfl | ⟨rfl, -⟩
    · exact hm
    · simp
  refine ⟨fun m hm => ?_, fun m hm hlm => ?_, fun m hm => ?_, h.sizes⟩
  · rw [hr]; exact h.requests m (hm' m hm)
  · rw [hl, if_neg (by simpa using hm)] at hlm; exact h.lanes m (hm' m hm) hlm
  · cases hm
    rw [hl, if_pos rfl, hr]
    refine ⟨?_, rfl⟩
    rcases hx with rfl | ⟨rfl, hw⟩
    · exact (h.off n rfl).1
    · rw [h.requests n (by simp), if_neg hw]

theorem grants_releaseLanes {n : Nest} {s : State} (h : PoolBut none s) (hw : (s.nest n).state ≠ .waitLanes) :
    Grants (some n) s (s.releaseLanes n) := by
  have g := grants_grantCheck (release_pool h (Or.inr ⟨rfl, hw⟩))
  refine ⟨g.pool, g.nests, g.out, g.marking, g.states, g.count, fun m hm hw' => ?_⟩
  exact (g.lanes m hm hw').trans ((Analyser.lanesOf_release _ n m).trans (if_neg (by simpa using hm)))

theorem grants_withdraw {n : Nest} {s : State} (h : PoolBut none s) (hw : (s.nest n).state = .waitLanes) :
    Grants (some n) s (s.withdraw n) := by
  have hp : PoolBut (some n) (s.modAnalyser (fun a => { a with queue := a.queue.filter (fun r => decide (r.nest ≠ n)) })) := by
    have hr : ∀ m, (s.modAnalyser (fun a => { a with queue := a.queue.filter (fun r => decide (r.nest ≠ n)) })).requests m =
        if m = n then 0 else s.requests m := by
      intro m
      simp only [State.requests, State.modAnalyser_analyser, List.countP_filter]
      split
      · rename_i hm; subst hm
        rw [List.countP_eq_zero]; intro r _; simp
      · rename_i hm
        congr 1
        funext r
        by_cases hrm : r.nest = m
        · simp [hrm, hm]
        · simp [hrm]
    refine ⟨fun m hm => ?_, fun m hm => h.lanes m (by simp), fun m hm => ?_, fun r hr => ?_⟩
    · rw [hr, if_neg (by simpa using hm)]; exact h.requests m (by simp)
    · cases hm
      rw [hr, if_pos rfl]
      refine ⟨rfl, ?_⟩
      by_contra hl
      have := h.lanes n (by simp) hl
      rw [hw] at this
      cases this
    · exact h.sizes r (List.mem_of_mem_filter hr)
  have g := grants_grantCheck hp
  exact ⟨g.pool, g.nests, g.out, g.marking, g.states, g.count, g.lanes⟩

/-- What a running nest holds is given back; the nest itself stays as it is. -/
theorem grants_giveBack {n : Nest} {s : State} (h : PoolBut none s) : Grants (some n) s (s.giveBack n) := by
  have hv : ∀ t : State, Grants (some n) s t → Grants (some n) s (t.voidCapture n) := fun t g =>
    ⟨g.pool.congr rfl (fun _ => rfl) (fun _ _ => rfl), g.nests, g.out, g.marking, g.states, g.count, g.lanes⟩
  have hn : (s.nest n).state ≠ .waitLanes → (s.nest n).state.mayHoldLanes = false → Grants (some n) s s := fun h1 h2 =>
    ⟨h.free h1 h2, fun _ => .refl _, fun _ _ => rfl, rfl, fun _ => rfl, rfl, fun _ _ _ => rfl⟩
  unfold State.giveBack
  split
  all_goals rename_i hs
  · exact grants_withdraw h hs
  · exact grants_releaseLanes h (by rw [hs]; decide)
  · exact hv _ (grants_releaseLanes h (by rw [hs]; decide))
  · exact hv _ (grants_releaseLanes h (by rw [hs]; decide))
  all_goals exact hn (by rw [hs]; decide) (by rw [hs]; rfl)

/-- A request joins at the tail, of a nest that has nothing. -/
theorem requestLanes_ok {n : Nest} {s : State} (h : PoolBut (some n) s) (hw : (s.nest n).state ≠ .waitLanes)
    (hr : (s.nest n).state.running = true) :
    PoolBut none (s.requestLanes n) ∧ Acts n s (s.requestLanes n) ∧ ((s.requestLanes n).nest n).state.running = true := by
  unfold State.requestLanes
  split
  · exact ⟨h.settle hw, .refl _ _, hr⟩
  · rename_i st _
    dsimp only
    set t : State := ((s.modNest n (fun q => { q with state := .waitLanes })).setDetector n .stopped).modAnalyser
      (fun a => { a with queue := a.queue ++ [⟨n, (lanePlan st (s.nest n).limits).length, lanePlan st (s.nest n).limits⟩] }) with ht
    have hq : t.analyser.queue =
        s.analyser.queue ++ [⟨n, (lanePlan st (s.nest n).limits).length, lanePlan st (s.nest n).limits⟩] := rfl
    have hl : t.analyser.lanes = s.analyser.lanes := rfl
    have hnn : (t.nest n).state = .waitLanes := by
      show (((s.modNest n (fun q => { q with state := .waitLanes })).nest n)).state = _
      rw [State.nest_modNest]
    have hnm : ∀ m, m ≠ n → t.nest m = s.nest m := fun m hm => by
      show ((s.modNest n (fun q => { q with state := .waitLanes })).nest m) = _
      rw [State.nest_modNest_ne s hm]
    have hreq : ∀ m, t.requests m = s.requests m + if m = n then 1 else 0 := by
      intro m
      unfold State.requests
      rw [hq, List.countP_append]
      by_cases hm : m = n
      · subst hm; simp
      · simp [hm, Ne.symm hm]
    have hp : PoolBut none t := by
      refine ⟨fun m _ => ?_, fun m _ hlm => ?_, fun _ h => by simp at h, fun r hr => ?_⟩
      · rw [hreq]
        by_cases hm : m = n
        · subst hm; rw [(h.off m rfl).1, hnn]; simp
        · rw [if_neg hm, hnm m hm, h.requests m (by simpa using hm)]; simp
      · have hlm' : s.analyser.lanesOf m ≠ 0 := by unfold Analyser.lanesOf at hlm ⊢; rw [hl] at hlm; exact hlm
        by_cases hm : m = n
        · subst hm; exact absurd (h.off m rfl).2 hlm'
        · rw [hnm m hm]; exact h.lanes m (by simpa using hm) hlm'
      · rw [hq, List.mem_append] at hr
        rcases hr with hr | hr
        · exact h.sizes r hr
        · simp at hr; rw [hr]
    have g := grants_grantCheck hp
    have a : Acts n s t := Acts.after (acts_modAnalyser _ n _ (fun _ _ => rfl)) (Acts.after (acts_setDetector _ n n _) (acts_modNest s n _ rfl))
    refine ⟨g.pool, (g.acts' n).after a, ?_⟩
    rcases (g.nests n).state with h' | ⟨_, h' | h'⟩
    · rw [h', hnn]; rfl
    · rw [h']; rfl
    · rw [h']; rfl

/-- GAP, SETTLE, CONDITION, WINDOW and EVALUATE: the states in which a nest counts frames. -/
def NestState.counts : NestState → Bool
  | .gap | .settle | .condition | .window | .evaluate => true
  | .idle | .reserved | .waitLanes | .guardWait | .judged => false

theorem counts_wait {q : NestState} (h : q.counts = true) : q ≠ .waitLanes := by rintro rfl; cases h

theorem counts_running {q : NestState} (h : q.counts = true) : q.running = true := by cases q <;> first | rfl | cases h

/-! ### Steps: an operation that may end the run -/

/-- What an operation on a running nest gives: a sound pool, the nest running, and, where the run is over, a nest that
has nothing. -/
structure RunOk (n : Nest) (s : State) (r : State × Option Ending) : Prop where
  pool : PoolBut none r.1
  acts : Acts n s r.1
  running : (r.1.nest n).state.running = true
  ended : r.2 ≠ none → PoolBut (some n) r.1 ∧ (r.1.nest n).state.counts = true

theorem RunOk.after {n : Nest} {s t : State} {r : State × Option Ending} (h : RunOk n t r) (a : Acts n s t) : RunOk n s r :=
  ⟨h.pool, h.acts.after a, h.running, h.ended⟩

/-- The nest as an operation leaves it that ends no run. -/
theorem RunOk.stay {n : Nest} {s t : State} (h : PoolBut none t) (a : Acts n s t) (hr : (t.nest n).state.running = true) :
    RunOk n s (t, none) := ⟨h, a, hr, fun h => absurd rfl h⟩

/-- A nest out of consideration, itself changed alone. -/
theorem PoolBut.only {n : Nest} {s t : State} (h : PoolBut (some n) s) (hq : t.analyser.queue = s.analyser.queue)
    (hl : t.analyser.lanes = s.analyser.lanes) (hn : ∀ m, m ≠ n → t.nest m = s.nest m) : PoolBut (some n) t :=
  h.congr hq (fun m => by unfold Analyser.lanesOf; rw [hl]) (fun m hm => by rw [hn m (by simpa using hm)])

theorem loadStep_nest_ne {n m : Nest} (hm : m ≠ n) : (s.loadStep n).nest m = s.nest m := by
  unfold State.loadStep
  split
  · rfl
  · exact State.nest_modNest_ne s hm _

theorem loadStep_state (n : Nest) : ((s.loadStep n).nest n).state = (s.nest n).state := by
  unfold State.loadStep
  split
  · rfl
  · rw [State.nest_modNest]

theorem loadStep_analyser (n : Nest) : (s.loadStep n).analyser = s.analyser := by
  unfold State.loadStep; split <;> rfl

theorem loadStep_pool {n : Nest} {s : State} (h : PoolBut (some n) s) : PoolBut (some n) (s.loadStep n) :=
  h.only (by rw [loadStep_analyser]) (by rw [loadStep_analyser]) (fun _ hm => loadStep_nest_ne s hm)

theorem openGap_nest (n : Nest) (st : Step) : ((s.openGap n st).nest n).state = .gap := by
  unfold State.openGap
  dsimp only
  split
  · simp
  · split <;> simp

theorem openGap_nest_ne {n m : Nest} (hm : m ≠ n) (st : Step) : (s.openGap n st).nest m = s.nest m := by
  unfold State.openGap
  dsimp only
  split
  · exact State.nest_setNest_ne s hm _
  · split <;> exact State.nest_setNest_ne s hm _

theorem openGap_analyser (n : Nest) (st : Step) : (s.openGap n st).analyser = s.analyser := by
  unfold State.openGap
  dsimp only
  split
  · rfl
  · split <;> rfl

theorem enterStep_state (n : Nest) (st : Step) :
    ((s.enterStep n st).nest n).state = if st.measure then .settle else .condition := by
  unfold State.enterStep
  split <;> simp

theorem enterStep_nest_ne {n m : Nest} (hm : m ≠ n) (st : Step) : (s.enterStep n st).nest m = s.nest m := by
  unfold State.enterStep
  split <;> simp [State.nest_modNest_ne s hm]

theorem enterStep_pool {n : Nest} {s : State} (h : PoolBut (some n) s) (st : Step) : PoolBut (some n) (s.enterStep n st) := by
  refine h.only ?_ ?_ (fun _ hm => enterStep_nest_ne s hm st) <;> unfold State.enterStep <;> split <;> rfl

theorem foldUnsettled_nests (n : Nest) : (s.foldUnsettled n).nests = s.nests := by
  unfold State.foldUnsettled; split <;> rfl

theorem foldUnsettled_analyser (n : Nest) : (s.foldUnsettled n).analyser = s.analyser := by
  unfold State.foldUnsettled; split <;> rfl

theorem foldUnsettled_nest (n m : Nest) : (s.foldUnsettled n).nest m = s.nest m := by
  unfold State.nest; rw [foldUnsettled_nests]

theorem unsettle_nest (n m : Nest) : (s.unsettle n).nest m = s.nest m := foldUnsettled_nest s n m

theorem acts_unsettle (n : Nest) : Acts n s (s.unsettle n) := Acts.after (acts_setDetector _ n n _) (acts_foldUnsettled s n n)

theorem foldUnsettled_pool {x : Option Nest} {n : Nest} {s : State} (h : PoolBut x s) : PoolBut x (s.foldUnsettled n) :=
  h.congr (by rw [foldUnsettled_analyser]) (fun _ => by rw [foldUnsettled_analyser]) (fun _ _ => by rw [foldUnsettled_nest])

theorem unsettle_pool {n : Nest} {s : State} (h : PoolBut (some n) s) : PoolBut (some n) (s.unsettle n) :=
  (foldUnsettled_pool (n := n) h).only rfl rfl (fun _ _ => rfl)

theorem nextIndex_pool {n : Nest} {s : State} (h : PoolBut (some n) s) : PoolBut (some n) (s.nextIndex n) :=
  h.only rfl rfl (fun _ hm => State.nest_modNest_ne s hm _)

theorem runSteps_ok {n : Nest} {s : State} (fuel : Nat) (h : PoolBut (some n) s) (hc : (s.nest n).state.counts = true) :
    RunOk n s (State.runSteps fuel n s) := by
  induction fuel generalizing s with
  | zero => exact .stay (h.settle (counts_wait hc)) (.refl _ _) (counts_running hc)
  | succ fuel ih =>
    have h1 := loadStep_pool h
    have a1 := acts_loadStep s n
    have e1 := loadStep_state s n
    have c1 : ((s.loadStep n).nest n).state.counts = true := by rw [e1]; exact hc
    unfold State.runSteps
    dsimp only
    split
    · exact .stay (h1.settle (counts_wait c1)) a1 (counts_running c1)
    · rename_i st _
      split
      · have h2 : PoolBut (some n) ((s.loadStep n).openGap n st) :=
          h1.only (by rw [openGap_analyser]) (by rw [openGap_analyser]) (fun _ hm => openGap_nest_ne _ hm st)
        exact .stay (h2.settle (by rw [openGap_nest]; decide)) (a1.trans (acts_openGap _ n st)) (by rw [openGap_nest]; rfl)
      · have h2 : PoolBut (some n) (((s.loadStep n).modTone n fun t => t.directStart st).enterStep n st) :=
          enterStep_pool (h1.only (t := (s.loadStep n).modTone n fun t => t.directStart st) rfl rfl (fun _ _ => rfl)) st
        have a2 : Acts n s (((s.loadStep n).modTone n fun t => t.directStart st).enterStep n st) :=
          (a1.trans (acts_modTone _ n n _)).trans (acts_enterStep _ n st)
        have c2 : ((((s.loadStep n).modTone n fun t => t.directStart st).enterStep n st).nest n).state.counts = true := by
          rw [enterStep_state]; split <;> rfl
        split
        · exact .stay (h2.settle (counts_wait c2)) a2 (counts_running c2)
        · obtain ⟨p, a, r⟩ := requestLanes_ok h2 (counts_wait c2) (counts_running c2)
          exact .stay p (a2.trans a) r
        · have h3 := unsettle_pool h2
          have a3 := a2.trans (acts_unsettle _ n)
          split
          · have c3 : (((((s.loadStep n).modTone n fun t => t.directStart st).enterStep n st).unsettle n).nest n).state.counts = true := by
              rw [unsettle_nest]; exact c2
            exact ⟨h3.settle (counts_wait c3), a3, counts_running c3, fun _ => ⟨h3, c3⟩⟩
          · refine (ih (nextIndex_pool h3) ?_).after (a3.trans (acts_modNest _ n _ rfl))
            rw [State.nextIndex, State.nest_modNest, unsettle_nest]; exact c2

theorem finishStep_ok {n : Nest} {s : State} (failed : Bool) (h : PoolBut (some n) s) (hc : (s.nest n).state.counts = true) : RunOk n s (s.finishStep n failed) := by
  have hw := counts_wait hc
  have hr := counts_running hc
  unfold State.finishStep
  split
  · exact ⟨h.settle hw, .refl _ _, hr, fun _ => ⟨h, hc⟩⟩
  · refine (runSteps_ok 256 (nextIndex_pool h) ?_).after (acts_modNest _ n _ rfl)
    rw [State.nextIndex, State.nest_modNest]; exact hc

/-- A nest that has nothing tests its dwell rule. -/
theorem testSettle_ok {n : Nest} {s : State} (h : PoolBut (some n) s) (hc : (s.nest n).state.counts = true) : RunOk n s (s.testSettle n) := by
  have hw := counts_wait hc
  have hr := counts_running hc
  unfold State.testSettle
  split
  · exact .stay (h.settle hw) (.refl _ _) hr
  · obtain ⟨p, a, r⟩ := requestLanes_ok h hw hr
    exact .stay p a r
  · refine (finishStep_ok true (unsettle_pool h) ?_).after (acts_unsettle s n)
    rw [unsettle_nest]; exact hc

theorem gapPhaseEnd_ok {n : Nest} {s : State} (h : PoolBut (some n) s) (hc : (s.nest n).state.counts = true) : RunOk n s (s.gapPhaseEnd n) := by
  have hw := counts_wait hc
  have hr := counts_running hc
  have hm : ∀ f : Sequencer → Sequencer, (∀ q, (f q).state = q.state ∧ (f q).record = q.record) →
      RunOk n s (s.modNest n f, none) := fun f hf =>
    .stay ((h.only (t := s.modNest n f) rfl rfl (fun _ hm => State.nest_modNest_ne s hm _)).settle
      (by rw [State.nest_modNest, (hf _).1]; exact hw)) (acts_modNest s n f (hf _).2) (by
        rw [State.nest_modNest, (hf _).1]; exact hr)
  unfold State.gapPhaseEnd
  split
  · exact hm _ (fun _ => ⟨rfl, rfl⟩)
  · exact hm _ (fun _ => ⟨rfl, rfl⟩)
  · rename_i st _ _
    refine (testSettle_ok (enterStep_pool h st) ?_).after (acts_enterStep s n st)
    rw [enterStep_state]; split <;> rfl
  · exact .stay (h.settle hw) (.refl _ _) hr

theorem settleBlockEnd_ok {n : Nest} {s : State} (h : PoolBut (some n) s) :
    PoolBut (some n) (s.settleBlockEnd n) ∧ Acts n s (s.settleBlockEnd n) ∧
      ((s.settleBlockEnd n).nest n).state = (s.nest n).state := by
  unfold State.settleBlockEnd
  refine ⟨h.only rfl rfl (fun _ hm => State.nest_modNest_ne _ hm _),
    Acts.after (acts_modNest _ n _ rfl) (acts_setDetector s n n _), ?_⟩
  rw [State.nest_modNest]; rfl

theorem foldCondition_nest (n m : Nest) : (s.foldCondition n).nest m = s.nest m := by
  unfold State.foldCondition; split <;> rfl

theorem foldCondition_analyser (n : Nest) : (s.foldCondition n).analyser = s.analyser := by
  unfold State.foldCondition; split <;> rfl

theorem burstPhaseEnd_ok {n : Nest} {s : State} (h : PoolBut (some n) s) (hc : (s.nest n).state.counts = true) : RunOk n s (s.burstPhaseEnd n) := by
  have hw := counts_wait hc
  have hr := counts_running hc
  unfold State.burstPhaseEnd
  split
  · exact .stay (h.settle hw) (.refl _ _) hr
  · rename_i st _
    dsimp only
    have h1 : PoolBut (some n) (s.setTone n ((s.tone n).burstEnd st).1) := h.only rfl rfl (fun _ _ => rfl)
    split
    · refine (finishStep_ok false (s := (s.setTone n ((s.tone n).burstEnd st).1).foldCondition n) ?_ ?_).after
        ((acts_setTone s n n _).trans (acts_foldCondition _ n n))
      · exact h1.only (by rw [foldCondition_analyser]) (by rw [foldCondition_analyser]) (fun _ _ => foldCondition_nest _ _ _)
      · rw [foldCondition_nest]; exact hc
    · exact .stay (h1.settle hw) (acts_setTone s n n _) hr

/-! ### Windows and evaluations -/

theorem spoil_ok {n : Nest} {s : State} (c : UnitClass) (h : PoolBut none s) (hc : (s.nest n).state.counts = true) : RunOk n s (s.spoil n c) := by
  have hw := counts_wait hc
  have hr := counts_running hc
  have g := grants_releaseLanes h hw
  have p : PoolBut (some n) ((s.releaseLanes n).voidCapture n) := g.pool.only rfl rfl (fun _ _ => rfl)
  have a : Acts n s ((s.releaseLanes n).voidCapture n) := g.acts.trans (acts_voidCapture _ n n)
  have e : ((s.releaseLanes n).voidCapture n).nest n = s.nest n := g.out n rfl
  unfold State.spoil
  dsimp only
  split
  · have p' : PoolBut (some n) (((s.releaseLanes n).voidCapture n).modNest n (fun q => { q with retries := q.retries + 1 })) :=
      p.only rfl rfl (fun _ hm => State.nest_modNest_ne _ hm _)
    obtain ⟨p1, a1, r1⟩ := requestLanes_ok p' (by rw [State.nest_modNest, e]; exact hw) (by rw [State.nest_modNest, e]; exact hr)
    exact .stay p1 ((a.trans (acts_modNest _ n _ rfl)).trans a1) r1
  · exact ⟨p.settle (by rw [e]; exact hw), a, by rw [e]; exact hr, fun _ => ⟨p, by rw [e]; exact hc⟩⟩

theorem decideCapture_nest (n m : Nest) (o : StepOutcome) : (s.decideCapture n o).nest m = s.nest m := by
  unfold State.decideCapture
  split
  · split <;> rfl
  · rfl

theorem decideCapture_analyser (n : Nest) (o : StepOutcome) : (s.decideCapture n o).analyser = s.analyser := by
  unfold State.decideCapture
  split
  · split <;> rfl
  · rfl

theorem completeEvaluation_ok {n : Nest} {s : State} (h : PoolBut none s) (hc : (s.nest n).state.counts = true) : RunOk n s (s.completeEvaluation n) := by
  have hw := counts_wait hc
  have hr := counts_running hc
  unfold State.completeEvaluation
  split
  · rename_i id st _ _
    dsimp only
    set r := s.stepResult n id st
    have h1 : PoolBut none (s.foldResult r) := h.congr rfl (fun _ => rfl) (fun _ _ => rfl)
    have g := grants_releaseLanes (n := n) h1 hw
    have e : ((s.foldResult r).releaseLanes n).nest n = s.nest n := g.out n rfl
    refine (finishStep_ok _ (s := ((s.foldResult r).releaseLanes n).decideCapture n r.outcome) ?_ ?_).after
      (((acts_foldResult s n r).trans g.acts).trans (acts_decideCapture _ n n _))
    · exact g.pool.only (by rw [decideCapture_analyser]) (by rw [decideCapture_analyser]) (fun _ _ => decideCapture_nest _ _ _ _)
    · rw [decideCapture_nest, e]; exact hc
  · exact .stay h (.refl _ _) hr

/-- A nest goes from one state that may hold lanes to another. -/
theorem PoolBut.swap {n : Nest} {s t : State} (h : PoolBut none s) (hq : t.analyser.queue = s.analyser.queue)
    (hl : ∀ m, t.analyser.lanesOf m = s.analyser.lanesOf m) (hn : ∀ m, m ≠ n → t.nest m = s.nest m)
    (h1 : (s.nest n).state ≠ .waitLanes) (h2 : (t.nest n).state.mayHoldLanes = true) : PoolBut none t := by
  have hr : ∀ m, t.requests m = s.requests m := fun m => by unfold State.requests; rw [hq]
  refine ⟨fun m _ => ?_, fun m _ hm => ?_, fun _ h => by simp at h, ?_⟩
  · rw [hr]
    by_cases hm : m = n
    · subst hm
      rw [h.requests m (by simp), if_neg h1, if_neg]
      intro h'; rw [h'] at h2; cases h2
    · rw [hn m hm]; exact h.requests m (by simp)
  · by_cases hmn : m = n
    · subst hmn; exact h2
    · rw [hn m hmn]; rw [hl] at hm; exact h.lanes m (by simp) hm
  · rw [hq]; exact h.sizes

theorem windowComplete_ok {n : Nest} {s : State} (h : PoolBut none s) (hw : (s.nest n).state ≠ .waitLanes) :
    RunOk n s (s.windowComplete n, none) := by
  unfold State.windowComplete
  refine .stay (h.swap (n := n) rfl ?_ (fun _ hm => by simp [State.nest_modNest_ne s hm]) hw (by simp [NestState.mayHoldLanes]))
    (Acts.after (acts_modAnalyser _ n _ (fun m _ => Analyser.lanesOf_startEvaluation _ n m)) (acts_modNest s n _ rfl)) ?_
  · intro m; exact Analyser.lanesOf_startEvaluation _ n m
  · simp [NestState.running]

theorem enterWindow_pool {n : Nest} {s : State} (h : PoolBut none s) (hw : (s.nest n).state ≠ .waitLanes) :
    PoolBut none (s.enterWindow n) := by
  refine h.swap (n := n) (by rw [enterWindow_analyser]; rfl) (fun m => by rw [enterWindow_analyser]; simp) (fun m hm => ?_) hw ?_
  · rw [enterWindow_nest, if_neg hm]
  · rw [enterWindow_nest, if_pos rfl]; rfl

theorem backToGuardWait_ok {n : Nest} {s : State} (h : PoolBut none s) (hw : (s.nest n).state ≠ .waitLanes) :
    RunOk n s (s.backToGuardWait n, none) := by
  unfold State.backToGuardWait
  refine .stay (h.swap (n := n) rfl ?_ (fun _ hm => by simp [State.nest_modNest_ne s hm]) hw (by simp [NestState.mayHoldLanes]))
    (Acts.after (acts_voidCapture _ n n) (Acts.after (acts_modAnalyser _ n _ (fun m _ => Analyser.lanesOf_hold _ n m)) (acts_modNest s n _ rfl))) ?_
  · intro m; exact Analyser.lanesOf_hold _ n m
  · simp [NestState.running]

/-! ### Records and their holders -/

/-- Every record id held but for one nest's. -/
def State.holdersBut (s : State) (x : Option Nest) : List Nat :=
  Nest.order.flatMap (fun n => if some n = x then [] else (s.nest n).record.toList) ++ s.marking.queue ++
  (s.marking.slotA.record.toList ++ s.marking.slotB.record.toList)

/-- `unitsOk`, but for one nest, of which nothing is said. -/
structure UnitsBut (x : Option Nest) (s : State) : Prop where
  count : s.records.length = 14
  nodup : (s.holdersBut x).Nodup
  held : ∀ id, id ∈ s.holdersBut x ↔ (s.record id).state ≠ .free
  nests : ∀ n, some n ≠ x → (s.nest n).record.isSome = (s.nest n).state.holdsUnit
  slots : ∀ i, (s.marking.slot i).state = .free → (s.marking.slot i).record = none
  queue : s.marking.queue.length ≤ 8

theorem unitsBut_none : UnitsBut none s ↔ s.unitsOk := by
  have e : s.holdersBut none = s.holders := by simp [State.holdersBut, State.holders]
  constructor
  · intro h
    exact ⟨h.count, e ▸ h.nodup, fun id => e ▸ h.held id, fun n => h.nests n (by simp), h.slots, h.queue⟩
  · intro h
    exact ⟨h.1, e ▸ h.2.1, fun id => e ▸ h.2.2.1 id, fun n _ => h.2.2.2.1 n, h.2.2.2.2.1, h.2.2.2.2.2⟩

/-- The holders of one nest stand apart. -/
theorem holdersBut_perm (n : Nest) : (s.holdersBut none).Perm ((s.nest n).record.toList ++ s.holdersBut (some n)) := by
  rw [← Multiset.coe_eq_coe]
  cases n <;>
    (simp only [State.holdersBut, Nest.order, List.flatMap_cons, List.flatMap_nil, reduceCtorEq, if_false, Option.some.injEq,
      if_true, List.append_nil, List.nil_append, ← Multiset.coe_add]; abel)

theorem holdersBut_congr {s t : State} {x : Option Nest} (hn : ∀ n, some n ≠ x → (t.nest n).record = (s.nest n).record)
    (hm : t.marking = s.marking) : t.holdersBut x = s.holdersBut x := by
  unfold State.holdersBut
  rw [hm]
  congr 2
  apply congrArg List.flatten
  apply List.map_congr_left
  intro n _
  split
  · rfl
  · rename_i h; rw [hn n h]

theorem UnitsBut.acts {n : Nest} {s t : State} (h : UnitsBut none s) (a : Acts n s t)
    (hn : (t.nest n).state.holdsUnit = (s.nest n).state.holdsUnit) : UnitsBut none t := by
  have hr : ∀ m, (t.nest m).record = (s.nest m).record := by
    intro m
    by_cases hm : m = n
    · subst hm; exact a.record
    · exact (a.others m hm).record
  have e := holdersBut_congr (x := none) (fun m _ => hr m) a.marking
  refine ⟨a.count.trans h.count, e ▸ h.nodup, fun id => by rw [e, a.states]; exact h.held id, fun m _ => ?_, ?_, ?_⟩
  · rw [hr, h.nests m (by simp)]
    by_cases hm : m = n
    · subst hm; exact hn.symm
    · exact ((a.others m hm).holdsUnit).symm
  · rw [a.marking]; exact h.slots
  · rw [a.marking]; exact h.queue

/-- An id with a record that is not FREE is one of the table's. -/
theorem record_lt {id : Nat} {s : State} (h : (s.record id).state ≠ .free) : id < s.records.length := by
  by_contra hl
  apply h
  unfold State.record
  rw [List.getD_eq_getElem?_getD, List.getElem?_eq_none (by omega)]
  rfl

theorem record_setRecord_eq (id k : Nat) (u : UnitRecord) :
    (s.setRecord id u).record k = if k = id ∧ id < s.records.length then u else s.record k := by
  by_cases hk : k = id
  · subst hk
    by_cases hl : k < s.records.length
    · rw [if_pos ⟨rfl, hl⟩, State.record_setRecord s hl]
    · rw [if_neg (fun h => hl h.2)]
      unfold State.record State.setRecord
      simp only [List.getD_eq_getElem?_getD]
      rw [List.getElem?_eq_none (by simp; omega), List.getElem?_eq_none (by omega)]
  · rw [if_neg (fun h => hk h.1), State.record_setRecord_ne s hk]

/-! ### Verdicts -/

/-- What a verdict with a class does to who holds what. -/
structure Judges (n : Nest) (s t : State) : Prop where
  others : ∀ m, m ≠ n → t.nest m = s.nest m
  record : (t.nest n).record = (s.nest n).record
  state : (t.nest n).state = .judged
  marking : t.marking = s.marking
  lanes : t.analyser.lanes = s.analyser.lanes
  queue : t.analyser.queue = s.analyser.queue
  free : ∀ id, (t.record id).state = .free → (s.record id).state = .free
  kept : ∀ id, (s.record id).state = .free → (s.nest n).record ≠ some id → (t.record id).state = .free
  count : t.records.length = s.records.length

theorem evaluateHold_rest (n : Nest) (id : Nat) (c : UnitClass) :
    (s.evaluateHold n id c).nests = s.nests ∧ (s.evaluateHold n id c).analyser = s.analyser ∧
    (s.evaluateHold n id c).records = s.records ∧ (s.evaluateHold n id c).marking = s.marking := by
  unfold State.evaluateHold
  split <;> exact ⟨rfl, rfl, rfl, rfl⟩

theorem evaluateQuarantine_rest (n : Nest) (id : Nat) (w : Word) (c : UnitClass) :
    (s.evaluateQuarantine n id w c).nests = s.nests ∧ (s.evaluateQuarantine n id w c).analyser = s.analyser ∧
    (s.evaluateQuarantine n id w c).records = s.records ∧ (s.evaluateQuarantine n id w c).marking = s.marking := by
  unfold State.evaluateQuarantine
  split <;> exact ⟨rfl, rfl, rfl, rfl⟩

theorem yieldVerdict_rest (n : Nest) (id : Nat) (w : Word) (c : UnitClass) :
    (s.yieldVerdict n id w c).nests = s.nests ∧ (s.yieldVerdict n id w c).analyser = s.analyser ∧
    (s.yieldVerdict n id w c).records = s.records ∧ (s.yieldVerdict n id w c).marking = s.marking := by
  unfold State.yieldVerdict
  dsimp only
  refine ⟨?_, ?_, ?_, ?_⟩
  · rw [(evaluateQuarantine_rest _ n id w c).1]; exact (evaluateHold_rest _ n id c).1
  · rw [(evaluateQuarantine_rest _ n id w c).2.1]; exact (evaluateHold_rest _ n id c).2.1
  · rw [(evaluateQuarantine_rest _ n id w c).2.2.1]; exact (evaluateHold_rest _ n id c).2.2.1
  · rw [(evaluateQuarantine_rest _ n id w c).2.2.2]; exact (evaluateHold_rest _ n id c).2.2.2

theorem recordVerdict_rest (n : Nest) (c : Option UnitClass) :
    (s.recordVerdict n c).nests = s.nests ∧ (s.recordVerdict n c).analyser = s.analyser ∧
    (s.recordVerdict n c).marking = s.marking ∧ (s.recordVerdict n c).records.length = s.records.length ∧
    (∀ id, (s.nest n).record ≠ some id → (s.recordVerdict n c).record id = s.record id) ∧
    ∀ id, (s.nest n).record = some id → id < s.records.length → ((s.recordVerdict n c).record id).state = .judged := by
  unfold State.recordVerdict
  split
  · rename_i h
    exact ⟨rfl, rfl, rfl, rfl, fun _ _ => rfl, fun id hid => by rw [h] at hid; cases hid⟩
  · rename_i id h
    dsimp only
    set c' := c.getD ((s.record id).ownClass (s.nest n).settings.gradeMargin)
    set u := (s.record id).judge (s.nest n).retries c' (s.recipe.bins[c'.code]?)
    set s1 := (s.setRecord id u).notice (.verdict id u false s.link.frameIndex)
    obtain ⟨h1, h2, h3, h4⟩ := yieldVerdict_rest s1 n id (s.record id).carrier c'
    have e : ∀ k, (s1.yieldVerdict n id (s.record id).carrier c').record k = (s.setRecord id u).record k := by
      intro k; show List.getD _ _ _ = _; rw [h3]; rfl
    refine ⟨h1, h2, h4, ?_, ?_, ?_⟩
    · rw [h3]; simp [s1]
    · intro k hk
      rw [e, State.record_setRecord_ne]
      rintro rfl; exact hk h
    · intro k hk hl
      rw [h] at hk; cases hk
      rw [e, State.record_setRecord s hl]; rfl

theorem lowerUse_rest (n : Nest) :
    (s.lowerUse n).nests = s.nests ∧ (s.lowerUse n).analyser = s.analyser ∧ (s.lowerUse n).marking = s.marking ∧
      (s.lowerUse n).records = s.records := by
  unfold State.lowerUse
  split <;> exact ⟨rfl, rfl, rfl, rfl⟩

theorem judges_verdict (n : Nest) (e : Ending) : Judges n s (s.verdict n e) := by
  unfold State.verdict
  dsimp only
  set a := s.modNest n (fun q => { q with deadlineRunning := false })
  obtain ⟨l1, l2, l3, l4⟩ := lowerUse_rest a n
  set b := a.lowerUse n
  set c := ((b.modNest n (fun q => { q with state := .judged, gap := none })).setDetector n .stopped).modTone n Tone.verdict
  obtain ⟨r1, r2, r3, r4, r5, r6⟩ := recordVerdict_rest c n e.unitClass
  have hb : ∀ m, b.nest m = a.nest m := fun m => by unfold State.nest; rw [l1]
  have hc : ∀ m, m ≠ n → c.nest m = s.nest m := by
    intro m hm
    simp [c, State.nest_modNest_ne _ hm, hb, a]
  have hcn : c.nest n = { s.nest n with deadlineRunning := false, state := .judged, gap := none } := by
    simp [c, hb, a]
  have hcr : ∀ id, c.record id = s.record id := by
    intro id
    unfold State.record
    show List.getD b.records id .free = _
    rw [l4]; rfl
  have hct : c.records.length = s.records.length := by
    show b.records.length = _
    rw [l4]; rfl
  have hn : ∀ m, (c.recordVerdict n e.unitClass).nest m = c.nest m := fun m => by unfold State.nest; rw [r1]
  refine ⟨fun m hm => ?_, ?_, ?_, ?_, ?_, ?_, fun id hid => ?_, fun id hid hne => ?_, ?_⟩
  · rw [hn, hc m hm]
  · rw [hn, hcn]
  · rw [hn, hcn]
  · rw [r3]; show b.marking = _; rw [l3]; rfl
  · rw [r2]; show b.analyser.lanes = _; rw [l2]; rfl
  · rw [r2]; show b.analyser.queue = _; rw [l2]; rfl
  · by_cases hk : (c.nest n).record = some id
    · by_cases hl : id < c.records.length
      · rw [r6 id hk hl] at hid; cases hid
      · by_contra hs; exact hl (hct ▸ record_lt hs)
    · rw [r5 id hk, hcr] at hid; exact hid
  · rw [r5 id (by rw [hcn]; exact hne), hcr]; exact hid
  · rw [r4, hct]

/-- A verdict given to a nest that has nothing left. -/
theorem verdict_ok {n : Nest} {s : State} (e : Ending) (h : PoolBut (some n) s) (u : UnitsBut none s)
    (hr : (s.nest n).state.running = true) : PoolBut none (s.verdict n e) ∧ UnitsBut none (s.verdict n e) := by
  have j := judges_verdict s n e
  have hh : ∀ id, id ∈ (s.verdict n e).holdersBut none ↔ id ∈ s.holdersBut none := by
    intro id
    rw [holdersBut_congr (s := s) (t := s.verdict n e) (x := none) ?_ j.marking]
    intro m _
    by_cases hm : m = n
    · subst hm; exact j.record
    · rw [j.others m hm]
  have ee : (s.verdict n e).holdersBut none = s.holdersBut none := by
    refine holdersBut_congr ?_ j.marking
    intro m _
    by_cases hm : m = n
    · subst hm; exact j.record
    · rw [j.others m hm]
  refine ⟨(h.only j.queue j.lanes j.others).settle (by rw [j.state]; decide),
    ⟨j.count.trans u.count, ee ▸ u.nodup, fun id => ?_, fun m _ => ?_, by rw [j.marking]; exact u.slots, by rw [j.marking]; exact u.queue⟩⟩
  · rw [ee, u.held id]
    constructor
    · intro hs hf; exact hs (j.free id hf)
    · intro hs hf
      apply hs
      refine j.kept id hf ?_
      intro hrec
      have : id ∈ s.holdersBut none := by
        rw [(holdersBut_perm s n).mem_iff, hrec]; simp
      exact ((u.held id).1 this) hf
  · by_cases hm : m = n
    · subst hm
      rw [j.record, j.state, u.nests m (by simp)]
      simp [NestState.holdsUnit, hr]
    · rw [j.others m hm]; exact u.nests m (by simp)

theorem holdsUnit_of_running {q : NestState} (h : q.running = true) : q.holdsUnit = true := by
  unfold NestState.holdsUnit; rw [h]; rfl

/-- Pool and records sound. -/
def Sound (s : State) : Prop := PoolBut none s ∧ UnitsBut none s

theorem sound_iff : Sound s ↔ s.sound := by
  unfold Sound State.sound; rw [poolBut_none, unitsBut_none]

theorem RunOk.units {n : Nest} {s : State} {r : State × Option Ending} (h : RunOk n s r) (u : UnitsBut none s)
    (hr : (s.nest n).state.running = true) : UnitsBut none r.1 :=
  u.acts h.acts (by rw [holdsUnit_of_running h.running, holdsUnit_of_running hr])

/-- An operation on a running nest, with the verdict it may bring. -/
theorem RunOk.withVerdict {n : Nest} {s : State} {r : State × Option Ending} (h : RunOk n s r) (u : UnitsBut none s)
    (hr : (s.nest n).state.running = true) : Sound (State.withVerdict n r) := by
  have u' := h.units u hr
  unfold State.withVerdict State.deliver
  split
  · exact ⟨h.pool, u'⟩
  · rename_i e he
    exact verdict_ok e (h.ended (by rw [he]; simp)).1 u' h.running

theorem endRun_ok {n : Nest} {s : State} (c : UnitClass) (h : Sound s) (hr : (s.nest n).state.running = true) :
    Sound (s.endRun n c) := by
  have g := grants_giveBack (n := n) h.1
  have e := g.out n rfl
  exact verdict_ok _ g.pool (h.2.acts g.acts (by rw [e])) (by rw [e]; exact hr)

theorem expire_ok {n : Nest} {s : State} (h : Sound s) : Sound (s.expire n) := by
  unfold State.expire
  split
  · rename_i hc; exact endRun_ok _ h hc.1
  · exact h

theorem endForLink_ok {n : Nest} {s : State} (h : Sound s) : Sound (State.endForLink n s) := by
  unfold State.endForLink
  split
  · rename_i hc; exact endRun_ok _ h hc
  · exact h

/-! ### A nest gives its unit up -/

/-- One record leaves its nest for FREE or for the labels: what is left is a sound table with the nest out of it. -/
theorem emptyNest_ok {n : Nest} {s : State} (h : PoolBut (some n) s) (u : UnitsBut (some n) s) : Sound (s.emptyNest n) := by
  have e : ∀ m, (s.emptyNest n).nest m = if m = n then (s.nest n).emptied else s.nest m := by
    intro m
    unfold State.emptyNest
    by_cases hm : m = n
    · subst hm; simp
    · simp [hm, State.nest_modNest_ne _ hm]
  have p : PoolBut (some n) (s.emptyNest n) := h.only rfl rfl (fun m hm => by rw [e, if_neg hm])
  have eh : (s.emptyNest n).holdersBut (some n) = s.holdersBut (some n) :=
    holdersBut_congr (fun m hm => by rw [e, if_neg (by simpa using hm)]) rfl
  have ph := holdersBut_perm (s.emptyNest n) n
  rw [eh, e, if_pos rfl] at ph
  have ph' : ((s.emptyNest n).holdersBut none).Perm (s.holdersBut (some n)) := ph
  refine ⟨p.settle (by rw [e, if_pos rfl]; simp [Sequencer.emptied]),
    ⟨u.count, ph'.nodup_iff.2 u.nodup, fun id => ?_, fun m _ => ?_, u.slots, u.queue⟩⟩
  · rw [ph'.mem_iff]; exact u.held id
  · rw [e]
    split
    · rfl
    · rename_i hm; exact u.nests m (by simpa using hm)

/-- The nest's record freed. -/
theorem UnitsBut.freed {n : Nest} {id : Nat} {s t : State} (u : UnitsBut none s) (hr : (s.nest n).record = some id)
    (hn : ∀ m, t.nest m = s.nest m) (hm : t.marking = s.marking) (hc : t.records.length = s.records.length)
    (hs : ∀ k, k ≠ id → (t.record k).state = (s.record k).state) (hf : (t.record id).state = .free) :
    UnitsBut (some n) t := by
  have eh : t.holdersBut (some n) = s.holdersBut (some n) := holdersBut_congr (fun m _ => by rw [hn]) hm
  have ph := holdersBut_perm s n
  rw [hr] at ph
  have ph' : (s.holdersBut none).Perm (id :: s.holdersBut (some n)) := ph
  have nd := ph'.nodup_iff.1 u.nodup
  rw [List.nodup_cons] at nd
  refine ⟨hc.trans u.count, eh ▸ nd.2, fun k => ?_, fun m _ => by rw [hn]; exact u.nests m (by simp), by rw [hm]; exact u.slots,
    by rw [hm]; exact u.queue⟩
  rw [eh]
  by_cases hk : k = id
  · subst hk
    exact ⟨fun h => absurd h nd.1, fun h => absurd hf h⟩
  · rw [hs k hk, ← u.held k, ph'.mem_iff, List.mem_cons]
    simp [hk]

theorem recordAborted_rest (n : Nest) :
    (s.recordAborted n).nests = s.nests ∧ (s.recordAborted n).analyser = s.analyser ∧
    (s.recordAborted n).marking = s.marking ∧ (s.recordAborted n).records.length = s.records.length ∧
    (∀ id, (s.nest n).record ≠ some id → (s.recordAborted n).record id = s.record id) ∧
    ∀ id, (s.nest n).record = some id → (s.recordAborted n).record id = .free := by
  unfold State.recordAborted
  split
  · rename_i h
    exact ⟨rfl, rfl, rfl, rfl, fun _ _ => rfl, fun id hid => by rw [h] at hid; cases hid⟩
  · rename_i id h
    dsimp only
    refine ⟨rfl, rfl, rfl, by simp, ?_, ?_⟩
    · intro k hk
      have hk' : k ≠ id := by rintro rfl; exact hk h
      rw [State.record_setRecord_ne _ hk']
      show (s.setRecord id _).record k = _
      rw [State.record_setRecord_ne _ hk']
    · intro k hk
      rw [h] at hk; cases hk
      rw [record_setRecord_eq]
      split
      · rfl
      · rename_i hl
        show (s.setRecord id _).record id = _
        rw [record_setRecord_eq, if_neg (by intro h; apply hl; simpa using h)]
        by_contra hne
        apply hl
        refine ⟨rfl, ?_⟩
        simp
        by_contra hlt
        apply hne
        unfold State.record
        rw [List.getD_eq_getElem?_getD, List.getElem?_eq_none (by omega)]
        rfl

theorem abortRunning_ok {n : Nest} {s : State} (h : Sound s) (hr : (s.nest n).state.running = true) :
    Sound (s.abortRunning n) := by
  have g := grants_giveBack (n := n) h.1
  have eg := g.out n rfl
  have u1 := h.2.acts g.acts (by rw [eg])
  unfold State.abortRunning
  dsimp only
  set a := s.giveBack n
  set b := (a.modNest n (fun q => { q with deadlineRunning := false }))
  obtain ⟨l1, l2, l3, l4⟩ := lowerUse_rest b n
  set c := (b.lowerUse n).setDetector n .stopped
  obtain ⟨r1, r2, r3, r4, r5, r6⟩ := recordAborted_rest c n
  have hb : ∀ m, c.nest m = b.nest m := fun m => by show (b.lowerUse n).nest m = _; unfold State.nest; rw [l1]
  have hbm : ∀ m, m ≠ n → b.nest m = a.nest m := fun m hm => State.nest_modNest_ne _ hm _
  have hbn : b.nest n = { a.nest n with deadlineRunning := false } := State.nest_modNest _ _ _
  have hcr : ∀ id, c.record id = a.record id := by
    intro id; unfold State.record; show (b.lowerUse n).records.getD id .free = _; rw [l4]; rfl
  have hrec : (c.nest n).record = (a.nest n).record := by rw [hb, hbn]
  obtain ⟨id, hid⟩ : ∃ id, (a.nest n).record = some id := by
    have := u1.nests n (by simp)
    rw [eg, holdsUnit_of_running hr] at this
    rw [eg]
    exact Option.isSome_iff_exists.1 this
  have pc : PoolBut (some n) (c.recordAborted n) := by
    refine g.pool.only ?_ ?_ ?_
    · rw [r2]; show (b.lowerUse n).analyser.queue = _; rw [l2]; rfl
    · rw [r2]; show (b.lowerUse n).analyser.lanes = _; rw [l2]; rfl
    · intro m hm
      show (c.recordAborted n).nests.get m = _
      rw [r1]; show c.nest m = _; rw [hb, hbm m hm]
  refine emptyNest_ok pc ?_
  have uc : UnitsBut none c := by
    refine u1.acts (n := n) (t := c) ⟨fun m hm => ?_, hrec, ?_, fun k => by rw [hcr], ?_, fun m hm _ => ?_⟩ ?_
    · rw [hb, hbm m hm]; exact .refl _
    · show (b.lowerUse n).marking = _; rw [l3]; rfl
    · show (b.lowerUse n).records.length = _; rw [l4]; rfl
    · show (b.lowerUse n).analyser.lanesOf m = _; rw [l2]; rfl
    · rw [hb, hbn]
  refine uc.freed (id := id) (by rw [hrec, hid]) (fun m => by unfold State.nest; rw [r1]) r3 r4 (fun k hk => ?_) ?_
  · rw [r5 k]; rw [hrec, hid]; intro h'; exact hk (by cases h'; rfl)
  · rw [r6 id (by rw [hrec, hid])]; rfl

theorem free_of_ge {s : State} {id : Nat} (h : s.records.length ≤ id) : s.record id = .free := by
  unfold State.record
  rw [List.getD_eq_getElem?_getD, List.getElem?_eq_none h]
  rfl

theorem record_setRecord_free (id : Nat) : (s.setRecord id .free).record id = .free := by
  rw [record_setRecord_eq]
  split
  · rfl
  · rename_i h; exact free_of_ge (by by_contra hl; exact h ⟨rfl, by omega⟩)

theorem discard_record (id k : Nat) (b : Bool) : (s.discard id b).record k = if k = id then .free else s.record k := by
  unfold State.discard
  by_cases hk : k = id
  · subst hk; rw [if_pos rfl, record_setRecord_free]
  · rw [if_neg hk, State.record_setRecord_ne _ hk]; rfl

theorem retire_record (id k : Nat) (o : LabelOutcome) : (s.retire id o).record k = if k = id then .free else s.record k := by
  unfold State.retire
  dsimp only
  by_cases hk : k = id
  · subst hk; rw [if_pos rfl, record_setRecord_free]
  · rw [if_neg hk, State.record_setRecord_ne _ hk]
    show (s.setRecord id _).record k = _
    rw [State.record_setRecord_ne _ hk]

theorem discardJudged_ok {n : Nest} {s : State} (b : Bool) (h : Sound s) (hj : (s.nest n).state = .judged) :
    Sound (s.discardJudged n b) := by
  unfold State.discardJudged
  split
  · exact h
  · rename_i id hid
    have p : PoolBut (some n) (s.discard id b) :=
      (h.1.free (by rw [hj]; decide) (by rw [hj]; rfl)).only rfl rfl (fun _ _ => rfl)
    refine emptyNest_ok p (h.2.freed hid (fun _ => rfl) rfl (by simp [State.discard]) (fun k hk => ?_) ?_)
    · rw [discard_record, if_neg hk]
    · rw [discard_record, if_pos rfl]; rfl

/-! ### Labels -/

/-- Every id held by the label queue and the slots. -/
def Marking.holders (m : Marking) : List Nat := m.queue ++ (m.slotA.record.toList ++ m.slotB.record.toList)

/-- A FREE slot holds nothing and the queue holds at most 8. -/
def Marking.tidy (m : Marking) : Prop := (∀ i, (m.slot i).state = .free → (m.slot i).record = none) ∧ m.queue.length ≤ 8

theorem UnitsBut.tidy {x : Option Nest} {s : State} (u : UnitsBut x s) : s.marking.tidy := ⟨u.slots, u.queue⟩

theorem holdersBut_eq (x : Option Nest) :
    s.holdersBut x = Nest.order.flatMap (fun n => if some n = x then [] else (s.nest n).record.toList) ++ s.marking.holders := by
  unfold State.holdersBut Marking.holders; rw [List.append_assoc]

/-- Labels moved about among queue and slots, with the records keeping their being FREE or not. -/
theorem UnitsBut.labels {x : Option Nest} {s t : State} (u : UnitsBut x s) (hn : ∀ m, t.nest m = s.nest m)
    (hc : t.records.length = s.records.length) (hp : t.marking.holders.Perm s.marking.holders) (ht : t.marking.tidy)
    (hf : ∀ id, (t.record id).state = .free ↔ (s.record id).state = .free) : UnitsBut x t := by
  have e : (t.holdersBut x).Perm (s.holdersBut x) := by
    rw [holdersBut_eq, holdersBut_eq]
    simp only [hn]
    exact hp.append_left _
  exact ⟨hc.trans u.count, e.nodup_iff.2 u.nodup, fun id => by rw [e.mem_iff, u.held id, not_iff_not]; exact (hf id).symm,
    fun m hm => by rw [hn]; exact u.nests m hm, ht.1, ht.2⟩

/-- One label gone, its record FREE. -/
theorem UnitsBut.unlabelled {x : Option Nest} {id : Nat} {s t : State} (u : UnitsBut x s) (hn : ∀ m, t.nest m = s.nest m)
    (hc : t.records.length = s.records.length) (hp : s.marking.holders.Perm (id :: t.marking.holders)) (ht : t.marking.tidy)
    (hs : ∀ k, k ≠ id → (t.record k).state = (s.record k).state) (hf : (t.record id).state = .free) : UnitsBut x t := by
  have e : (s.holdersBut x).Perm (id :: t.holdersBut x) := by
    rw [holdersBut_eq, holdersBut_eq]
    simp only [hn]
    exact (hp.append_left _).trans List.perm_middle
  have nd := e.nodup_iff.1 u.nodup
  rw [List.nodup_cons] at nd
  refine ⟨hc.trans u.count, nd.2, fun k => ?_, fun m hm => by rw [hn]; exact u.nests m hm, ht.1, ht.2⟩
  by_cases hk : k = id
  · subst hk
    exact ⟨fun h => absurd h nd.1, fun h => absurd hf h⟩
  · rw [hs k hk, ← u.held k, e.mem_iff, List.mem_cons]
    simp [hk]

theorem Marking.slot_setSlot (m : Marking) (i j : SlotId) (x : Slot) :
    (m.setSlot i x).slot j = if j = i then x else m.slot j := by
  cases i <;> cases j <;> rfl

theorem Marking.startMessage_slot (m : Marking) (j : SlotId) :
    (m.startMessage.slot j).record = (m.slot j).record ∧
    ((m.startMessage.slot j).state = .free ↔ (m.slot j).state = .free) := by
  unfold Marking.startMessage
  split
  · rename_i i ht hi
    show ((m.setSlot i _).slot j).record = _ ∧ (((m.setSlot i _).slot j).state = .free ↔ _)
    rw [Marking.slot_setSlot]
    split
    · rename_i hj
      subst hj
      refine ⟨rfl, ?_⟩
      have hw : (m.slot j).state = .waitLine := by
        unfold Marking.nextMessage at hi
        cases j
        · by_cases ha : m.slotA.state = .waitLine
          · exact ha
          · by_cases hb : m.slotB.state = .waitLine <;> simp [ha, hb] at hi
        · by_cases hb : m.slotB.state = .waitLine
          · exact hb
          · by_cases ha : m.slotA.state = .waitLine <;> simp [ha, hb] at hi
      rw [hw]; simp
    · exact ⟨rfl, Iff.rfl⟩
  · exact ⟨rfl, Iff.rfl⟩

theorem Marking.startMessage_queue (m : Marking) : m.startMessage.queue = m.queue := by
  unfold Marking.startMessage
  split
  · rename_i i _ _; cases i <;> rfl
  · rfl

theorem Marking.holders_startMessage (m : Marking) : m.startMessage.holders = m.holders := by
  have a := m.startMessage_slot .a
  have b := m.startMessage_slot .b
  unfold Marking.holders
  rw [Marking.startMessage_queue]
  show _ ++ ((m.startMessage.slot .a).record.toList ++ (m.startMessage.slot .b).record.toList) = _
  rw [a.1, b.1]; rfl

theorem Marking.tidy_startMessage {m : Marking} (h : m.tidy) : m.startMessage.tidy :=
  ⟨fun i hi => by rw [(m.startMessage_slot i).1]; exact h.1 i ((m.startMessage_slot i).2.1 hi),
    by rw [Marking.startMessage_queue]; exact h.2⟩

theorem Marking.freeSlot_free {m : Marking} {i : SlotId} (h : m.freeSlot = some i) : (m.slot i).state = .free := by
  unfold Marking.freeSlot at h
  by_cases ha : m.slotA.state = .free <;> by_cases hb : m.slotB.state = .free
  · cases i <;> assumption
  · simp [ha, hb] at h; subst h; exact ha
  · simp [ha, hb] at h; subst h; exact hb
  · simp [ha, hb] at h

/-- The ids of queue and slots with one more slot filled from the queue's head. -/
theorem Marking.holders_fill {m : Marking} {i : SlotId} {id : Nat} {rest : List Nat} (x : Slot) (hx : x.record = some id)
    (hq : m.queue = id :: rest) (hi : (m.slot i).record = none) (l : Option SlotId) :
    ({ m.setSlot i x with queue := rest, lastFilled := l } : Marking).holders.Perm m.holders := by
  unfold Marking.holders
  rw [hq]
  cases i
  · have hi' : m.slotA.record = none := hi
    simp only [Marking.setSlot, hx, hi', Option.toList_some, Option.toList_none, List.nil_append, List.cons_append]
    exact List.perm_middle
  · have hi' : m.slotB.record = none := hi
    simp only [Marking.setSlot, hx, hi', Option.toList_some, Option.toList_none, List.append_nil, List.cons_append]
    rw [← List.append_assoc]
    exact (List.perm_append_comm).trans (List.Perm.refl _)

theorem fillSlot_ok {x : Option Nest} {s : State} {i : SlotId} {id : Nat} {rest : List Nat} (u : UnitsBut x s)
    (hq : s.marking.queue = id :: rest) (hi : (s.marking.slot i).state = .free) : UnitsBut x (s.fillSlot i id rest) := by
  have hr := u.slots i hi
  set y : Slot := ⟨.waitLine, some id, labelMessage i { s.record id with state := .labelling, slot := some i }, 0⟩
  have em : (s.fillSlot i id rest).marking =
      ({ s.marking.setSlot i y with queue := rest, lastFilled := some i } : Marking).startMessage := rfl
  have hid : (s.record id).state ≠ .free := by
    rw [← u.held id, holdersBut_eq]
    apply List.mem_append_right
    unfold Marking.holders; rw [hq]; simp
  refine u.labels (fun _ => rfl) (by show (s.setRecord id _).records.length = _; simp) ?_ ?_ ?_
  · rw [em, Marking.holders_startMessage]
    exact Marking.holders_fill y rfl hq hr _
  · rw [em]
    apply Marking.tidy_startMessage
    refine ⟨fun j hj => ?_, ?_⟩
    · show ((s.marking.setSlot i y).slot j).record = none
      have hj' : ((s.marking.setSlot i y).slot j).state = .free := hj
      rw [Marking.slot_setSlot] at hj' ⊢
      split
      · rename_i h; rw [if_pos h] at hj'; cases hj'
      · rename_i h; rw [if_neg h] at hj'; exact u.slots j hj'
    · have := u.queue; rw [hq] at this; simp at this; show rest.length ≤ 8; omega
  · intro k
    show ((s.setRecord id _).record k).state = .free ↔ _
    rw [record_setRecord_eq]
    split
    · rename_i h; rw [h.1]; simp [hid]
    · exact Iff.rfl

theorem fillSlots_ok {x : Option Nest} {s : State} (fuel : Nat) (u : UnitsBut x s) : UnitsBut x (s.fillSlots fuel) := by
  induction fuel generalizing s with
  | zero => exact u
  | succ fuel ih =>
    unfold State.fillSlots
    split
    · rename_i id rest i hq hi
      exact ih (fillSlot_ok u hq (Marking.freeSlot_free hi))
    · exact u

theorem fillCheck_ok {x : Option Nest} {s : State} (u : UnitsBut x s) : UnitsBut x s.fillCheck := fillSlots_ok 2 u

theorem fillSlots_rest (fuel : Nat) :
    (s.fillSlots fuel).nests = s.nests ∧ (s.fillSlots fuel).analyser = s.analyser := by
  induction fuel generalizing s with
  | zero => exact ⟨rfl, rfl⟩
  | succ fuel ih =>
    unfold State.fillSlots
    split
    · exact ⟨(ih _).1, (ih _).2⟩
    · exact ⟨rfl, rfl⟩

theorem fillCheck_nests : s.fillCheck.nests = s.nests := (fillSlots_rest s 2).1
theorem fillCheck_analyser : s.fillCheck.analyser = s.analyser := (fillSlots_rest s 2).2

/-- A change of nothing that the pool is about. -/
theorem PoolBut.same {x : Option Nest} {s t : State} (h : PoolBut x s) (ha : t.analyser = s.analyser) (hn : t.nests = s.nests) :
    PoolBut x t := h.congr (by rw [ha]) (fun _ => by rw [ha]) (fun _ _ => by unfold State.nest; rw [hn])

/-- A unit's record goes from its nest to the label queue. -/
theorem enqueueLabel_ok {n : Nest} {id : Nat} {s : State} (u : UnitsBut none s) (hr : (s.nest n).record = some id)
    (hq : s.marking.queue.length < 8) : UnitsBut (some n) (s.enqueueLabel id) := by
  unfold State.enqueueLabel
  dsimp only
  apply fillCheck_ok
  set t : State := { s.setRecord id { s.record id with state := .queued } with
    marking := { s.marking with queue := s.marking.queue ++ [id] } }
  show UnitsBut (some n) t
  have hp : (t.holdersBut (some n)).Perm (s.holdersBut none) := by
    refine List.Perm.trans ?_ (holdersBut_perm s n).symm
    rw [hr]
    have h1 : t.holdersBut (some n) =
        Nest.order.flatMap (fun m => if some m = some n then [] else (s.nest m).record.toList) ++
          ((s.marking.queue ++ [id]) ++ (s.marking.slotA.record.toList ++ s.marking.slotB.record.toList)) := by
      rw [holdersBut_eq]; rfl
    rw [h1, holdersBut_eq]
    unfold Marking.holders
    rw [← Multiset.coe_eq_coe]
    simp only [← Multiset.coe_add, Option.toList_some]
    abel
  have hid : id ∈ s.holdersBut none := by rw [(holdersBut_perm s n).mem_iff, hr]; simp
  have hs : ∀ k, (t.record k).state = .free ↔ (s.record k).state = .free := by
    intro k
    show ((s.setRecord id _).record k).state = .free ↔ _
    rw [record_setRecord_eq]
    split
    · rename_i h; rw [h.1]; simp; exact (u.held id).1 hid
    · exact Iff.rfl
  refine ⟨by show (s.setRecord id _).records.length = 14; simp; exact u.count, hp.nodup_iff.2 u.nodup, fun k => ?_,
    fun m _ => u.nests m (by simp), u.slots, ?_⟩
  · rw [hp.mem_iff, u.held k, not_iff_not]; exact (hs k).symm
  · show (s.marking.queue ++ [id]).length ≤ 8; simp; omega

theorem enqueueLabel_pool {x : Option Nest} {id : Nat} {s : State} (h : PoolBut x s) : PoolBut x (s.enqueueLabel id) :=
  h.same (by unfold State.enqueueLabel; rw [fillCheck_analyser]; rfl) (by unfold State.enqueueLabel; rw [fillCheck_nests]; rfl)

theorem releaseUnit_ok {n : Nest} {id : Nat} {s : State} (b : Bool) (h : Sound s) (hj : (s.nest n).state = .judged)
    (hr : (s.nest n).record = some id) (hq : b = true → s.marking.queue.length < 8) : Sound (s.releaseUnit n id b) := by
  have p := h.1.free (n := n) (by rw [hj]; decide) (by rw [hj]; rfl)
  unfold State.releaseUnit
  split
  · rename_i hb
    exact emptyNest_ok (enqueueLabel_pool p) (enqueueLabel_ok h.2 hr (hq hb))
  · refine emptyNest_ok (p.same rfl rfl) (h.2.freed hr (fun _ => rfl) rfl (by simp [State.retire]) (fun k hk => ?_) ?_)
    · rw [retire_record, if_neg hk]
    · rw [retire_record, if_pos rfl]; rfl

/-- A slot's record retired, the slot FREE and perhaps filled again. -/
theorem retireSlot_ok {i : SlotId} {s : State} (o : LabelOutcome) (h : Sound s) : Sound (s.retireSlot i o) := by
  unfold State.retireSlot
  dsimp only
  have hm : ∀ m : Marking, ∀ j, ((m.setSlot i .free).slot j).state = .free → ((m.tidy)) → ((m.setSlot i .free).slot j).record = none := by
    intro m j hj ht
    rw [Marking.slot_setSlot] at hj ⊢
    split
    · rfl
    · rename_i hne; rw [if_neg hne] at hj; exact ht.1 j hj
  have hq : ∀ m : Marking, (m.setSlot i .free).queue = m.queue := fun m => by cases i <;> rfl
  have key : ∀ t : State, t.analyser = s.analyser → t.nests = s.nests → UnitsBut none (t.setSlot i .free) →
      Sound (t.setSlot i .free).fillCheck := fun t h1 h2 h3 =>
    ⟨h.1.same (by rw [fillCheck_analyser]; exact h1) (by rw [fillCheck_nests]; exact h2), fillCheck_ok h3⟩
  split
  · rename_i id hid
    refine key _ rfl rfl ?_
    refine h.2.unlabelled (id := id) (fun _ => rfl) (by simp [State.retire]) ?_ ⟨fun j hj => ?_, ?_⟩ (fun k hk => ?_) ?_
    · show s.marking.holders.Perm (id :: (s.marking.setSlot i .free).holders)
      unfold Marking.holders
      rw [hq]
      cases i
      · have hid' : s.marking.slotA.record = some id := hid
        simp only [Marking.setSlot, Slot.free, hid', Option.toList_some, Option.toList_none, List.nil_append, List.cons_append]
        exact List.perm_middle
      · have hid' : s.marking.slotB.record = some id := hid
        simp only [Marking.setSlot, Slot.free, hid', Option.toList_some, Option.toList_none, List.append_nil]
        rw [← List.append_assoc]
        exact List.perm_append_comm
    · exact hm s.marking j hj h.2.tidy
    · show (s.marking.setSlot i .free).queue.length ≤ 8; rw [hq]; exact h.2.queue
    · show ((s.retire id o).record k).state = _; rw [retire_record, if_neg hk]
    · show ((s.retire id o).record id).state = _; rw [retire_record, if_pos rfl]; rfl
  · rename_i hid
    refine key _ rfl rfl ?_
    refine h.2.labels (fun _ => rfl) rfl ?_ ⟨fun j hj => hm s.marking j hj h.2.tidy, ?_⟩ (fun _ => Iff.rfl)
    · show (s.marking.setSlot i .free).holders.Perm s.marking.holders
      unfold Marking.holders
      rw [hq]
      cases i
      · have hid' : s.marking.slotA.record = none := hid
        simp only [Marking.setSlot, Slot.free, hid', Option.toList_none]; exact .refl _
      · have hid' : s.marking.slotB.record = none := hid
        simp only [Marking.setSlot, Slot.free, hid', Option.toList_none]; exact .refl _
    · show (s.marking.setSlot i .free).queue.length ≤ 8; rw [hq]; exact h.2.queue

/-- Something else about the labels: slots, queue and holders as they were. -/
theorem Sound.marking {s : State} {m : Marking} (h : Sound s) (hq : m.queue = s.marking.queue)
    (hr : ∀ i, (m.slot i).record = (s.marking.slot i).record)
    (hf : ∀ i, (m.slot i).state = .free → (s.marking.slot i).state = .free) : Sound { s with marking := m } := by
  refine ⟨h.1.same rfl rfl, h.2.labels (fun _ => rfl) rfl ?_ ⟨fun i hi => ?_, ?_⟩ (fun _ => Iff.rfl)⟩
  · have ha := hr .a
    have hb := hr .b
    show m.holders.Perm _
    unfold Marking.holders
    rw [hq]
    have ha' : m.slotA.record = s.marking.slotA.record := ha
    have hb' : m.slotB.record = s.marking.slotB.record := hb
    rw [ha', hb']
  · show (m.slot i).record = none; rw [hr]; exact h.2.slots i (hf i hi)
  · show m.queue.length ≤ 8; rw [hq]; exact h.2.queue

theorem ackExpired_ok {s : State} (i : SlotId) (h : Sound s) : Sound (s.ackExpired i) := by
  unfold State.ackExpired
  split
  · exact retireSlot_ok _ h
  · exact h

theorem ackFrame_ok {s : State} (i : SlotId) (h : Sound s) : Sound (s.ackFrame i) := by
  unfold State.ackFrame
  apply ackExpired_ok
  refine h.marking (m := s.marking.setSlot i (s.marking.slot i).tick) ?_ ?_ ?_
  · cases i <;> rfl
  · intro j
    rw [Marking.slot_setSlot]
    split
    · rename_i hj; subst hj; unfold Slot.tick; split <;> rfl
    · rfl
  · intro j
    rw [Marking.slot_setSlot]
    split
    · rename_i hj; subst hj; unfold Slot.tick; split <;> exact id
    · exact id

theorem ackFrames_ok {s : State} (h : Sound s) : Sound s.ackFrames := by
  unfold State.ackFrames
  split
  · exact ackFrame_ok _ (ackFrame_ok _ h)
  · exact ackFrame_ok _ (ackFrame_ok _ h)

theorem startMessage_ok {s : State} (h : Sound s) : Sound s.startMessage :=
  h.marking (Marking.startMessage_queue _) (fun i => (Marking.startMessage_slot _ i).1) (fun i => (Marking.startMessage_slot _ i).2.1)

theorem messageSent_ok {s : State} (h : Sound s) : Sound { s with marking := s.marking.messageSent } := by
  unfold Marking.messageSent
  split
  · rename_i i k _
    set m : Marking := { s.marking.setSlot i { s.marking.slot i with state := .awaitAck, ackLeft := Config.framesPerMs * s.marking.ackMs }
      with transmitter := .idle } with hm
    have h1 : Sound { s with marking := m } := by
      refine h.marking ?_ ?_ ?_
      · cases i <;> rfl
      · intro j
        show ((s.marking.setSlot i _).slot j).record = _
        rw [Marking.slot_setSlot]
        split
        · rename_i hj; subst hj; rfl
        · rfl
      · intro j hj
        have hj' : ((s.marking.setSlot i { s.marking.slot i with state := .awaitAck, ackLeft := Config.framesPerMs * s.marking.ackMs }).slot j).state = .free := hj
        rw [Marking.slot_setSlot] at hj'
        split at hj'
        · cases hj'
        · exact hj'
    exact startMessage_ok h1
  · exact h
  · exact h

theorem transmitterStopped_ok {s : State} (h : Sound s) : Sound { s with marking := s.marking.transmitterStopped } := by
  unfold Marking.transmitterStopped
  split
  · exact startMessage_ok (s := { s with marking := { s.marking with transmitter := .idle } }) (h.marking rfl (fun i => by cases i <;> rfl) (fun i => by cases i <;> exact id))
  · exact h
  · exact h

theorem setReceiver_ok {s : State} (r : Receiver) (h : Sound s) : Sound (s.setReceiver r) :=
  h.marking rfl (fun i => by cases i <;> rfl) (fun i => by cases i <;> exact id)

theorem countCharError_ok {s : State} (h : Sound s) : Sound s.countCharError :=
  h.marking rfl (fun i => by cases i <;> rfl) (fun i => by cases i <;> exact id)

theorem completeReply_ok {s : State} (b : Bool) (i : SlotId) (h : Sound s) : Sound (s.completeReply b i) := by
  unfold State.completeReply
  split
  · exact retireSlot_ok _ h
  · exact h.marking rfl (fun i => by cases i <;> rfl) (fun i => by cases i <;> exact id)

theorem assembleReply_ok {s : State} (c : Byte) (h : Sound s) : Sound (s.assembleReply c) := by
  unfold State.assembleReply
  have e := countCharError_ok h
  split
  · split
    · exact setReceiver_ok _ h
    · split
      · exact setReceiver_ok _ h
      · exact e
  · split
    · exact setReceiver_ok _ h
    · split
      · exact setReceiver_ok _ h
      · exact setReceiver_ok _ e
  · split
    · exact completeReply_ok _ _ (setReceiver_ok _ h)
    · split
      · exact setReceiver_ok _ e
      · split
        · exact setReceiver_ok _ e
        · exact setReceiver_ok _ e

/-! ### RESTART and admission -/

/-- A nest without a unit in another such state. -/
theorem setNest_ok {n : Nest} {s : State} {q : Sequencer} (h : Sound s) (h1 : (s.nest n).state.holdsUnit = false)
    (h2 : q.state = .idle ∨ q.state = .reserved) (h3 : q.record = none) : Sound (s.setNest n q) := by
  have hs : (s.nest n).state ≠ .waitLanes ∧ (s.nest n).state.mayHoldLanes = false := by
    revert h1; cases (s.nest n).state <;> simp [NestState.holdsUnit, NestState.running, NestState.mayHoldLanes]
  have hr : (s.nest n).record = none := by
    have := h.2.nests n (by simp); rw [h1] at this; simpa using this
  have p : PoolBut (some n) (s.setNest n q) := (h.1.free hs.1 hs.2).only rfl rfl (fun m hm => State.nest_setNest_ne s hm _)
  have e : (s.setNest n q).holdersBut none = s.holdersBut none := by
    refine holdersBut_congr (fun m _ => ?_) rfl
    by_cases hm : m = n
    · subst hm; rw [State.nest_setNest, h3, hr]
    · rw [State.nest_setNest_ne s hm]
  refine ⟨p.settle ?_, ⟨h.2.count, e ▸ h.2.nodup, fun id => by rw [e]; exact h.2.held id, fun m _ => ?_, h.2.slots, h.2.queue⟩⟩
  · rw [State.nest_setNest]; rcases h2 with h2 | h2 <;> rw [h2] <;> decide
  · by_cases hm : m = n
    · subst hm; rw [State.nest_setNest, h3]
      rcases h2 with h2 | h2 <;> rw [h2] <;> rfl
    · rw [State.nest_setNest_ne s hm]; exact h.2.nests m (by simp)

theorem Sound.same {s t : State} (h : Sound s) (hn : t.nests = s.nests) (ha : t.analyser = s.analyser)
    (hr : t.records = s.records) (hm : t.marking = s.marking) : Sound t := by
  have e : ∀ m, t.nest m = s.nest m := fun m => by unfold State.nest; rw [hn]
  refine ⟨h.1.same ha hn, h.2.labels e (by rw [hr]) (by rw [hm]) ⟨by rw [hm]; exact h.2.slots, by rw [hm]; exact h.2.queue⟩ ?_⟩
  intro id; unfold State.record; rw [hr]

theorem emptyNest_nest (n m : Nest) : (s.emptyNest n).nest m = if m = n then (s.nest n).emptied else s.nest m := by
  unfold State.emptyNest
  by_cases hm : m = n
  · subst hm; simp
  · simp [hm, State.nest_modNest_ne _ hm]

theorem abortRunning_state (n : Nest) : ((s.abortRunning n).nest n).state = .idle := by
  unfold State.abortRunning; rw [emptyNest_nest, if_pos rfl]; rfl

theorem abortIfRunning_ok {n : Nest} {s : State} (h : Sound s) : Sound (State.abortIfRunning n s) := by
  unfold State.abortIfRunning
  split
  · rename_i hr; exact abortRunning_ok h hr
  · exact h

theorem stopAll_ok {s : State} (h : Sound s) : Sound s.stopAll :=
  abortIfRunning_ok (abortIfRunning_ok (abortIfRunning_ok (abortIfRunning_ok h)))

theorem restartNest_ok {n : Nest} {s : State} (h : Sound s) : Sound (State.restartNest n s) := by
  unfold State.restartNest
  dsimp only
  have key : ∀ t : State, Sound t → (t.nest n).state.holdsUnit = false → Sound ((t.setNest n .reset).modTone n Tone.silence) :=
    fun t ht h1 => (setNest_ok ht h1 (Or.inl rfl) rfl).same rfl rfl rfl rfl
  split
  · rename_i hr
    exact key _ (abortRunning_ok h hr) (by rw [abortRunning_state]; rfl)
  · rename_i hr
    split
    · rename_i hj
      refine key _ (discardJudged_ok true h hj) ?_
      unfold State.discardJudged
      split
      · rename_i hn
        have := h.2.nests n (by simp)
        rw [hn, hj] at this; cases this
      · rw [emptyNest_nest, if_pos rfl]; rfl
    · rename_i hj
      have hu : (s.nest n).state.holdsUnit = false := by
        unfold NestState.holdsUnit; simp [hj, hr]
      split
      · exact key _ (h.same rfl rfl rfl rfl) hu
      · exact key _ h hu

theorem restartNest_nest (n : Nest) : (State.restartNest n s).nest n = .reset := by
  unfold State.restartNest; simp

theorem discards_rest (ids : List Nat) :
    (ids.foldl (fun st id => st.discard id true) s).nests = s.nests ∧
    (ids.foldl (fun st id => st.discard id true) s).analyser = s.analyser ∧
    (ids.foldl (fun st id => st.discard id true) s).marking = s.marking ∧
    (ids.foldl (fun st id => st.discard id true) s).records.length = s.records.length ∧
    ∀ k, (ids.foldl (fun st id => st.discard id true) s).record k = if k ∈ ids then .free else s.record k := by
  induction ids generalizing s with
  | nil => exact ⟨rfl, rfl, rfl, rfl, fun k => by simp⟩
  | cons id ids ih =>
    obtain ⟨h1, h2, h3, h4, h5⟩ := ih (s.discard id true)
    refine ⟨h1, h2, h3, h4.trans (by simp [State.discard]), fun k => ?_⟩
    rw [List.foldl_cons, h5 k, discard_record]
    by_cases hk : k = id
    · subst hk; simp
    · simp [hk]

/-- The labels at a RESTART, once no nest holds a unit. -/
theorem restartMarking_ok {s : State} (h : Sound s) (hn : ∀ n, (s.nest n).record = none) : Sound s.restartMarking := by
  unfold State.restartMarking State.discardLabels
  dsimp only
  set ids := (s.marking.fillOrder.filterMap fun i => (s.marking.slot i).record) ++ s.marking.queue
  obtain ⟨h1, h2, h3, h4, h5⟩ := discards_rest s ids
  set t := ids.foldl (fun st id => st.discard id true) s
  have hmem : ∀ id, id ∈ s.holdersBut none ↔ id ∈ ids := by
    intro id
    rw [holdersBut_eq]
    have : Nest.order.flatMap (fun n => if some n = none then [] else (s.nest n).record.toList) = [] := by
      simp [hn]
    rw [this]
    simp only [List.nil_append, Marking.holders, List.mem_append, Option.mem_toList, ids, List.mem_filterMap]
    unfold Marking.fillOrder
    split <;> simp [Marking.slot] <;> tauto
  have hfree : ∀ id, (t.record id).state = .free := by
    intro id
    rw [h5]
    split
    · rfl
    · rename_i hid
      by_contra hne
      exact hid ((hmem id).1 ((h.2.held id).2 hne))
  set u : State := { t with marking := { t.marking with queue := [], slotA := .free, slotB := .free, lastFilled := none, transmitter := t.marking.transmitter.cut (Config.markingProgress t.freeCount), receiver := .expectKind } }
  have hu : u.holdersBut none = [] := by
    rw [holdersBut_eq]
    have : ∀ n, u.nest n = s.nest n := fun n => by show t.nests.get n = _; rw [h1]; rfl
    simp only [this, hn]
    rfl
  suffices hs : Sound u from hs.same rfl rfl rfl rfl
  refine ⟨h.1.same (t := u) h2 h1, ⟨h4.trans h.2.count, by rw [hu]; exact List.nodup_nil, fun id => ?_, fun n _ => ?_, ?_, ?_⟩⟩
  · rw [hu]
    have : u.record id = t.record id := rfl
    rw [this]; simp [hfree id]
  · have : u.nest n = s.nest n := by show t.nests.get n = _; rw [h1]; rfl
    rw [this]; exact h.2.nests n (by simp)
  · intro i _; cases i <;> rfl
  · show ([] : List Nat).length ≤ 8; simp

theorem restartNest_others (n m : Nest) (hm : m ≠ n) (h : (s.nest m) = .reset) (hp : PoolBut none s) :
    (State.restartNest n s).nest m = .reset := by
  have hw : (s.nest m).state ≠ .waitLanes := by rw [h]; decide
  unfold State.restartNest
  dsimp only
  rw [State.modTone_nest, State.nest_setNest_ne _ hm]
  split
  · unfold State.abortRunning
    rw [emptyNest_nest, if_neg hm]
    show (State.recordAborted _ n).nests.get m = _
    rw [(recordAborted_rest _ n).1]
    show (State.lowerUse _ n).nests.get m = _
    rw [(lowerUse_rest _ n).1]
    show State.nest _ m = _
    rw [State.nest_modNest_ne _ hm]
    rw [((grants_giveBack (n := n) hp).nests m).same hw, h]
  · split
    · unfold State.discardJudged
      split
      · exact h
      · rw [emptyNest_nest, if_neg hm]; exact h
    · split
      · exact h
      · exact h

theorem restart_ok {s : State} (h : Sound s) : Sound s.restart := by
  have s1 := restartNest_ok (n := .n1) h
  have s2 := restartNest_ok (n := .n2) s1
  have s3 := restartNest_ok (n := .n3) s2
  have s4 := restartNest_ok (n := .n4) s3
  have a := restartNest_nest s .n1
  have a2 := restartNest_others _ .n2 .n1 (by decide) a s1.1
  have b2 := restartNest_nest (State.restartNest .n1 s) .n2
  have a3 := restartNest_others _ .n3 .n1 (by decide) a2 s2.1
  have b3 := restartNest_others _ .n3 .n2 (by decide) b2 s2.1
  have c3 := restartNest_nest (State.restartNest .n2 (State.restartNest .n1 s)) .n3
  have a4 := restartNest_others _ .n4 .n1 (by decide) a3 s3.1
  have b4 := restartNest_others _ .n4 .n2 (by decide) b3 s3.1
  have c4 := restartNest_others _ .n4 .n3 (by decide) c3 s3.1
  have d4 := restartNest_nest (State.restartNest .n3 (State.restartNest .n2 (State.restartNest .n1 s))) .n4
  unfold State.restart
  dsimp only
  refine (restartMarking_ok s4 (fun n => ?_)).same rfl rfl rfl rfl
  cases n
  · rw [a4]; rfl
  · rw [b4]; rfl
  · rw [c4]; rfl
  · rw [d4]; rfl

/-- The lowest FREE record is FREE and one of the table's. -/
theorem lowestFree_spec {id : Nat} {s : State} (h : s.lowestFree = some id) :
    id < s.records.length ∧ (s.record id).state = .free := by
  unfold State.lowestFree at h
  obtain ⟨hl, hp, -⟩ := List.findIdx?_eq_some_iff_getElem.1 h
  refine ⟨hl, ?_⟩
  unfold State.record
  rw [List.getD_eq_getElem?_getD, List.getElem?_eq_getElem hl]
  simpa using hp

theorem admit_ok {n : Nest} {id p : Nat} {c : Word} {f : ProgramFields} {s : State} (h : Sound s)
    (hi : (s.nest n).state = .idle) (hid : s.lowestFree = some id) (hf : (s.recipe.entry p).fields = some f) :
    Sound (s.seat n id c p f) := by
  obtain ⟨hl, hfree⟩ := lowestFree_spec hid
  have p0 := h.1.free (n := n) (by rw [hi]; decide) (by rw [hi]; rfl)
  unfold State.seat
  dsimp only
  set s1 := s.setRecord id (.opened n c p s.link.frameIndex)
  set s2 : State := { s1 with recipe := { s1.recipe with useCount := s1.recipe.useCount.set p (s1.recipe.uses p + 1) } }
  set s3 := s2.modNest n (fun q => q.seat id p f)
  have p3 : PoolBut (some n) s3 := p0.only rfl rfl (fun m hm => State.nest_modNest_ne s2 hm _)
  have n3 : s3.nest n = (s.nest n).seat id p f := State.nest_modNest s2 n _
  have n3' : ∀ m, m ≠ n → s3.nest m = s.nest m := fun m hm => State.nest_modNest_ne s2 hm _
  have hprog : s3.programFields n = some f := by
    unfold State.programFields; rw [n3]; exact hf
  set s4 := s3.loadStep n
  have e4 : s4 = s3.modNest n (fun q => { q with step := some (s3.recipe.stepOf f (s3.nest n).stepIndex).1,
                                                 limits := (s3.recipe.stepOf f (s3.nest n).stepIndex).2 }) := by
    show s3.loadStep n = _
    unfold State.loadStep; rw [hprog]
  have st4 : (s4.nest n).step = some (s3.recipe.stepOf f (s3.nest n).stepIndex).1 := by rw [e4, State.nest_modNest]
  have p4 : PoolBut (some n) s4 := loadStep_pool p3
  unfold State.openFirstGap
  dsimp only
  show Sound (match (s4.nest n).step with | none => s4 | some st => s4.openGap n st)
  rw [st4]
  dsimp only
  set st := (s3.recipe.stepOf f (s3.nest n).stepIndex).1
  have a5 := acts_openGap s4 n st
  have a4 := acts_loadStep s3 n
  have p5 : PoolBut (some n) (s4.openGap n st) :=
    p4.only (by rw [openGap_analyser]) (by rw [openGap_analyser]) (fun _ hm => openGap_nest_ne _ hm st)
  refine ⟨p5.settle (by rw [openGap_nest]; decide), ?_⟩
  have rn : ((s4.openGap n st).nest n).record = some id := by
    rw [a5.record, a4.record, n3]; rfl
  have rm : ∀ m, m ≠ n → (s4.openGap n st).nest m = s.nest m := by
    intro m hm
    rw [openGap_nest_ne _ hm]
    show (s3.loadStep n).nest m = _
    rw [loadStep_nest_ne _ hm, n3' m hm]
  have hm : (s4.openGap n st).marking = s.marking := a5.marking.trans a4.marking
  have hs : ∀ k, ((s4.openGap n st).record k).state = ((s1.record k)).state := by
    intro k; rw [a5.states, a4.states]; rfl
  have hperm : ((s4.openGap n st).holdersBut none).Perm (id :: s.holdersBut none) := by
    have e1 := holdersBut_perm (s4.openGap n st) n
    have e2 := holdersBut_perm s n
    have rs : (s.nest n).record = none := by
      have := h.2.nests n (by simp)
      rw [hi] at this; simpa [NestState.holdsUnit, NestState.running] using this
    rw [rn] at e1
    rw [rs] at e2
    have e3 : (s4.openGap n st).holdersBut (some n) = s.holdersBut (some n) :=
      holdersBut_congr (fun m hm' => by rw [rm m (by simpa using hm')]) hm
    rw [e3] at e1
    exact e1.trans (List.Perm.cons id e2.symm)
  have hnot : id ∉ s.holdersBut none := fun hin => (h.2.held id).1 hin hfree
  refine ⟨?_, hperm.nodup_iff.2 (List.nodup_cons.2 ⟨hnot, h.2.nodup⟩), fun k => ?_, fun m _ => ?_, by rw [hm]; exact h.2.slots,
    by rw [hm]; exact h.2.queue⟩
  · rw [a5.count, a4.count]; show s1.records.length = 14; simp [s1]; exact h.2.count
  · rw [hperm.mem_iff, hs, List.mem_cons, record_setRecord_eq]
    by_cases hk : k = id
    · subst hk; simp [hl, UnitRecord.opened]
    · simp only [hk, false_and, if_false, false_or]; exact h.2.held k
  · by_cases hmn : m = n
    · subst hmn; rw [rn, openGap_nest]; rfl
    · rw [rm m hmn]; exact h.2.nests m (by simp)

/-! ### The guard and the nests taking one frame -/

/-- A nest whose run is over but for its verdict. -/
def State.spent (s : State) (n : Nest) : Prop :=
  s.analyser.lanesOf n = 0 ∧ (s.nest n).state.counts = true

/-- A turn in progress: the state sound, a nest with a kept verdict spent, and a nest that has not taken the frame yet in
the state it counts it for. -/
structure TurnOk (t : Turn) : Prop where
  sound : Sound t.state
  ended : ∀ n, t.endings.get n ≠ none → t.state.spent n
  before : ∀ n, t.taken.get n = false → (t.before.get n).counts = true →
    (t.state.nest n).state = t.before.get n ∧ t.endings.get n = none

theorem PoolBut.spent {n : Nest} {s : State} (h : PoolBut none s) (hs : s.spent n) : PoolBut (some n) s := by
  refine ⟨fun m _ => h.requests m (by simp), fun m _ => h.lanes m (by simp), fun m hm => ?_, h.sizes⟩
  cases hm
  exact ⟨by rw [h.requests n (by simp), if_neg (counts_wait hs.2)], hs.1⟩

/-- The others' verdicts outlast an operation on one nest. -/
theorem Acts.spent {n m : Nest} {s t : State} (a : Acts n s t) (hm : m ≠ n) (hs : s.spent m) : t.spent m := by
  have e := (a.others m hm).same (counts_wait hs.2)
  unfold State.spent
  rw [a.lanes m hm (counts_wait hs.2), e]
  exact hs

/-- An operation on one nest that sets it running or keeps it so, within a turn. -/
theorem TurnOk.run {t : Turn} {n : Nest} {f : State → State × Option Ending} (h : TurnOk t) (r : RunOk n t.state (f t.state))
    (hr : (t.state.nest n).state.running = true) (he : t.endings.get n = none)
    (hb : t.taken.get n = false → (t.before.get n).counts = true → False) : TurnOk (t.run n f) := by
  refine ⟨⟨r.pool, r.units h.sound.2 hr⟩, fun m hm => ?_, fun m hm hc => ?_⟩
  · show (f t.state).1.spent m
    by_cases hmn : m = n
    · subst hmn
      have hne : (f t.state).2 ≠ none := by
        intro hn
        apply hm
        show (match (f t.state).2 with | none => t.endings | some e => t.endings.set m (some e)).get m = none
        rw [hn]; exact he
      obtain ⟨p, w⟩ := r.ended hne
      exact ⟨(p.off m rfl).2, w⟩
    · apply r.acts.spent hmn
      apply h.ended
      intro hn
      apply hm
      show (match (f t.state).2 with | none => t.endings | some e => t.endings.set n (some e)).get m = none
      split
      · exact hn
      · rw [PerNest.get_set_ne _ hmn]; exact hn
  · replace hc : (t.before.get m).counts = true := hc
    have hmn : m ≠ n := by rintro rfl; exact hb hm hc
    obtain ⟨h1, h2⟩ := h.before m hm hc
    refine ⟨?_, ?_⟩
    · show ((f t.state).1.nest m).state = t.before.get m
      rw [(r.acts.others m hmn).same ?_, h1]
      exact counts_wait (h1 ▸ hc)
    · show (match (f t.state).2 with | none => t.endings | some e => t.endings.set n (some e)).get m = none
      split
      · exact h2
      · rw [PerNest.get_set_ne _ hmn]; exact h2


theorem insertAt_perm {α : Type} (k : Nat) (x : α) (l : List α) : (insertAt k x l).Perm (x :: l) := by
  induction l generalizing k with
  | nil => exact .refl _
  | cons y ys ih =>
    unfold insertAt
    split
    · exact .refl _
    · exact ((ih (k - 1)).cons y).trans (.swap x y ys)

theorem permute_perm {α : Type} (code : Nat) (l : List α) : (permute code l).Perm l := by
  induction l generalizing code with
  | nil => exact .refl _
  | cons x xs ih => exact (insertAt_perm _ x _).trans ((ih _).cons x)

/-- A change of nothing that a turn is about. -/
theorem TurnOk.same {t : Turn} {s : State} (h : TurnOk t) (hn : s.nests = t.state.nests) (ha : s.analyser = t.state.analyser)
    (hr : s.records = t.state.records) (hm : s.marking = t.state.marking) : TurnOk { t with state := s } := by
  have e : ∀ m, s.nest m = t.state.nest m := fun m => by unfold State.nest; rw [hn]
  refine ⟨h.sound.same hn ha hr hm, fun n hne => ?_, fun n h1 h2 => ?_⟩
  · have := h.ended n hne
    unfold State.spent at this ⊢
    simp only [e, ha]; exact this
  · simp only [e]; exact h.before n h1 h2

theorem entryAt_ok {t : Turn} (n : Nest) (h : TurnOk t) : TurnOk (t.entryAt n) := by
  unfold Turn.entryAt
  dsimp only
  split
  · exact h
  · rename_i h1
    have he : t.endings.get n = none := by
      by_contra hne
      exact h1 (Or.inl (Option.isSome_iff_ne_none.2 hne))
    split
    · exact h
    · rename_i h2
      split
      · rename_i hs
        have hb : t.taken.get n = false → (t.before.get n).counts = true → False := fun h3 h4 =>
          h2 ⟨by rw [← (h.before n h3 h4).1, hs], h3⟩
        split
        · have r := backToGuardWait_ok h.sound.1 (n := n) (by rw [hs]; decide)
          exact (h.run (f := fun s => (s.backToGuardWait n, none)) r (by rw [hs]; rfl) he hb)
        · exact h.run (spoil_ok _ h.sound.1 (by rw [hs]; rfl)) (by rw [hs]; rfl) he hb
      · rename_i hs
        split
        · rename_i h3
          exact h.run (spoil_ok _ h.sound.1 (by rw [hs]; rfl)) (by rw [hs]; rfl) he (fun h4 => by rw [h3.2] at h4; cases h4)
        · exact h
      · exact h

@[simp] theorem Turn.run_taken (t : Turn) (n : Nest) (f : State → State × Option Ending) : (t.run n f).taken = t.taken := rfl

theorem entryAt_taken (t : Turn) (n : Nest) : (t.entryAt n).taken = t.taken := by
  unfold Turn.entryAt
  dsimp only
  split
  · rfl
  · split
    · rfl
    · split
      · split <;> rfl
      · split <;> rfl
      · rfl

theorem entries_ok {t : Turn} (ns : List Nest) (h : TurnOk t) :
    TurnOk (ns.foldl Turn.entryAt t) ∧ (ns.foldl Turn.entryAt t).taken = t.taken := by
  induction ns generalizing t with
  | nil => exact ⟨h, rfl⟩
  | cons n ns ih =>
    obtain ⟨h1, h2⟩ := ih (entryAt_ok n h)
    exact ⟨h1, h2.trans (entryAt_taken t n)⟩

theorem enterLoud_ok {t : Turn} (c : GuardCauses) (l : Option Int) (h : TurnOk t) :
    TurnOk (t.enterLoud c l) ∧ (t.enterLoud c l).taken = t.taken := by
  unfold Turn.enterLoud
  dsimp only
  have h1 := h.same (s := { t.state with guard := { t.state.guard.clearHold with
    loud := true, loudEntries := count t.state.guard.loudEntries 1 } }) rfl rfl rfl rfl
  exact entries_ok _ (t := { t with
    state := { t.state with guard := { t.state.guard.clearHold with loud := true, loudEntries := count t.state.guard.loudEntries 1 } }
    entered := true
    notice := some (.guard true t.state.link.frameIndex c (if c.block then l else none) (count t.state.guard.loudEntries 1)) })
    ⟨h1.sound, h1.ended, h1.before⟩

/-- Some nests that waited for quiet enter their windows. -/
theorem enterWindows_ok {s : State} (ns : List Nest) (h : Sound s) (hg : ∀ n ∈ ns, (s.nest n).state = .guardWait ∨ (s.nest n).state = .window) :
    Sound (ns.foldl State.enterWindow s) ∧
    (∀ m, (ns.foldl State.enterWindow s).nest m =
      if m ∈ ns then { s.nest m with state := .window, windowCount := 0 } else s.nest m) ∧
    (∀ m, (ns.foldl State.enterWindow s).analyser.lanesOf m = s.analyser.lanesOf m) := by
  induction ns generalizing s with
  | nil => exact ⟨h, fun m => by simp, fun _ => rfl⟩
  | cons n ns ih =>
    have hn := hg n List.mem_cons_self
    have hw : (s.nest n).state ≠ .waitLanes := by rcases hn with hn | hn <;> rw [hn] <;> decide
    have hu : (s.nest n).state.holdsUnit = true := by rcases hn with hn | hn <;> rw [hn] <;> rfl
    have e : ∀ m, (s.enterWindow n).nest m = if m = n then { s.nest n with state := .window, windowCount := 0 } else s.nest m :=
      enterWindow_nest s n
    have h1 : Sound (s.enterWindow n) :=
      ⟨enterWindow_pool h.1 hw, h.2.acts (acts_enterWindow s n) (by rw [e, if_pos rfl, hu]; rfl)⟩
    obtain ⟨h2, h3, h4⟩ := ih h1 (fun m hm => by
      rw [e]
      split
      · exact Or.inr rfl
      · exact hg m (List.mem_cons_of_mem _ hm))
    refine ⟨h2, fun m => ?_, fun m => ?_⟩
    · rw [List.foldl_cons, h3 m, e]
      by_cases hmn : m = n
      · subst hmn; simp
      · simp [hmn]
    · rw [List.foldl_cons, h4 m, enterWindow_analyser]; exact Analyser.lanesOf_startWindow _ n m

theorem mem_waitingForQuiet {s : State} {k : Nat} {n : Nest} :
    n ∈ permute k s.waitingForQuiet ↔ (s.nest n).state = .guardWait := by
  rw [(permute_perm _ _).mem_iff]
  unfold State.waitingForQuiet
  rw [List.mem_filter, decide_eq_true_eq]
  exact ⟨fun h => h.2, fun h => ⟨by cases n <;> decide, h⟩⟩

/-- The return to QUIET: nests in GUARD_WAIT, and no others, enter WINDOW. -/
theorem becomeQuiet_ok {s : State} (c : GuardCauses) (h : Sound s) :
    Sound (s.becomeQuiet c) ∧
    (∀ m, (s.becomeQuiet c).nest m =
      if (s.nest m).state = .guardWait then { s.nest m with state := .window, windowCount := 0 } else s.nest m) ∧
    ∀ m, (s.becomeQuiet c).analyser.lanesOf m = s.analyser.lanesOf m := by
  unfold State.becomeQuiet
  dsimp only
  set s1 : State := { s with guard := { s.guard.clearHold with loud := false, holdDue := false } }
  have h1 : Sound s1 := h.same rfl rfl rfl rfl
  obtain ⟨a, b, c⟩ := enterWindows_ok (s := s1) (s1.freeOrder s1.waitingForQuiet) h1 (fun n hn =>
    Or.inl (mem_waitingForQuiet.1 hn))
  refine ⟨a.same rfl rfl rfl rfl, fun m => ?_, c⟩
  rw [State.notice_nest, b m]
  have : m ∈ s1.freeOrder s1.waitingForQuiet ↔ (s.nest m).state = .guardWait := mem_waitingForQuiet
  simp only [this]
  rfl

theorem quiet_turn {t : Turn} (c : GuardCauses) (h : TurnOk t) : TurnOk { t with state := t.state.becomeQuiet c } := by
  obtain ⟨a, b, d⟩ := becomeQuiet_ok c h.sound
  have key : ∀ n, (t.state.nest n).state.counts = true → (t.state.becomeQuiet c).nest n = t.state.nest n := by
    intro n hn
    rw [b, if_neg]
    intro hg; rw [hg] at hn; cases hn
  refine ⟨a, fun n hn => ?_, fun n h1 h2 => ?_⟩
  · have hs := h.ended n hn
    unfold State.spent at hs ⊢
    show (t.state.becomeQuiet c).analyser.lanesOf n = 0 ∧ ((t.state.becomeQuiet c).nest n).state.counts = true
    rw [d, key n hs.2]; exact hs
  · have hb := h.before n h1 h2
    show ((t.state.becomeQuiet c).nest n).state = _ ∧ _
    rw [key n (by rw [hb.1]; exact h2)]; exact hb

theorem guardHoldEnd_turn {t : Turn} (h : TurnOk t) : TurnOk { t with state := t.state.guardHoldEnd } := by
  unfold State.guardHoldEnd
  split
  · exact quiet_turn _ h
  · exact h

theorem judgeGuard_ok {t : Turn} (l : Option Int) (h : TurnOk t) :
    TurnOk (t.judgeGuard l) ∧ (t.judgeGuard l).taken = t.taken := by
  unfold Turn.judgeGuard
  dsimp only
  split
  · exact ⟨h, rfl⟩
  · split
    · split
      · exact ⟨h.same rfl rfl rfl rfl, rfl⟩
      · exact enterLoud_ok _ _ h
    · split
      · exact ⟨guardHoldEnd_turn (h.same (s := { t.state with guard := t.state.guard.holdFrame _ l }) rfl rfl rfl rfl), rfl⟩
      · exact ⟨h, rfl⟩

theorem guardBlockEnd_ok {t : Turn} (h : TurnOk t) : TurnOk t.guardBlockEnd ∧ t.guardBlockEnd.taken = t.taken := by
  unfold Turn.guardBlockEnd
  dsimp only
  exact judgeGuard_ok _ (h.same rfl rfl rfl rfl)

theorem guardFrame_ok {t : Turn} (h : TurnOk t) : TurnOk t.guardFrame ∧ t.guardFrame.taken = t.taken := by
  unfold Turn.guardFrame
  dsimp only
  split
  · exact guardBlockEnd_ok (h.same (s := { t.state with guard := _ }) rfl rfl rfl rfl)
  · exact judgeGuard_ok _ (h.same rfl rfl rfl rfl)

/-! ### One nest takes the frame -/

theorem gapFrame_ok {n : Nest} {s : State} (h : PoolBut none s) (hs : (s.nest n).state = .gap) : RunOk n s (s.gapFrame n) := by
  have hc : (s.nest n).state.counts = true := by rw [hs]; rfl
  unfold State.gapFrame
  dsimp only
  set s1 := s.modNest n (fun q => { q with gap := q.gap.map (fun g => { g with left := g.left - 1 }) })
  have e : (s1.nest n).state = (s.nest n).state := by simp [s1]
  have p : PoolBut (some n) s1 := (h.free (counts_wait hc) (by rw [hs]; rfl)).only rfl rfl (fun _ hm => State.nest_modNest_ne s hm _)
  have a : Acts n s s1 := acts_modNest s n _ rfl
  split
  · exact (gapPhaseEnd_ok p (by rw [e]; exact hc)).after a
  · exact .stay (p.settle (by rw [e]; exact counts_wait hc)) a (by rw [e]; exact counts_running hc)

theorem settleFrame_ok {n : Nest} {s : State} (h : PoolBut none s) (hs : (s.nest n).state = .settle) :
    RunOk n s (s.settleFrame n) := by
  have hc : (s.nest n).state.counts = true := by rw [hs]; rfl
  unfold State.settleFrame
  dsimp only
  set d := (s.analyser.detector.get n).take (s.micSample n) s.link.current.substituted
  set s1 := (s.modNest n (fun q => { q with settleElapsed := q.settleElapsed + 1 })).setDetector n d
  have e : (s1.nest n).state = (s.nest n).state := by simp [s1]
  have p : PoolBut (some n) s1 := (h.free (counts_wait hc) (by rw [hs]; rfl)).only rfl rfl
    (fun _ hm => by simp [s1, State.nest_modNest_ne s hm])
  have a : Acts n s s1 := Acts.after (acts_setDetector _ n n _) (acts_modNest s n _ rfl)
  split
  · obtain ⟨p2, a2, e2⟩ := settleBlockEnd_ok (n := n) p
    exact (testSettle_ok p2 (by rw [e2, e]; exact hc)).after (a.trans a2)
  · exact (testSettle_ok p (by rw [e]; exact hc)).after a

theorem conditionFrame_ok {n : Nest} {s : State} (w : Bool) (h : PoolBut none s) (hs : (s.nest n).state = .condition) :
    RunOk n s (s.conditionFrame n w) := by
  have hc : (s.nest n).state.counts = true := by rw [hs]; rfl
  have p : PoolBut (some n) (s.modTone n Tone.burstWrap) := (h.free (counts_wait hc) (by rw [hs]; rfl)).only rfl rfl (fun _ _ => rfl)
  unfold State.conditionFrame
  dsimp only
  split
  · split
    · exact (burstPhaseEnd_ok p hc).after (acts_modTone s n n _)
    · exact .stay (p.settle (counts_wait hc)) (acts_modTone s n n _) (counts_running hc)
  · exact .stay h (.refl _ _) (counts_running hc)

/-- The expiry taken inside a frame: what the nest holds is given back, and its run is to end. -/
theorem timeOut_ok {n : Nest} {s : State} (h : PoolBut none s) (hc : (s.nest n).state.counts = true) :
    RunOk n s (s.timeOut n) := by
  have g := grants_giveBack (n := n) h
  have eg := g.out n rfl
  have c1 : ((s.giveBack n).nest n).state.counts = true := by rw [eg]; exact hc
  exact ⟨g.pool.settle (counts_wait c1), g.acts, counts_running c1, fun _ => ⟨g.pool, c1⟩⟩

theorem windowCheck_ok {n : Nest} {s : State} (h : PoolBut none s) (hc : (s.nest n).state.counts = true) :
    PoolBut none (s.windowCheck n) ∧ Acts n s (s.windowCheck n) ∧ ((s.windowCheck n).nest n).state.counts = true := by
  unfold State.windowCheck
  split
  · have r := windowComplete_ok h (counts_wait hc)
    exact ⟨r.pool, r.acts, by simp [State.windowComplete]; rfl⟩
  · exact ⟨h, .refl _ _, hc⟩

theorem windowFrame_ok {n : Nest} {s : State} (ph : Word) (e x : Bool) (h : PoolBut none s) (hs : (s.nest n).state = .window) :
    RunOk n s (s.windowFrame n ph e x) := by
  have hc : (s.nest n).state.counts = true := by rw [hs]; rfl
  set s1 := s.countWindowFrame n ph
  have e1 : s1.nest n = { s.nest n with windowCount := (s.nest n).windowCount + 1 } := by
    simp [s1, State.countWindowFrame]
  have e2 : ∀ m, m ≠ n → s1.nest m = s.nest m := fun m hm => by
    simp [s1, State.countWindowFrame, State.nest_modNest_ne _ hm]
  have a : Acts n s s1 := Acts.after (acts_captureSample _ n n _) (Acts.after (acts_modAnalyser _ n _
    (fun m _ => Analyser.lanesOf_windowFrame _ n m _ _ _)) (acts_modNest s n _ rfl))
  have p : PoolBut none s1 := h.swap (n := n) rfl (fun m => Analyser.lanesOf_windowFrame _ n m _ _ _) e2 (counts_wait hc)
    (by rw [e1]; show (s.nest n).state.mayHoldLanes = true; rw [hs]; rfl)
  have c1 : (s1.nest n).state.counts = true := by rw [e1]; exact hc
  obtain ⟨p2, a2, c2⟩ := windowCheck_ok p c1
  unfold State.windowFrame
  dsimp only
  split
  · split
    · exact (timeOut_ok p c1).after a
    · exact (spoil_ok _ p c1).after a
  · split
    · exact (timeOut_ok p2 c2).after (a.trans a2)
    · exact .stay p2 (a.trans a2) (counts_running c2)

theorem evaluateFrame_ok {n : Nest} {s : State} (h : PoolBut none s) (hs : (s.nest n).state = .evaluate) :
    RunOk n s (s.evaluateFrame n) := by
  have hc : (s.nest n).state.counts = true := by rw [hs]; rfl
  unfold State.evaluateFrame
  split
  · exact .stay h (.refl _ _) (counts_running hc)
  · rename_i k _
    dsimp only
    set s1 := s.modAnalyser (fun a => a.setEvaluation n (some (k + 1)))
    have p : PoolBut none s1 := h.congr rfl (fun _ => rfl) (fun _ _ => rfl)
    have a : Acts n s s1 := acts_modAnalyser s n _ (fun _ _ => rfl)
    split
    · exact (completeEvaluation_ok p hc).after a
    · exact .stay p a (counts_running hc)

theorem nestFrame_ok {t : Turn} {n : Nest} (f : ToneFrame) (h : TurnOk t) (hu : t.taken.get n = false) :
    TurnOk (t.nestFrame n f) ∧ (t.nestFrame n f).taken = t.taken.set n true := by
  have hq : ∀ q : Sequencer, q.deadlineFrame.state = q.state ∧ q.deadlineFrame.record = q.record := by
    intro q; unfold Sequencer.deadlineFrame; split <;> exact ⟨rfl, rfl⟩
  set t1 : Turn := { t with state := t.state.modNest n Sequencer.deadlineFrame, taken := t.taken.set n true } with ht1
  have e1 : ∀ m, (t1.state.nest m).state = (t.state.nest m).state := by
    intro m
    by_cases hm : m = n
    · subst hm; show ((t.state.modNest m _).nest m).state = _; rw [State.nest_modNest]; exact (hq _).1
    · show ((t.state.modNest n _).nest m).state = _; rw [State.nest_modNest_ne _ hm]
  have a : Acts n t.state t1.state := acts_modNest _ n _ (hq _).2
  have s1 : Sound t1.state :=
    ⟨h.sound.1.congr rfl (fun _ => rfl) (fun m _ => e1 m), h.sound.2.acts a (by rw [e1])⟩
  have h1 : TurnOk t1 := by
    refine ⟨s1, fun m hm => ?_, fun m hm hc => ?_⟩
    · have := h.ended m hm
      unfold State.spent at this ⊢
      rw [e1]; exact this
    · have hmn : m ≠ n := by
        rintro rfl
        have : (t.taken.set m true).get m = false := hm
        rw [PerNest.get_set_self] at this; cases this
      have hm' : (t.taken.set n true).get m = false := hm
      rw [PerNest.get_set_ne _ hmn] at hm'
      rw [e1]; exact h.before m hm' hc
  have hb : t1.taken.get n = false → (t1.before.get n).counts = true → False := by
    intro hk _
    have : (t.taken.set n true).get n = false := hk
    rw [PerNest.get_set_self] at this; cases this
  have key : (t.before.get n).counts = true → (t1.state.nest n).state = t.before.get n ∧ t1.endings.get n = none := by
    intro hc
    obtain ⟨k1, k2⟩ := h.before n hu hc
    exact ⟨(e1 n).trans k1, k2⟩
  unfold Turn.nestFrame
  dsimp only
  split
  · rename_i hx
    have hb1 : t.before.get n = .evaluate := hx.1
    have hc : (t.before.get n).counts = true := by rw [hb1]; rfl
    obtain ⟨k1, k2⟩ := key hc
    have c1 : (t1.state.nest n).state.counts = true := by rw [k1]; exact hc
    exact ⟨h1.run (f := fun s => s.timeOut n) (timeOut_ok s1.1 c1) (counts_running c1) k2 hb, rfl⟩
  · show TurnOk (t1.count n f) ∧ (t1.count n f).taken = t1.taken
    have hkey : ∀ q : NestState, t.before.get n = q → q.counts = true → ∀ g : State → State × Option Ending,
        RunOk n t1.state (g t1.state) → TurnOk (t1.run n g) ∧ (t1.run n g).taken = t1.taken := by
      intro q hq1 hq2 g hg
      obtain ⟨k1, k2⟩ := key (by rw [hq1]; exact hq2)
      exact ⟨h1.run hg (by rw [k1, hq1]; exact counts_running hq2) k2 hb, rfl⟩
    unfold Turn.count
    split
    · rename_i hq; exact hkey _ hq rfl _ (gapFrame_ok s1.1 ((key (by show (t1.before.get n).counts = true; rw [hq]; rfl)).1.trans hq))
    · rename_i hq; exact hkey _ hq rfl _ (settleFrame_ok s1.1 ((key (by show (t1.before.get n).counts = true; rw [hq]; rfl)).1.trans hq))
    · rename_i hq; exact hkey _ hq rfl _ (conditionFrame_ok _ s1.1 ((key (by show (t1.before.get n).counts = true; rw [hq]; rfl)).1.trans hq))
    · rename_i hq; exact hkey _ hq rfl _ (windowFrame_ok _ _ _ s1.1 ((key (by show (t1.before.get n).counts = true; rw [hq]; rfl)).1.trans hq))
    · rename_i hq; exact hkey _ hq rfl _ (evaluateFrame_ok s1.1 ((key (by show (t1.before.get n).counts = true; rw [hq]; rfl)).1.trans hq))
    all_goals exact ⟨h1, rfl⟩

/-! ### The end of a turn -/

theorem judge_ok {t : Turn} {s : State} (n : Nest) (h : Sound s) (he : t.endings.get n ≠ none → s.spent n) :
    Sound (t.judge n s) ∧ ∀ m, m ≠ n → s.spent m → (t.judge n s).spent m := by
  unfold Turn.judge
  split
  · rename_i e hh
    have sp := he (by rw [hh]; simp)
    have j := judges_verdict s n e
    refine ⟨verdict_ok e (h.1.spent sp) h.2 (counts_running sp.2), fun m hm hs => ?_⟩
    unfold State.spent at hs ⊢
    rw [j.others m hm]
    unfold Analyser.lanesOf at hs ⊢
    rw [j.lanes]; exact hs
  · refine ⟨expire_ok h, fun m hm hs => ?_⟩
    unfold State.expire
    split
    · rename_i hc
      have g := grants_giveBack (n := n) h.1
      have hs1 := g.acts.spent hm hs
      have j := judges_verdict (s.giveBack n) n (.named .retestTimeout)
      unfold State.endRun State.spent at *
      rw [j.others m hm]
      unfold Analyser.lanesOf at hs1 ⊢
      rw [j.lanes]; exact hs1
    · exact hs

theorem finish_ok {t : Turn} (h : TurnOk t) : Sound t.finish := by
  have h1 := judge_ok (t := t) .n1 h.sound (h.ended .n1)
  have h2 := judge_ok (t := t) .n2 h1.1 (fun he => h1.2 .n2 (by decide) (h.ended .n2 he))
  have h3 := judge_ok (t := t) .n3 h2.1 (fun he => h2.2 .n3 (by decide) (h1.2 .n3 (by decide) (h.ended .n3 he)))
  have h4 := judge_ok (t := t) .n4 h3.1
    (fun he => h3.2 .n4 (by decide) (h2.2 .n4 (by decide) (h1.2 .n4 (by decide) (h.ended .n4 he))))
  unfold Turn.finish
  dsimp only
  split
  · exact h4.1
  · exact h4.1.same rfl rfl rfl rfl

theorem start_ok {s : State} (b : Bool) (h : Sound s) : TurnOk (Turn.start s b) := by
  refine ⟨h, fun n hn => ?_, fun n _ _ => ?_⟩
  · exfalso; apply hn; cases n <;> rfl
  · refine ⟨?_, by cases n <;> rfl⟩
    show _ = (s.nests.map (fun q => q.state)).get n
    rw [PerNest.get_map]; rfl

theorem consumers_ok {t : Turn} (f : PerNest ToneFrame) (cs : List Consumer) (h : TurnOk t) (hd : cs.Nodup)
    (hu : ∀ n, Consumer.nest n ∈ cs → t.taken.get n = false) : TurnOk (cs.foldl (Turn.consume f) t) := by
  induction cs generalizing t with
  | nil => exact h
  | cons c cs ih =>
    rw [List.nodup_cons] at hd
    cases c with
    | guard =>
      obtain ⟨h1, h2⟩ := guardFrame_ok h
      refine ih h1 hd.2 (fun n hn => ?_)
      show t.guardFrame.taken.get n = false
      rw [h2]; exact hu n (List.mem_cons_of_mem _ hn)
    | nest m =>
      obtain ⟨h1, h2⟩ := nestFrame_ok (f.get m) h (hu m List.mem_cons_self)
      refine ih h1 hd.2 (fun n hn => ?_)
      show (t.nestFrame m (f.get m)).taken.get n = false
      have hnm : n ≠ m := by rintro rfl; exact hd.1 hn
      rw [h2, PerNest.get_set_ne _ hnm]; exact hu n (List.mem_cons_of_mem _ hn)

theorem consumers_nodup : s.consumers.Nodup := by
  have h1 : (Consumer.guard :: (Nest.order.filter (fun n => (s.nest n).state.running)).map Consumer.nest).Nodup := by
    rw [List.nodup_cons]
    refine ⟨by simp, ?_⟩
    refine List.Nodup.map (fun a b h => by cases h; rfl) (List.Nodup.filter _ (by decide))
  unfold State.consumers
  dsimp only
  split
  · exact (permute_perm _ _).nodup_iff.2 h1
  · exact ((permute_perm _ _).cons _).nodup_iff.2 h1

theorem consumeFrame_ok {s : State} (f : PerNest ToneFrame) (h : Sound s) : Sound (s.consumeFrame f) := by
  unfold State.consumeFrame
  refine finish_ok (consumers_ok f _ (start_ok false h) (consumers_nodup s) (fun n _ => ?_))
  cases n <;> rfl

theorem consumeWithAcks_ok {s : State} {c : State → State} (hc : ∀ s, Sound s → Sound (c s)) (h : Sound s) :
    Sound (s.consumeWithAcks c) := by
  unfold State.consumeWithAcks
  split
  · exact hc _ (ackFrames_ok h)
  · exact ackFrames_ok (hc _ h)

theorem frameUp_ok {s : State} (h : Sound s) : Sound s.frameUp := by
  unfold State.frameUp
  dsimp only
  refine Sound.same (consumeWithAcks_ok (fun s hs => consumeFrame_ok _ hs) (h.same ?_ ?_ ?_ ?_)) rfl rfl rfl rfl <;> rfl

theorem frameAcquiring_ok {s : State} (h : Sound s) : Sound s.frameAcquiring := by
  unfold State.frameAcquiring
  refine Sound.same (consumeWithAcks_ok (fun s hs => finish_ok (guardFrame_ok (start_ok true hs)).1) (h.same ?_ ?_ ?_ ?_)) rfl rfl rfl rfl <;> rfl

theorem betweenFrames_ok {s : State} (h : Sound s) : Sound s.betweenFrames := by
  unfold State.betweenFrames
  suffices key : Sound ((s.freeOrder s.evaluatingNests).foldl State.completeFree s) from key.same rfl rfl rfl rfl
  have hd : (s.freeOrder s.evaluatingNests).Nodup :=
    (permute_perm _ _).nodup_iff.2 (List.Nodup.filter _ (by decide))
  have he : ∀ n ∈ s.freeOrder s.evaluatingNests, (s.nest n).state = .evaluate := by
    intro n hn
    have := ((permute_perm _ _).mem_iff.1 hn)
    unfold State.evaluatingNests at this
    rw [List.mem_filter, decide_eq_true_eq] at this
    exact this.2
  generalize s.freeOrder s.evaluatingNests = ns at hd he
  induction ns generalizing s with
  | nil => exact h
  | cons n ns ih =>
    rw [List.nodup_cons] at hd
    have hn := he n List.mem_cons_self
    have key : Sound (s.completeFree n) ∧ ∀ m, m ≠ n → (s.nest m).state = .evaluate → ((s.completeFree n).nest m).state = .evaluate := by
      unfold State.completeFree
      split
      · have r := completeEvaluation_ok (n := n) h.1 (by rw [hn]; rfl)
        refine ⟨r.withVerdict h.2 (by rw [hn]; rfl), fun m hm hs => ?_⟩
        have e := (r.acts.others m hm).same (by rw [hs]; decide)
        unfold State.withVerdict State.deliver
        split
        · rw [e]; exact hs
        · rw [(judges_verdict _ n _).others m hm, e]; exact hs
      · exact ⟨h, fun _ _ h => h⟩
    refine ih key.1 hd.2 (fun m hm => key.2 m ?_ (he m (List.mem_cons_of_mem _ hm)))
    rintro rfl; exact hd.1 hm

theorem substitutes_ok {s : State} (d : Nat) (h : Sound s) : Sound (State.substitutes d s) := by
  induction d generalizing s with
  | zero => exact h
  | succ d ih => exact ih (betweenFrames_ok (frameUp_ok (h.same rfl rfl rfl rfl)))

theorem linkLoss_ok {s : State} (h : Sound s) : Sound s.linkLoss := by
  unfold State.linkLoss
  dsimp only
  refine Sound.same (endForLink_ok (endForLink_ok (endForLink_ok (endForLink_ok (h.same ?_ ?_ ?_ ?_))))) rfl rfl rfl rfl <;> rfl

/-! ### Commands and steps -/

theorem Sound.answer {s : State} (h : Sound s) (cell : CommandCell) (a : Answer) : Sound (s.answer cell a) := by
  unfold State.answer
  split
  · exact h.same rfl rfl rfl rfl
  · exact h.same rfl rfl rfl rfl
  · exact h

/-- A command whose own rule keeps the state sound. -/
theorem takeCommand_ok {code : Byte} {fits : List Byte → Bool} {act : List Byte → State → State × Answer} {s : State}
    (h : Sound s) (ha : ∀ bs t, Sound t → Sound (act bs t).1) : Sound (takeCommand code fits act s) := by
  have hp : Sound s.popCommand := h.same rfl rfl rfl rfl
  exact takeCommand_keeps Sound h (fun cell _ _ => hp.answer cell _) (fun cell _ => (ha _ _ hp).answer cell _)

/-- The nest that an ARRIVE's checks let through is IDLE. -/
theorem arriveCheck_idle {bs : List Byte} {s : State} {n : Nest} (h : arriveCheck bs s = .ok n) : (s.nest n).state = .idle := by
  unfold arriveCheck at h
  dsimp only at h
  split at h
  · cases h
  · split_ifs at h
    cases h
    simp_all

/-- In a sound state with an IDLE nest some record is FREE: the others hold 13 at most (R126). -/
theorem lowestFree_of_idle {s : State} {n : Nest} (h : Sound s) (hi : (s.nest n).state = .idle) : s.lowestFree ≠ none := by
  intro hf
  unfold State.lowestFree at hf
  rw [List.findIdx?_eq_none_iff] at hf
  have all : ∀ id ∈ List.range 14, id ∈ s.holdersBut none := by
    intro id hid
    rw [List.mem_range] at hid
    rw [h.2.held id]
    have hl : id < s.records.length := by rw [h.2.count]; exact hid
    have := hf s.records[id] (List.getElem_mem hl)
    unfold State.record
    rw [List.getD_eq_getElem?_getD, List.getElem?_eq_getElem hl]
    simpa using this
  have h1 := (List.Nodup.subperm (List.nodup_range (n := 14)) all).length_le
  rw [List.length_range, (holdersBut_perm s n).length_eq, holdersBut_eq] at h1
  have hr : (s.nest n).record = none := by
    have := h.2.nests n (by simp); rw [hi] at this; simpa [NestState.holdsUnit, NestState.running] using this
  have o : ∀ x : Option Nat, x.toList.length ≤ 1 := fun x => by cases x <;> simp
  have hq := h.2.queue
  have ha := o s.marking.slotA.record
  have hb := o s.marking.slotB.record
  have n1 := o (s.nest .n1).record
  have n2 := o (s.nest .n2).record
  have n3 := o (s.nest .n3).record
  have n4 := o (s.nest .n4).record
  rw [hr] at h1
  unfold Marking.holders at h1
  cases n <;> simp [Nest.order] at h1 <;> omega

theorem actArrive_ok (bs : List Byte) {s : State} (h : Sound s) : Sound (actArrive bs s).1 := by
  unfold actArrive
  dsimp only
  split
  · exact h
  · rename_i n hn
    split
    · rename_i id f hid hf
      exact admit_ok h (arriveCheck_idle hn) hid hf
    · exact h

theorem actRelease_ok (bs : List Byte) {s : State} (h : Sound s) : Sound (actRelease bs s).1 := by
  unfold actRelease
  split
  · exact h
  · rename_i n _
    split
    · exact h
    · split
      · exact h
      · rename_i hj
        split
        · exact h
        · rename_i id hid
          split
          · exact h
          · rename_i hq
            refine releaseUnit_ok _ h (by simpa using hj) hid (fun hb => ?_)
            by_contra hl
            exact hq ⟨hb, by omega⟩

theorem actAbort_ok (bs : List Byte) {s : State} (h : Sound s) : Sound (actAbort bs s).1 := by
  unfold actAbort
  split
  · exact h
  · rename_i n _
    split
    · exact h
    · rename_i h1
      split
      · rename_i hj; exact discardJudged_ok false h hj
      · rename_i h2
        refine abortRunning_ok h ?_
        revert h1 h2
        cases (s.nest n).state <;> simp [NestState.running]

theorem actReserveStream_ok (bs : List Byte) {s : State} (h : Sound s) : Sound (actReserveStream bs s).1 := by
  unfold actReserveStream
  split
  · exact h
  · rename_i n _
    split
    · exact h
    · split
      · exact h
      · rename_i hi
        have hi' : (s.nest n).state = .idle := by simpa using hi
        have hr : (s.nest n).record = none := by
          have := h.2.nests n (by simp); rw [hi'] at this; simpa [NestState.holdsUnit, NestState.running] using this
        exact (setNest_ok (n := n) (s := { s with port := s.port.emptyStream n }) (q := { s.nest n with state := .reserved })
          (h.same rfl rfl rfl rfl) (by show (s.nest n).state.holdsUnit = false; rw [hi']; rfl) (Or.inr rfl) hr).same rfl rfl rfl rfl

theorem actReleaseStream_ok (bs : List Byte) {s : State} (h : Sound s) : Sound (actReleaseStream bs s).1 := by
  unfold actReleaseStream
  split
  · exact h
  · rename_i n _
    split
    · exact h
    · rename_i hi
      have hi' : (s.nest n).state = .reserved := by simpa using hi
      have hr : (s.nest n).record = none := by
        have := h.2.nests n (by simp); rw [hi'] at this; simpa [NestState.holdsUnit, NestState.running] using this
      exact setNest_ok (n := n) (s := { s with port := s.port.emptyStream n }) (q := { s.nest n with state := .idle })
        (h.same rfl rfl rfl rfl) (by show (s.nest n).state.holdsUnit = false; rw [hi']; rfl) (Or.inl rfl) hr

theorem setGuard_ok (x : GuardSettings) {s : State} (h : Sound s) : Sound (s.setGuard x) := by
  unfold State.setGuard
  dsimp only
  split
  · exact h.same rfl rfl rfl rfl
  · split
    · exact Sound.same (becomeQuiet_ok ⟨false, false, false, false, true⟩ (s := { s with guard := s.guard.withSettings x }) (h.same rfl rfl rfl rfl)).1 rfl rfl rfl rfl
    · split
      · exact h.same rfl rfl rfl rfl
      · exact h.same rfl rfl rfl rfl

/-- A read-out command that finds its record. -/
theorem withHead_ok {s : State} {act : CaptureRecord → State → State × Answer} (h : Sound s)
    (ha : ∀ r t, Sound t → Sound (act r t).1) : Sound (s.withHead act).1 := by
  unfold State.withHead
  split
  · exact h
  · split
    · exact h
    · exact ha _ _ (h.same rfl rfl rfl rfl)
    · exact h

theorem actReadMarking_ok (bs : List Byte) {s : State} (h : Sound s) : Sound (actReadMarking bs s).1 := by
  unfold actReadMarking
  exact Sound.same (h.marking (m := { s.marking with transmitter := s.marking.transmitter.lookedAt (Config.markingProgress s.freeCount) })
    rfl (fun i => by cases i <;> rfl) (fun i => by cases i <;> exact id)) rfl rfl rfl rfl

/-- The start-up load leaves nests, lanes and records alone. -/
theorem endLoad_ok {s : State} (h : Sound s) : Sound s.endLoad := by
  have key : ∀ (s : State), Sound s → ∀ (control i : Nat) (load : State → State × GroupResult),
      (∀ s, Sound s → Sound (load s).1) → Sound (loadGroup control i load s).1 := by
    intro s hs control i load hl
    unfold loadGroup
    split
    · exact hl s hs
    · exact hs
  have g : ∀ (s : State) (o : Option State), Sound s → (∀ t, o = some t → Sound t) → Sound (groupResult s o).1 := by
    intro s o hs ho
    unfold groupResult
    split
    · exact hs
    · exact ho _ rfl
  have cal : ∀ s, Sound s → Sound (loadCal s).1 := by
    intro s hs
    unfold loadCal
    dsimp only
    refine g _ _ hs (fun t ht => ?_)
    split at ht
    · cases ht
      exact ⟨hs.1.congr rfl (fun _ => rfl) (fun _ _ => rfl), hs.2.labels (fun _ => rfl) rfl (.refl _) hs.2.tidy (fun _ => Iff.rfl)⟩
    · cases ht
  have gd : ∀ s, Sound s → Sound (loadGuard s).1 := by
    intro s hs
    unfold loadGuard
    refine g _ _ hs (fun t ht => ?_)
    split at ht
    · cases ht
    · cases ht; exact hs.same rfl rfl rfl rfl
  have yl : ∀ s, Sound s → Sound (loadYield s).1 := by
    intro s hs
    unfold loadYield
    dsimp only
    refine g _ _ hs (fun t ht => ?_)
    split at ht
    · cases ht
    · cases ht; exact hs.same rfl rfl rfl rfl
  have mk : ∀ s, Sound s → Sound (loadMarking s).1 := by
    intro s hs
    unfold loadMarking
    dsimp only
    refine g _ _ hs (fun t ht => ?_)
    split at ht
    · cases ht; exact hs.marking rfl (fun i => by cases i <;> rfl) (fun i => by cases i <;> exact id)
    · cases ht
  have bn : ∀ s, Sound s → Sound (loadBins s).1 := by
    intro s hs
    unfold loadBins
    dsimp only
    refine g _ _ hs (fun t ht => ?_)
    split at ht
    · cases ht
    · cases ht; exact hs.same rfl rfl rfl rfl
  have nt : ∀ s, Sound s → Sound (loadNotices s).1 := by
    intro s hs
    unfold loadNotices
    refine g _ _ hs (fun t ht => ?_)
    cases ht; exact hs.same rfl rfl rfl rfl
  have rc : ∀ s, Sound s → Sound (loadRecipe s).1.1 := by
    intro s hs
    unfold loadRecipe
    dsimp only
    split
    · exact hs.same rfl rfl rfl rfl
    · exact hs
  have main : Sound s.startupLoad.1 := by
    unfold State.startupLoad
    split
    · unfold State.loadGroups
      dsimp only
      generalize fieldAt (s.port.configBytes 6 2) 0 2 = control
      refine key _ ?_ _ _ _ nt
      have h5 := key _ (key _ (key _ (key _ (key _ h control 0 _ cal) control 1 _ gd) control 2 _ yl) control 3 _ mk) control 4 _ bn
      split
      · exact rc _ h5
      · exact h5
    · exact h
  exact main.same rfl rfl rfl rfl

theorem Sound.withLink {s : State} (h : Sound s) (l : Link) : Sound (s.withLink l) := h.same rfl rfl rfl rfl

theorem acquisitionEnd_ok {s : State} (h : Sound s) : Sound s.acquisitionEnd := by
  unfold State.acquisitionEnd
  split
  · exact (h.withLink { s.link with state := .linkUp }).same rfl rfl rfl rfl
  · exact h

theorem badRunLimit_ok {s : State} (h : Sound s) : Sound s.badRunLimit := by
  unfold State.badRunLimit
  split
  · exact linkLoss_ok h
  · exact h

theorem arriveDown_ok {s : State} (f : Option UpstreamFrame) (h : Sound s) : Sound (s.arriveDown f) := by
  unfold State.arriveDown
  split
  · exact h
  · exact frameAcquiring_ok (h.withLink _)

theorem arriveAcquiring_ok {s : State} (f : Option UpstreamFrame) (h : Sound s) : Sound (s.arriveAcquiring f) := by
  unfold State.arriveAcquiring
  split
  · exact (h.withLink _).withLink _
  · split
    · exact acquisitionEnd_ok (frameAcquiring_ok (h.withLink _))
    · exact h.withLink _

theorem arriveUp_ok {s : State} (f : Option UpstreamFrame) (h : Sound s) : Sound (s.arriveUp f) := by
  unfold State.arriveUp
  split
  · dsimp only
    split
    · exact frameUp_ok (h.withLink _)
    · exact badRunLimit_ok (h.withLink _)
  · dsimp only
    split
    · exact linkLoss_ok h
    · exact frameUp_ok ((substitutes_ok _ (h.withLink _)).withLink _)

theorem frameArrival_ok {s : State} (bs : List Byte) (h : Sound s) :
    Sound (match s.link.state with
      | .linkDown => ({ s with out := { s.out with downstream := [] } } : State).arriveDown (UpstreamFrame.ofBytes bs)
      | .acquiring => ({ s with out := { s.out with downstream := [] } } : State).arriveAcquiring (UpstreamFrame.ofBytes bs)
      | .linkUp => ({ s with out := { s.out with downstream := [] } } : State).arriveUp (UpstreamFrame.ofBytes bs)) := by
  have h0 : Sound { s with out := { s.out with downstream := [] } } := h.same rfl rfl rfl rfl
  split
  · exact arriveDown_ok _ h0
  · exact arriveAcquiring_ok _ h0
  · exact arriveUp_ok _ h0

end Sys2Proof.Machine
end

