-- ==== Sys2Proof/Laws/Sine.lean ====
section
/-! SUPPORT. What the fixed-point series of the sine (Machine/Levels.lean) can do: it lies within 2^-70 of the sine. -/

namespace Sys2Proof.Machine

/-- Term i of the series of the sine of X / 2^80, times 2^80. -/
noncomputable def sineTerm (X i : Nat) : ℝ := ((X : ℝ) / 2 ^ 80) ^ (2 * i + 1) / (2 * i + 1).factorial * 2 ^ 80

theorem sineTerm_succ (X i : Nat) :
    sineTerm X (i + 1) = sineTerm X i * ((X : ℝ) / 2 ^ 80) ^ 2 / ((2 * i + 2) * (2 * i + 3)) := by
  unfold sineTerm
  rw [show 2 * (i + 1) + 1 = (2 * i + 1) + 1 + 1 by ring, Nat.factorial_succ, Nat.factorial_succ]
  have h : ((2 * i + 1).factorial : ℝ) ≠ 0 := by exact_mod_cast (Nat.factorial_pos _).ne'
  push_cast
  field_simp
  ring

theorem sineTerm_nonneg (X i : Nat) : 0 ≤ sineTerm X i := by unfold sineTerm; positivity

theorem sineTerm_succ_le (X i : Nat) (hX : X ≤ 2 ^ 81) : sineTerm X (i + 1) ≤ sineTerm X i := by
  rw [sineTerm_succ]
  have h0 := sineTerm_nonneg X i
  have hx : (X : ℝ) / 2 ^ 80 ≤ 2 := by
    rw [div_le_iff₀ (by positivity)]
    have : (X : ℝ) ≤ 2 ^ 81 := by exact_mod_cast hX
    linarith
  have hx0 : 0 ≤ (X : ℝ) / 2 ^ 80 := by positivity
  have h4 : ((X : ℝ) / 2 ^ 80) ^ 2 ≤ 4 := by nlinarith
  have hi : (0 : ℝ) ≤ i := by positivity
  rw [div_le_iff₀ (by positivity)]
  have : sineTerm X i * ((X : ℝ) / 2 ^ 80) ^ 2 ≤ sineTerm X i * 4 := mul_le_mul_of_nonneg_left h4 h0
  nlinarith [mul_nonneg h0 hi, mul_nonneg h0 (mul_nonneg hi hi)]

theorem sineTerm_le (X i : Nat) (hX : X ≤ 2 ^ 81) : sineTerm X i ≤ 2 * 2 ^ 80 := by
  induction i with
  | zero =>
    have : (X : ℝ) ≤ 2 ^ 81 := by exact_mod_cast hX
    simp only [sineTerm, Nat.mul_zero, zero_add, pow_one, Nat.factorial_one, Nat.cast_one, div_one]
    rw [div_mul_cancel₀ _ (by positivity)]
    linarith
  | succ i ih => exact (sineTerm_succ_le X i hX).trans ih

/-- One step of the recursion stays within 6 units below the series' term. -/
theorem sineStep_near (X i T : Nat) (hX : X ≤ 2 ^ 81) (h1 : (T : ℝ) ≤ sineTerm X i) (h2 : sineTerm X i - 6 ≤ T) :
    ((T * (X * X / 2 ^ 80) / 2 ^ 80 / ((2 * i + 1 + 1) * (2 * i + 1 + 2)) : Nat) : ℝ) ≤ sineTerm X (i + 1) ∧
    sineTerm X (i + 1) - 6 ≤ ((T * (X * X / 2 ^ 80) / 2 ^ 80 / ((2 * i + 1 + 1) * (2 * i + 1 + 2)) : Nat) : ℝ) := by
  set m : Nat := (2 * i + 1 + 1) * (2 * i + 1 + 2) with hm
  set x2 : Nat := X * X / 2 ^ 80 with hx2
  set A : Nat := T * x2 / 2 ^ 80 with hA
  have hm6 : 6 ≤ m := by rw [hm]; nlinarith
  have lo : ∀ a b : Nat, 0 < b → ((a / b : Nat) : ℝ) ≤ (a : ℝ) / b ∧ (a : ℝ) / b - 1 ≤ ((a / b : Nat) : ℝ) := by
    intro a b hb
    refine ⟨Nat.cast_div_le, ?_⟩
    have h := Nat.lt_div_mul_add hb (a := a)
    have hb' : (0 : ℝ) < b := by exact_mod_cast hb
    rw [sub_le_iff_le_add, div_le_iff₀ hb']
    have : (a : ℝ) < (a / b : Nat) * b + b := by exact_mod_cast h
    linarith
  obtain ⟨a1, a2⟩ := lo A m (by omega)
  obtain ⟨b1, b2⟩ := lo (T * x2) (2 ^ 80) (by positivity)
  obtain ⟨c1, c2⟩ := lo (X * X) (2 ^ 80) (by positivity)
  rw [← hA] at b1 b2
  rw [← hx2] at c1 c2
  simp only [Nat.cast_mul, Nat.cast_pow, Nat.cast_ofNat] at b1 b2 c1 c2
  have hmr : (6 : ℝ) ≤ m := by exact_mod_cast hm6
  have hs : sineTerm X (i + 1) = sineTerm X i * ((X : ℝ) / 2 ^ 80) ^ 2 / m := by
    rw [sineTerm_succ, hm]; push_cast; congr 1; ring
  set y : ℝ := (X : ℝ) / 2 ^ 80 with hy
  have hxr : (X : ℝ) ≤ 2 ^ 81 := by exact_mod_cast hX
  have hy2 : y ≤ 2 := by rw [hy, div_le_iff₀ (by positivity)]; linarith
  have hy0 : 0 ≤ y := by rw [hy]; positivity
  have hyy : y ^ 2 ≤ 4 := by nlinarith
  have hsq : (X : ℝ) * X / 2 ^ 80 = y ^ 2 * 2 ^ 80 := by rw [hy]; field_simp
  have ht := sineTerm_nonneg X i
  have htl := sineTerm_le X i hX
  have hT0 : (0 : ℝ) ≤ T := by positivity
  have hx20 : (0 : ℝ) ≤ x2 := by positivity
  have hm0 : (0 : ℝ) < m := by linarith
  -- the product, before the divisions
  have up : (T : ℝ) * x2 / 2 ^ 80 ≤ sineTerm X i * y ^ 2 := by
    rw [div_le_iff₀ (by positivity)]
    calc (T : ℝ) * x2 ≤ sineTerm X i * (y ^ 2 * 2 ^ 80) := mul_le_mul h1 (by rw [← hsq]; exact c1) hx20 ht
      _ = sineTerm X i * y ^ 2 * 2 ^ 80 := by ring
  have down : sineTerm X i * y ^ 2 - 26 ≤ (T : ℝ) * x2 / 2 ^ 80 := by
    rw [le_div_iff₀ (by positivity)]
    have k1 : sineTerm X i * (y ^ 2 * 2 ^ 80) - T * x2 ≤ 6 * (4 * 2 ^ 80) + T := by
      have e1 : sineTerm X i * (y ^ 2 * 2 ^ 80) ≤ (T + 6) * (y ^ 2 * 2 ^ 80) :=
        mul_le_mul_of_nonneg_right (by linarith) (by positivity)
      have e2 : (T : ℝ) * (y ^ 2 * 2 ^ 80) ≤ T * (x2 + 1) := mul_le_mul_of_nonneg_left (by rw [← hsq]; linarith) hT0
      nlinarith
    have k2 : (T : ℝ) ≤ 2 * 2 ^ 80 := h1.trans htl
    nlinarith
  rw [hs]
  constructor
  · refine a1.trans ?_
    exact div_le_div_of_nonneg_right (b1.trans up) hm0.le
  · have k : (A : ℝ) / m ≥ sineTerm X i * y ^ 2 / m - 27 / m := by
      rw [ge_iff_le, ← sub_div]
      exact div_le_div_of_nonneg_right (by linarith) hm0.le
    have k27 : (27 : ℝ) / m ≤ 27 / 6 := div_le_div_of_nonneg_left (by norm_num) (by norm_num) hmr
    linarith

/-- The recursion from term i on, against the series. -/
theorem sineSeries_from (X : Nat) (hX : X ≤ 2 ^ 81) (fuel : Nat) :
    ∀ (i T : Nat) (positive : Bool) (acc : Int), (T : ℝ) ≤ sineTerm X i → sineTerm X i - 6 ≤ T →
      ((if positive then (1 : ℝ) else -1) = (-1) ^ (i + 1)) →
      |(sineSeries fuel (2 * i + 1) T (X * X / 2 ^ 80) positive acc : ℝ) -
        (acc + ∑ l ∈ Finset.range fuel, (-1 : ℝ) ^ (i + 1 + l) * sineTerm X (i + 1 + l))| ≤ 6 * fuel := by
  induction fuel with
  | zero => intro i T positive acc _ _ _; simp [sineSeries]
  | succ fuel ih =>
    intro i T positive acc h1 h2 hp
    obtain ⟨n1, n2⟩ := sineStep_near X i T hX h1 h2
    set next : Nat := T * (X * X / 2 ^ 80) / 2 ^ 80 / ((2 * i + 1 + 1) * (2 * i + 1 + 2)) with hn
    have hstep : sineSeries (fuel + 1) (2 * i + 1) T (X * X / 2 ^ 80) positive acc =
        sineSeries fuel (2 * (i + 1) + 1) next (X * X / 2 ^ 80) (!positive)
          (if positive then acc + next else acc - next) := by
      rw [sineSeries, show 2 * (i + 1) + 1 = 2 * i + 1 + 2 by ring]
    have hp' : (if (!positive) then (1 : ℝ) else -1) = (-1) ^ (i + 1 + 1) := by
      rw [pow_succ, ← hp]; cases positive <;> simp
    have h := ih (i + 1) next (!positive) (if positive then acc + next else acc - next) n1 n2 hp'
    rw [hstep, Finset.sum_range_succ']
    have hacc : (((if positive then acc + next else acc - next : Int)) : ℝ) = acc + (-1 : ℝ) ^ (i + 1) * next := by
      rw [← hp]; cases positive <;> simp; ring
    rw [hacc] at h
    have habs : |(-1 : ℝ) ^ (i + 1) * (next - sineTerm X (i + 1))| ≤ 6 := by
      rw [abs_mul, abs_pow, abs_neg, abs_one, one_pow, one_mul, abs_le]
      constructor <;> linarith
    have hsum : ∑ l ∈ Finset.range fuel, (-1 : ℝ) ^ (i + 1 + (l + 1)) * sineTerm X (i + 1 + (l + 1)) =
        ∑ l ∈ Finset.range fuel, (-1 : ℝ) ^ (i + 1 + 1 + l) * sineTerm X (i + 1 + 1 + l) :=
      Finset.sum_congr rfl (fun l _ => by rw [show i + 1 + (l + 1) = i + 1 + 1 + l by ring])
    rw [hsum, Nat.add_zero]
    set S := ∑ l ∈ Finset.range fuel, (-1 : ℝ) ^ (i + 1 + 1 + l) * sineTerm X (i + 1 + 1 + l)
    set F := (sineSeries fuel (2 * (i + 1) + 1) next (X * X / 2 ^ 80) (!positive)
      (if positive then acc + next else acc - next) : ℝ)
    have e : F - (acc + (S + (-1 : ℝ) ^ (i + 1) * sineTerm X (i + 1))) =
        (F - (acc + (-1 : ℝ) ^ (i + 1) * next + S)) + (-1 : ℝ) ^ (i + 1) * (next - sineTerm X (i + 1)) := by ring
    rw [e]
    push_cast
    calc _ ≤ |F - (acc + (-1 : ℝ) ^ (i + 1) * next + S)| + |(-1 : ℝ) ^ (i + 1) * (next - sineTerm X (i + 1))| := abs_add_le _ _
      _ ≤ 6 * fuel + 6 := add_le_add h habs
      _ = _ := by ring

/-- The series of fifteen terms, as `quarterSine` uses it, lies within 2^-70 of the sine. -/
theorem sineSeries_near (X : Nat) (hX : X ≤ 2 ^ 81) :
    |(sineSeries 14 1 X (X * X / 2 ^ 80) false X : ℝ) - 2 ^ 80 * Real.sin ((X : ℝ) / 2 ^ 80)| ≤ 2 ^ 10 := by
  have h0 : sineTerm X 0 = X := by simp [sineTerm]
  have h := sineSeries_from X hX 14 0 X false X h0.ge (by rw [h0]; linarith) (by norm_num)
  have hanti : Antitone (sineTerm X) := antitone_nat_of_succ_le (fun i => sineTerm_succ_le X i hX)
  have hsum := (Real.hasSum_sin ((X : ℝ) / 2 ^ 80)).tendsto_sum_nat
  have hsum' : Filter.Tendsto (fun n => ∑ i ∈ Finset.range n, (-1 : ℝ) ^ i * sineTerm X i) Filter.atTop
      (nhds (2 ^ 80 * Real.sin ((X : ℝ) / 2 ^ 80))) := by
    have := hsum.const_mul (2 ^ 80 : ℝ)
    refine this.congr (fun n => ?_)
    rw [Finset.mul_sum]
    refine Finset.sum_congr rfl (fun i _ => ?_)
    unfold sineTerm; ring
  have lo := hanti.alternating_series_le_tendsto hsum' 7
  have hi := hanti.tendsto_le_alternating_series hsum' 7
  have last : sineTerm X 14 ≤ 100 := by
    have hx : ((X : ℝ) / 2 ^ 80) ≤ 2 := by
      rw [div_le_iff₀ (by positivity)]
      have : (X : ℝ) ≤ 2 ^ 81 := by exact_mod_cast hX
      linarith
    unfold sineTerm
    have : ((X : ℝ) / 2 ^ 80) ^ (2 * 14 + 1) ≤ 2 ^ (2 * 14 + 1) := pow_le_pow_left₀ (by positivity) hx _
    calc _ ≤ (2 : ℝ) ^ (2 * 14 + 1) / (2 * 14 + 1).factorial * 2 ^ 80 := by gcongr
      _ ≤ 100 := by norm_num [Nat.factorial]
  have e : (X : ℝ) + ∑ l ∈ Finset.range 14, (-1 : ℝ) ^ (0 + 1 + l) * sineTerm X (0 + 1 + l) =
      ∑ i ∈ Finset.range 15, (-1 : ℝ) ^ i * sineTerm X i := by
    rw [Finset.sum_range_succ' _ 14]
    rw [h0, pow_zero, one_mul, add_comm]
    congr 1
  have e15 : ∑ i ∈ Finset.range 15, (-1 : ℝ) ^ i * sineTerm X i =
      ∑ i ∈ Finset.range 14, (-1 : ℝ) ^ i * sineTerm X i + sineTerm X 14 := by
    rw [Finset.sum_range_succ]; norm_num
  have n14 := sineTerm_nonneg X 14
  rw [Nat.mul_zero, Nat.zero_add, show ((X : Int) : ℝ) = (X : ℝ) from Int.cast_natCast X, e, e15] at h
  rw [show 2 * 7 = 14 from rfl] at lo
  rw [show 2 * 7 + 1 = 14 + 1 from rfl, Finset.sum_range_succ] at hi
  norm_num only at hi h ⊢
  rw [abs_le] at h ⊢
  constructor <;> linarith

end Sys2Proof.Machine
end

