-- ==== Sys2Proof/Laws/Tone.lean ====
section
/-! SUPPORT. The tone generator's operations (Machine/Tone.lean) in the words of the statements (Safety.lean): what one frame
finds, forms and leaves. -/

namespace Sys2Proof.Machine

theorem halfAway_eq (a : Int) (b : Nat) : roundHalfAway a b = halfAway a b := by
  unfold roundHalfAway halfAway roundHalfUp
  rcases lt_trichotomy a 0 with h | h | h
  · rw [if_neg (by omega), Int.sign_eq_neg_one_of_neg h, show (-a).toNat = a.natAbs by omega]; simp
  · subst h
    rcases Nat.eq_zero_or_pos b with hb | hb
    · subst hb; simp
    · have h0 : b / (2 * b) = 0 := Nat.div_eq_of_lt (by omega)
      simp [h0]
  · rw [if_pos (by omega), Int.sign_eq_one_of_pos h, show a.toNat = a.natAbs by omega]; simp

theorem State.begun_eq (s : State) (n : Nest) : s.begun n = (s.tone n).beginFrame (s.nest n).gap := by
  unfold State.begun Tone.beginFrame
  generalize s.tone n = w
  generalize (s.nest n).gap = g
  obtain ⟨_, _, _, _, _, _, _, _, p⟩ := w
  rcases g with _ | ⟨_ | _ | _, _⟩ <;> rcases p with _ | _ <;> rfl

theorem Tone.amplitudeNow_eq (w : Tone) : w.frameAmplitude = w.amplitudeNow := by
  unfold Tone.frameAmplitude Tone.amplitudeNow
  cases w.glide with
  | none => rfl
  | some g => simp only [halfAway_eq, Config.rampFrames]

theorem Tone.positionNow_eq (w : Tone) : w.envelope.position = w.positionNow := by
  unfold Tone.positionNow Envelope.position
  cases w.envelope <;> rfl

/-- The frame's output (R72). -/
theorem Tone.output_eq (w : Tone) (stopLine : Bool) : w.output stopLine = w.sampleNow stopLine := by
  unfold Tone.output Tone.sampleNow Tone.sounding tableIndex
  rw [halfAway_eq, Tone.amplitudeNow_eq, Tone.positionNow_eq]
  cases stopLine <;> simp [Config.rampFrames]

/-- The generator after the frame (R68, R73, R74, R78). -/
theorem Tone.advance_eq (w : Tone) : w.advance = w.oneFrameOn := by
  have hp := Tone.amplitudeNow_eq w
  obtain ⟨phase, inc, amp, glide, env, range, burst, mute, pend⟩ := w
  unfold Tone.advance Tone.oneFrameOn Tone.glideAdvance Tone.glideEnd
  rcases env with _ | d | _ | ⟨r, d⟩ <;> cases glide <;>
    simp only [Envelope.advance, Envelope.rampEnd, Config.rampFrames, Tone.frameAmplitude, Tone.amplitudeNow] at hp ⊢ <;>
    (repeat' split) <;> simp_all

end Sys2Proof.Machine
end

