-- ==== Sys2Proof/WellFormed.lean ====
section
/-! DEFINITION. Which commands can be sent at all: the checks the spec puts on an event's own data. -/

namespace Sys2Proof

/-- A tap channel is 1 to 9 (R204). A cell that arrives has at least its kind, tag, length and check bytes, and no
more than a length byte can announce (R195). A converter frame that arrives holds at least one byte (R23). -/
def Instr.wf : Instr → Bool
  | .tapCellFormed c => decide (1 ≤ c) && decide (c ≤ 9)
  | .cellArrival bs => decide (5 ≤ bs.length) && decide (bs.length ≤ 260)
  | .frameArrival bs => !bs.isEmpty
  | _ => true

end Sys2Proof
end

