-- ==== Sys2Proof/Tests/Slice0.lean ====
section
/-! SUPPORT. The model's own tests: ill-formed commands, small states that meet the premises of each statement, and one
command or event at a time on a small state. -/

namespace Sys2Proof.Tests

set_option Elab.async false

open Sys2Proof Sys2Proof.Machine

/-! ### Ill-formed commands -/

theorem test_illFormedTapChannelZero : Instr.wf (.tapCellFormed 0) = false := by decide

theorem test_illFormedTapChannelTen : Instr.wf (.tapCellFormed 10) = false := by decide

theorem test_illFormedShortCell : Instr.wf (.cellArrival (List.replicate 4 0)) = false := by decide

theorem test_illFormedLongCell : Instr.wf (.cellArrival (List.replicate 261 0)) = false := by decide +kernel

theorem test_illFormedEmptyFrame : Instr.wf (.frameArrival []) = false := by decide

theorem test_wellFormedEdges :
    Instr.wf (.tapCellFormed 1) = true ∧ Instr.wf (.tapCellFormed 9) = true ∧
    Instr.wf (.cellArrival (List.replicate 5 0)) = true ∧ Instr.wf (.cellArrival (List.replicate 260 0)) = true ∧
    Instr.wf (.frameArrival [0]) = true := by decide +kernel

/-- No row of the table gives bits, so no word spells a command. -/
theorem test_noWordSpellsACommand : decodeTableWord 32 0x12345678 = none := rfl

/-! ### Small states -/

/-- Right after a start-up load with no image. -/
def ready : State := { State.reset with port := { Port.reset with part := .ready } }

/-- A command with tag 7 as the only cell of the command queue. -/
def given (s : State) (code : Byte) (ops : List Byte) : State :=
  { s with port := { s.port with commands := [⟨7, code :: ops⟩] } }

theorem given_takes {s : State} (code : Byte) (ops : List Byte) (h1 : s.port.part = .ready) (h2 : s.port.unit = .idle)
    (h3 : s.port.replies.length < 8) : (given s code ops).takes 7 code ops [] := ⟨h1, h2, h3, rfl⟩

theorem ready_takes (code : Byte) (ops : List Byte) : (given ready code ops).takes 7 code ops [] :=
  given_takes code ops rfl rfl (by decide)

/-- What a next state holds; false of a stop. -/
def after (o : Host.Outcome State Fault Refusal) (p : State → Bool) : Bool :=
  match o with
  | .next t => p t
  | _ => false

/-- The last reply of a next state. -/
def replyIs (o : Host.Outcome State Fault Refusal) (reason : Option Reason) (data : List Byte) : Bool :=
  after o (fun t => decide (t.port.replies.getLast?.map (fun r => (r.tag, r.reason, r.data)) = some (7, reason, data)))

/-- A program of two steps from row 0 on with one limit record at row 100. -/
def prog : ProgramFields := ⟨0, 2, 100, 1, 1000, 1, false, .all, 4, 50, 5⟩

/-- A guarded MEASURE step at 1 kHz, TIMED, with a window of 96 frames. -/
def measureStep : Step :=
  { measure := true, frequency := 100000, level := -600, range := .mid, dwell := .timed, settleMs := 1, capMs := 2
    tolerance := 10, cycles := 1, window := 96, guarded := true, limitIndex := none, bandLow := 6, bandHigh := 40
    onCycles := 0, offCycles := 0, repeats := 0 }

/-- A CONDITION step: one cycle on, none off, twice. -/
def conditionStep : Step := { measureStep with measure := false, onCycles := 1, offCycles := 0, repeats := 2 }

/-- A sequencer in a state with record 0 and program 0 at its first step. -/
def sequencer (q : NestState) : Sequencer :=
  { Sequencer.reset with
      state := q, record := some 0, program := some 0, settings := prog.settings, step := some measureStep
      deadline := 96000, deadlineRunning := q.running }

/-- Nest 1 in a state that holds a unit, with the link up and last frame number 9. -/
def holding (q : NestState) : State :=
  { ready with
      link := { Link.reset with state := .linkUp, lastNumber := some 9, silenceRunning := true }
      recipe := { Recipe.reset with directory := .active prog :: List.replicate 7 .empty
                                    useCount := 1 :: List.replicate 7 0 }
      nests := { PerNest.all Sequencer.reset with n1 := sequencer q }
      records := { UnitRecord.free with state := if q = .judged then .judged else .running, nest := some .n1
                                        binCopy := if q = .judged then defaultBins[0]? else none } ::
        List.replicate 13 .free
      analyser :=
        { Analyser.reset with
            queue := if q = .waitLanes then [⟨.n1, 1, [(1, .fundamental)]⟩] else []
            evaluation := if q = .evaluate then { PerNest.all none with n1 := some 0 } else .all none } }

/-- The same with nest 1's sequencer changed. -/
def holdingWith (q : NestState) (f : Sequencer → Sequencer) : State := (holding q).modNest .n1 f

/-! ### Sound states, checked -/

/-- What `State.sound` says, as a computation: ids above 13 name no record. -/
def soundCheck (s : State) : Bool :=
  Nest.order.all (fun n =>
    decide (s.requests n = if (s.nest n).state = .waitLanes then 1 else 0) &&
    decide (s.analyser.lanesOf n ≠ 0 → (s.nest n).state.mayHoldLanes = true) &&
    decide ((s.nest n).record.isSome = (s.nest n).state.holdsUnit)) &&
  s.analyser.queue.all (fun r => decide (r.size = r.plan.length)) &&
  decide (s.records.length = 14) && decide s.holders.Nodup && s.holders.all (fun id => decide (id < 14)) &&
  (List.range 14).all (fun id => decide (id ∈ s.holders ↔ (s.record id).state ≠ .free)) &&
  [SlotId.a, SlotId.b].all (fun i => decide ((s.marking.slot i).state = .free → (s.marking.slot i).record = none)) &&
  decide (s.marking.queue.length ≤ 8)

theorem sound_of_check {s : State} (h : soundCheck s = true) : s.sound := by
  simp only [soundCheck, Bool.and_eq_true, List.all_eq_true, decide_eq_true_eq] at h
  obtain ⟨⟨⟨⟨⟨⟨⟨hn, hq⟩, hl⟩, hd⟩, hh⟩, hr⟩, hs⟩, hm⟩ := h
  have mem : ∀ n : Nest, n ∈ Nest.order := fun n => by cases n <;> decide
  refine ⟨⟨fun n => (hn n (mem n)).1.1, fun n => (hn n (mem n)).1.2, hq⟩, hl, hd, fun id => ?_, fun n => (hn n (mem n)).2,
    fun i => hs i (by cases i <;> decide), hm⟩
  by_cases hi : id < 14
  · exact hr id (List.mem_range.2 hi)
  · constructor
    · intro hc; exact absurd (hh id hc) hi
    · intro hc; exfalso; apply hc
      show (s.records.getD id .free).state = .free
      rw [List.getD_eq_getElem?_getD, List.getElem?_eq_none (by omega)]; rfl

/-- What `State.usesOk` says, as a computation. -/
def usesCheck (s : State) : Bool :=
  decide (s.recipe.useCount.length = 8) && (List.range 8).all (fun p => decide (s.recipe.uses p = (s.playing p).length)) &&
  Nest.order.all (fun n => !(s.nest n).state.running || (s.nest n).program.all (fun p => decide (p < 8)))

theorem uses_of_check {s : State} (h : usesCheck s = true) : s.usesOk := by
  simp only [usesCheck, Bool.and_eq_true, List.all_eq_true, decide_eq_true_eq] at h
  obtain ⟨⟨hl, hu⟩, hp⟩ := h
  intro p
  by_cases h8 : p < 8
  · exact hu p (List.mem_range.2 h8)
  · have h1 : s.recipe.uses p = 0 := by
      show s.recipe.useCount.getD p 0 = 0
      rw [List.getD_eq_getElem?_getD, List.getElem?_eq_none (by omega)]; rfl
    have h2 : s.playing p = [] := by
      refine List.filter_eq_nil_iff.2 (fun n hn hc => ?_)
      have h3 := hp n hn
      simp only [Bool.and_eq_true, decide_eq_true_eq] at hc
      simp [hc.1, hc.2, h8] at h3
    rw [h1, h2]; rfl

theorem test_holdingIsSound :
    soundCheck (holding .gap) = true ∧ soundCheck (holding .settle) = true ∧ soundCheck (holding .condition) = true ∧
    soundCheck (holding .waitLanes) = true ∧ soundCheck (holding .guardWait) = true ∧
    soundCheck (holding .window) = true ∧ soundCheck (holding .evaluate) = true ∧
    soundCheck (holding .judged) = true ∧ soundCheck ready = true := by decide +kernel

/-! ### Premises: the command unit, resets and the load -/

theorem test_premises_StepTakesTheFront : State.reset.pending = [] := rfl

/-- Eight replies waiting. -/
def fullReplies : State :=
  let s := given ready 0x23 []
  { s with port := { s.port with replies := List.replicate 8 ⟨0, 0x23, none, []⟩ } }

theorem test_premises_CommandUnit :
    (∃ s : State, s.port.unit ≠ .idle) ∧ 8 ≤ fullReplies.port.replies.length ∧ ready.port.commands = [] ∧
    (∃ cell rest, (given ready 0x22 [1]).port.commands = cell :: rest ∧ cell.payload.head? ≠ some 0x23) ∧
    (commandCode .arrive = some 0x20 ∧ (given State.reset 0x20 []).port.part = .starting ∧
      (given State.reset 0x20 []).port.commands = [⟨7, [0x20]⟩]) ∧
    (¬ operandsFit .arrive [1, 0, 0, 0, 0] ∧ ¬ operandsFit .arrive [1, 0, 0, 0, 0, 0, 0] ∧
      (given ready 0x20 [1, 0, 0, 0, 0]).takes 7 0x20 [1, 0, 0, 0, 0] []) ∧
    (¬ operandsFit .writeRows [0, 0, 0] ∧ ¬ operandsFit .writeDirectory [0, 1] ∧
      ¬ operandsFit .writeDirectory (List.replicate 20 0) ∧ ¬ operandsFit .writeBins [0] ∧
      ¬ operandsFit .writeBins ([0, 1] ++ List.replicate 11 0) ∧ ¬ operandsFit .configWrite [0, 0, 0, 0]) ∧
    (∀ c code, commandCode c = some code → ([0x77] : List Byte).head? ≠ some code) ∧
    ∀ c code, commandCode c = some code → ([] : List Byte).head? ≠ some code := by
  refine ⟨⟨{ ready with port := { ready.port with unit := .rebooting } }, by decide⟩, by decide, rfl,
    ⟨_, _, rfl, by decide⟩, ⟨rfl, rfl, rfl⟩, ⟨by simp [operandsFit, operandLength], by simp [operandsFit, operandLength],
      ready_takes _ _⟩, by simp only [operandsFit]; decide, ?_, ?_⟩
  · intro c code h; cases c <;> simp [commandCode] at h <;> subst h <;> decide
  · intro c code _; simp

theorem test_shortPayloadsAreRefused :
    replyIs (exec .writeRows (given ready 0x10 [0, 0, 0])) (some .range) [] = true ∧
    replyIs (exec .writeDirectory (given ready 0x12 (List.replicate 20 0))) (some .range) [] = true ∧
    replyIs (exec .writeBins (given ready 0x16 [0])) (some .range) [] = true ∧
    replyIs (exec .configWrite (given ready 0x76 [0, 0, 0, 0])) (some .range) [] = true := by decide +kernel

theorem test_unknownCodeIsRefused :
    replyIs (exec .unknownCommand (given ready 0x77 [])) (some .unknown) [] = true ∧
    replyIs (exec .unknownCommand (given State.reset 0x77 [])) (some .starting) [] = true := by decide +kernel

/-- A configuration write of two bytes in progress at the end of the memory. -/
def writing : State := { ready with port := { ready.port with unit := .writing 7 131070 [1, 2] } }

theorem test_premises_PowerOnReset :
    Memory.wf erased State.reset.port.config = true ∧ Memory.wf erased writing.port.config = true ∧
    writing.port.unit = .writing 7 131070 [1, 2] := by decide

/-- SET GUARD's operands, and the GUARD group. -/
def guardOps (enable : Nat) (threshold hysteresis : Int) (peak hold : Nat) : List Byte :=
  toBytes 1 enable ++ signedBytes 2 threshold ++ signedBytes 2 hysteresis ++ toBytes 4 peak ++ toBytes 2 hold

/-- A STARTING part whose configuration memory holds an image with these accept codes and group bytes. -/
def imaged (control : Nat) (groups : List (Nat × List Byte)) : State :=
  { State.reset with
      port :=
        { Port.reset with
            config := groups.foldl (fun m g => Memory.writeMany erased g.1 g.2 m)
              (Memory.writeMany erased 0 ([0x47, 0x58, 0x34, 0x36, 1, 0xFF] ++ toBytes 2 control) []) } }

/-- What the load reads of an image: the group's bytes at an address. -/
def imageField (s : State) (addr len : Nat) : Nat := fieldAt (s.port.configBytes addr len) 0 len

theorem test_premises_StartupLoadEnds :
    (imageField State.reset 0 4 ≠ 0x47583436 ∧ State.reset.port.part = .starting) ∧ ready.port.part = .ready ∧
    (let s := imaged 0x0055 [(16, toBytes 2 20000 ++ signedBytes 2 (-20000) ++ [0, 0, 0, 0]),
        (40, toBytes 2 16 ++ toBytes 2 16 ++ [0]), (48, toBytes 2 50)];
      s.port.part = .starting ∧ imageField s 0 4 = 0x47583436 ∧ imageField s 4 1 = 1 ∧ imageField s 6 2 = 0x55 ∧
      signedAt (s.port.configBytes 16 8) 0 2 = 20000 ∧ signedAt (s.port.configBytes 16 8) 2 2 = -20000 ∧
      imageField s 40 2 = 16 ∧ imageField s 42 2 = 16 ∧ imageField s 48 2 = 50) ∧
    (let s := imaged 0x0055 [(16, toBytes 2 20001 ++ [0, 0, 0, 0, 0, 0]), (40, toBytes 2 16 ++ toBytes 2 17 ++ [0]),
        (48, toBytes 2 49)];
      signedAt (s.port.configBytes 16 8) 0 2 = 20001 ∧ imageField s 40 2 < imageField s 42 2 ∧ imageField s 48 2 = 49) ∧
    imageField (imaged 0x1000 [(160, [0])]) 6 2 / 4 ^ 6 % 4 = 1 ∧ imageField (imaged 0 []) 6 2 = 0 := by decide +kernel

/-- A bin table image: one entry ten times. -/
def binImage (entry : List Byte) : List Byte := (List.replicate 10 entry).flatten

theorem test_premises_StartupLoadEnds_guardAndBins :
    (let s := imaged 0x0104 [(24, guardOps 1 (-13000) 1000 0 1000), (52, binImage [15, 1, 0x21, 0x7E, 0, 0, 0, 0, 0, 0])];
      imageField s 6 2 / 4 ^ 1 % 4 = 1 ∧ imageField s 6 2 / 4 ^ 4 % 4 = 1 ∧ guardFault (s.port.configBytes 24 11) = none ∧
      ∀ i, i < 10 → binFieldsOk (s.port.configBytes (52 + 10 * i) 10) ∧
        binCodeIs (s.port.configBytes (52 + 10 * i) 10) [0x21, 0x7E]) ∧
    (let s := imaged 0x0104 [(24, guardOps 1 (-13000) 1001 0 1000), (52, binImage [16, 1, 0x41, 0, 0, 0, 0, 0, 0, 0])];
      guardFault (s.port.configBytes 24 11) ≠ none ∧ ¬ binFieldsOk (s.port.configBytes 142 10)) := by
  unfold binFieldsOk binCodeIs
  decide +kernel

/-- The two rows of a MEASURE step at 1 kHz with limit record 0. -/
def measureRow (range dwell : Byte) (settle cap : Nat) : List Byte :=
  [1, range] ++ toBytes 4 100000 ++ signedBytes 2 (-600) ++ [0, dwell] ++ toBytes 2 settle ++ toBytes 2 cap ++ toBytes 2 10 ++
  toBytes 2 1 ++ [0] ++ toBytes 2 0 ++ [6, 40] ++ List.replicate 9 0

/-- The two rows of a CONDITION step. -/
def conditionRow : List Byte :=
  [2, 2] ++ toBytes 4 4000000 ++ signedBytes 2 0 ++ toBytes 2 1 ++ toBytes 2 0 ++ toBytes 2 1 ++ List.replicate 18 0

def goodRows : List Byte := measureRow 2 1 1 2 ++ conditionRow

/-- A directory image with an entry for every case of R216: ACTIVE taken, ACTIVE that shares rows with it, EMPTY, a bad
state byte, a bad field, INACTIVE, ACTIVE with its limit region too far, ACTIVE from an odd row on. -/
def directoryImage : List Byte :=
  [((2 : Byte), prog), (2, prog), (0, prog), (3, prog), (1, { prog with taktMs := 99 }), (1, prog),
    (2, { prog with firstLimit := 4095, limitCount := 2 }), (2, { prog with firstStep := 3 })].flatMap
    (fun x => [x.1] ++ x.2.bytes ++ [0, 0])

/-- The entries taken, and the list of those that were not. -/
theorem test_startupEntries :
    let x := takeRecipe Recipe.reset directoryImage goodRows
    x.1.directory =
      [.active prog, .inactive prog, .empty, .empty, .empty, .inactive prog,
        .inactive { prog with firstLimit := 4095, limitCount := 2 }, .inactive { prog with firstStep := 3 }] ∧
    x.2 = [⟨1, .overlap, [0]⟩, ⟨3, .range, []⟩, ⟨4, .range, [4]⟩, ⟨6, .range, [1]⟩, ⟨7, .badRecord, [0xFF, 0xFF, 0]⟩] := by
  decide +kernel

theorem prog_isPlaced : prog.placed := ⟨by decide, Or.inr (by decide), by decide⟩

theorem prog_sharesItsRows : prog.shares prog := ⟨0, Or.inl ⟨by decide, by decide⟩, Or.inl ⟨by decide, by decide⟩⟩

/-- Entry 0 is accepted, and each of the refused entries is refused as the list says. -/
theorem test_premises_StartupLoadEnds_entries :
    let r := (takeRecipe Recipe.reset directoryImage goodRows).1
    let earlier := fun (e p : Nat) (g : ProgramFields) => p < e ∧ r.entry p = .active g
    r.accepts (earlier 0) prog ∧ r.refuses (earlier 1) prog .overlap [0] ∧
    r.refuses (earlier 6) { prog with firstLimit := 4095, limitCount := 2 } .range [1] ∧
    r.refuses (earlier 7) { prog with firstStep := 3 } .badRecord [0xFF, 0xFF, 0] := by
  intro r earlier
  have steps : ∀ i, i < 2 → r.faultCode prog i = none := by decide +kernel
  refine ⟨⟨prog_isPlaced, steps, fun p g h => absurd h.1 (by omega)⟩, ?_, ?_, ?_⟩
  · refine Or.inr (Or.inr (Or.inr (Or.inr ⟨rfl, prog_isPlaced, steps, 0, prog, ⟨by decide, ?_⟩, prog_sharesItsRows, ?_, rfl⟩)))
    · decide +kernel
    · intro p g h; omega
  · exact Or.inr (Or.inl ⟨rfl, rfl, by decide, by decide⟩)
  · exact Or.inr (Or.inr (Or.inl ⟨rfl, rfl, by decide, Or.inr (by decide), by decide⟩))

/-- An image whose RECIPE group is accepted, with given check bytes. -/
def recipeImage (groups : List (Nat × List Byte)) (check : Word → Word) : State :=
  let s := imaged 0x0400 groups
  let c := crc32 (s.port.configBytes 256 160 ++ s.port.configBytes 1024 65536)
  { s with port := { s.port with config := Memory.writeMany erased 416 (toBytes 4 (check c).toNat) s.port.config } }

theorem field_toBytes4 (v : Word) : fieldAt (toBytes 4 v.toNat) 0 4 = v.toNat := by
  have := v.isLt
  simp only [fieldAt, bytesAt, List.drop_zero, toBytes, unsignedOf]
  simp
  omega

theorem recipeImage_directory (groups : List (Nat × List Byte)) (check : Word → Word)
    (h : Memory.wf erased (imaged 0x0400 groups).port.config = true) :
    (recipeImage groups check).port.configBytes 256 160 = (imaged 0x0400 groups).port.configBytes 256 160 :=
  Memory.readMany_outside _ h (Or.inl (by decide))

theorem recipeImage_check (groups : List (Nat × List Byte)) (check : Word → Word)
    (h : Memory.wf erased (imaged 0x0400 groups).port.config = true) :
    let s := recipeImage groups check
    fieldAt (s.port.configBytes 416 4) 0 4 =
      (check (crc32 (s.port.configBytes 256 160 ++ s.port.configBytes 1024 65536))).toNat := by
  have l : ∀ v : Nat, (toBytes 4 v).length = 4 := fun v => by simp [toBytes]
  intro s
  have e1 : s.port.configBytes 416 4 =
      toBytes 4 (check (crc32 ((imaged 0x0400 groups).port.configBytes 256 160 ++
        (imaged 0x0400 groups).port.configBytes 1024 65536))).toNat := Memory.readMany_writeMany _ 416 h
  have e2 : s.port.configBytes 256 160 = (imaged 0x0400 groups).port.configBytes 256 160 :=
    recipeImage_directory groups check h
  have e3 : s.port.configBytes 1024 65536 = (imaged 0x0400 groups).port.configBytes 1024 65536 :=
    Memory.readMany_outside _ h (Or.inr (by rw [l]; decide))
  rw [e1, e2, e3, field_toBytes4]

/-- The RECIPE group with its check right and the directory image above, and with its check wrong. -/
theorem test_premises_StartupLoadEnds_recipe :
    (let s := recipeImage [(256, directoryImage), (1024, goodRows)] (fun c => c);
      s.port.part = .starting ∧ s.recipe.directory = List.replicate 8 .empty ∧
      fieldAt (s.port.configBytes 416 4) 0 4 =
        (crc32 (s.port.configBytes 256 160 ++ s.port.configBytes 1024 65536)).toNat ∧
      (List.range 8).map (fun e => fieldAt (((s.port.configBytes 256 160).drop (20 * e)).take 20) 0 1) =
        [2, 2, 0, 3, 1, 1, 2, 2] ∧
      ProgramFields.ofBytes (((s.port.configBytes 256 160).drop (20 * 0)).take 20) = .ok prog ∧
      ProgramFields.ofBytes (((s.port.configBytes 256 160).drop (20 * 4)).take 20) = .error 4) ∧
    (let s := recipeImage [] (fun c => ~~~ c);
      fieldAt (s.port.configBytes 416 4) 0 4 ≠
        (crc32 (s.port.configBytes 256 160 ++ s.port.configBytes 1024 65536)).toNat) := by
  have h : Memory.wf erased (imaged 0x0400 [(256, directoryImage), (1024, goodRows)]).port.config = true := by decide +kernel
  constructor
  · intro s
    refine ⟨rfl, rfl, recipeImage_check _ _ h, ?_⟩
    rw [recipeImage_directory _ _ h]
    decide +kernel
  · intro s
    rw [recipeImage_check _ _ (by decide)]
    generalize crc32 (s.port.configBytes 256 160 ++ s.port.configBytes 1024 65536) = c
    intro hc
    have h2 : ~~~ c = c := BitVec.eq_of_toNat_eq hc
    have h3 := congrArg (fun x => x.getLsbD 0) h2
    simp at h3

theorem test_startupLoadEndWithoutImage :
    after (exec .startupLoadEnd State.reset) (fun t => decide (t.port.part = .ready)) = true := by decide +kernel

/-! ### Premises: the converter link -/

/-- An upstream frame with every sample 5 and no overload. -/
def upFrame (number : BitVec 16) : List Byte :=
  withCheck (toBytes 2 number.toNat ++ (List.replicate 5 (5 : Sample)).flatMap sampleBytes ++ [0])

def upFields (number : BitVec 16) : UpstreamFrame := ⟨number, List.replicate 5 5, List.replicate 5 false⟩

theorem test_upFrameReadsBack :
    [0, 1, 10, 11, 105, 106, 107, 0xFFFF].all (fun n =>
      decide (UpstreamFrame.ofBytes (upFrame (BitVec.ofNat 16 n)) = some (upFields (BitVec.ofNat 16 n)))) = true := by
  decide +kernel

/-- A frame with a wrong check. -/
theorem test_badFrame : UpstreamFrame.ofBytes ((upFrame 10).dropLast ++ [0]) = none := by decide +kernel

/-- The link in a state, with last frame number `k` and a bad run. -/
def linked (q : LinkState) (k : BitVec 16) (bad : Nat) : State :=
  { ready with link := { Link.reset with state := q, lastNumber := some k, badRun := bad, silenceRunning := true } }

/-- Nest 1 RESERVED with some samples in its stream buffer. -/
def reserved (fill : Nat) : State :=
  let s := (linked .linkUp 9 0).modNest .n1 (fun q => { q with state := .reserved })
  { s with port := { s.port with streams := { s.port.streams with n1 := List.replicate fill 3 } } }

theorem test_premises_InSequenceFrame :
    UpstreamFrame.ofBytes (upFrame 10) = some (upFields 10) ∧ (upFields 10).number = (9 : BitVec 16) + 1 ∧
    (linked .linkUp 9 0).link.state = .linkUp ∧ (linked .linkUp 9 0).link.lastNumber = some 9 ∧
    (upFields 0).number = (0xFFFF : BitVec 16) + 1 ∧
    ((reserved 0).nest .n1).state = .reserved ∧ (reserved 0).port.streams.get .n1 = [] ∧
    (reserved 1).port.streams.get .n1 = [3] ∧ ((reserved 1).nest .n2).state ≠ .reserved := by decide +kernel

/-- What `State.nestCounted` asks of a nest, state by state, at the ends of each count: frames left 2 of a gap phase, the
last frame of SETTLE that waits, the last but one of a window and of an evaluation, a deadline of 2 and of 1. -/
theorem test_premises_InSequenceFrame_nests :
    (let s := holdingWith .gap (fun q => { q with gap := some ⟨.silence, 2⟩, deadline := 2 })
     s.sound ∧ (s.nest .n1).gap = some ⟨.silence, 2⟩ ∧ 1 < (s.nest .n1).deadline) ∧
    (let s := (holdingWith .settle (fun q => { q with settleElapsed := 94 })).setDetector .n1
       { Detector.stopped with running := true, position := 238 }
     s.sound ∧ (s.analyser.detector.get .n1).position + 1 ≠ 240 ∧ settleTest measureStep (94 + 1) false = .wait) ∧
    (let s := (holdingWith .condition (fun q => { q with step := some conditionStep })).modTone .n1
       (fun w => { w with burst := some ⟨true, 2, 1⟩, phase := 0x80000000, increment := 0x80000000 })
     s.sound ∧ (s.begun .n1).burst = some ⟨true, 2, 1⟩ ∧
       2 ^ 32 ≤ (s.begun .n1).phase.toNat + (s.begun .n1).increment.toNat) ∧
    (holding .waitLanes).sound ∧ (holding .guardWait).sound ∧
    ((holdingWith .window (fun q => { q with windowCount := 94 })).sound ∧ 94 + 1 < measureStep.window) ∧
    ((holdingWith .window (fun q => { q with windowCount := 95 })).sound ∧ 95 + 1 = measureStep.window) ∧
    (let s := holdingWith .window (fun q => { q with deadline := 1 })
     s.sound ∧ (s.nest .n1).deadlineRunning = true ∧ (s.nest .n1).deadline ≤ 1 ∧ ¬ s.loudOn (upFields 10)) ∧
    (let s := holdingWith .waitLanes (fun q => { q with deadline := 1 }); s.sound ∧ (s.nest .n1).deadline ≤ 1) ∧
    ((holding .evaluate).sound ∧ (holding .evaluate).analyser.evaluation.get .n1 = some 0) ∧ 46 + 1 < 48 := by
  refine ⟨⟨sound_of_check (by decide +kernel), rfl, by decide⟩, ⟨sound_of_check (by decide +kernel), by decide, by decide⟩,
    ⟨sound_of_check (by decide +kernel), rfl, by decide⟩, sound_of_check (by decide +kernel),
    sound_of_check (by decide +kernel), ⟨sound_of_check (by decide +kernel), by decide⟩,
    ⟨sound_of_check (by decide +kernel), by decide⟩,
    ⟨sound_of_check (by decide +kernel), rfl, by decide, fun h => absurd h.1 (by decide)⟩,
    ⟨sound_of_check (by decide +kernel), by decide⟩, ⟨sound_of_check (by decide +kernel), rfl⟩, by decide⟩

/-- A guard's position and hold, before a frame whose samples are all 5. -/
def guarding (g : Guard) (position : Nat) : State := { linked .linkUp 9 0 with guard := { g with position := position } }

/-- The guard's clauses: a cause by PEAK, by OVERLOAD, by BLOCK, none; the last frame of a block; the last of a hold. -/
theorem test_premises_InSequenceFrame_guard :
    let on : Guard := { Guard.reset with enable := true, peak := some 5, holdMs := 1 }
    (guarding { on with peak := some 4 } 0).loudOn (upFields 10) ∧ ¬ (guarding on 238).causeOn (upFields 10) ∧
    (guarding on 0).causeOn { upFields 10 with overloads := [false, false, false, false, true] } ∧
    (guarding { on with threshold := -14001 } 239).causeOn (upFields 10) ∧
    (guarding { on with loud := true, holdCount := 94 } 0).guard.holdCount + 1 < 96 * on.holdMs ∧
    96 * on.holdMs ≤ (guarding { on with loud := true, holdCount := 95 } 0).guard.holdCount + 1 := by
  refine ⟨⟨rfl, rfl, Or.inl ⟨4, rfl, by decide⟩⟩, ?_, Or.inr (Or.inl rfl),
    Or.inr (Or.inr ⟨-14000, by decide +kernel, by decide⟩), by decide, by decide⟩
  rintro (⟨p, hp, h⟩ | h | ⟨b, hb, _⟩)
  · have h5 : p = 5 := by simpa [guarding] using hp.symm
    exact absurd h (by rw [h5]; decide)
  · exact absurd h (by decide)
  · have hn : (guarding { Guard.reset with enable := true, peak := some 5, holdMs := 1 } 238).blockOn (upFields 10) = none := by
      decide +kernel
    rw [hn] at hb; cases hb

/-- Nest 1's generator a quarter turn on at full amplitude, with an envelope and a glide, before a frame in sequence. -/
def sounding (e : Envelope) (g : Option Glide) : State :=
  (linked .linkUp 9 0).modTone .n1 (fun w =>
    { w with phase := 0x40000000, increment := 7, amplitude := 8388607, envelope := e, glide := g })

/-- The sample and the generator behind it: FULL, first and last frame of each ramp and of a glide, half away from zero. -/
theorem test_generatorFrames :
    (let w := (sounding .full none).begun .n1
     w.sampleNow false = 8388607 ∧ w.sampleNow true = 0 ∧ w.oneFrameOn.phase = 0x40000007) ∧
    (let w := (sounding (.rampUp 0) none).begun .n1; w.sampleNow false = 0 ∧ w.oneFrameOn.envelope = .rampUp 1) ∧
    ((sounding (.rampUp 191) none).begun .n1).oneFrameOn.envelope = .full ∧
    (let w := (sounding (.rampDown 192 0) none).begun .n1
     w.positionNow = 191 ∧ w.oneFrameOn.envelope = .rampDown 192 1) ∧
    (let w := (sounding (.rampDown 192 191) none).begun .n1
     w.positionNow = 0 ∧ w.oneFrameOn.envelope = .silent) ∧
    (let w := (sounding .full (some ⟨0, 96, 0⟩)).begun .n1; w.amplitudeNow = 1 ∧ w.oneFrameOn.glide = some ⟨0, 96, 1⟩) ∧
    (let w := (sounding .full (some ⟨96, 0, 0⟩)).begun .n1; w.amplitudeNow = 95) ∧
    (let w := (sounding .full (some ⟨5, 9, 191⟩)).begun .n1
     w.amplitudeNow = 9 ∧ w.oneFrameOn.glide = none ∧ w.oneFrameOn.amplitude = 9) ∧
    halfAway 1 2 = 1 ∧ halfAway (-1) 2 = -1 ∧ halfAway 0 2 = 0 := by decide +kernel

theorem test_inSequenceFrameSounds :
    after (exec (.frameArrival (upFrame 10)) (sounding .full none)) (fun t =>
      decide (t.out.downstream = [downstreamBytes 10 ⟨8388607, 0, 0, 0⟩ (.all .mid)] ∧
        (t.tone .n1).phase = 0x40000007)) = true := by decide +kernel

/-- Tap channels 1 and 6 selected, with 47 and 46 samples held, and some cells queued. -/
def tapping (queued : Nat) : State :=
  let s := linked .linkUp 9 0
  { s with
      port :=
        { s.port with
            tapSelection := 33, tapQueue := List.replicate queued ⟨1, 0, []⟩
            taps := (s.port.taps.set 0 ⟨4, List.replicate 47 (1, true)⟩).set 5 ⟨4, List.replicate 46 (1, true)⟩ } }

/-- Record 0 judged PASS_A, waiting in the label queue, with the slots in given states. -/
def labelling (a b : SlotState) (tx : Transmitter) (last : Option SlotId) : State :=
  let u : UnitRecord := { UnitRecord.free with state := .queued, unitClass := some .passA, binCopy := defaultBins[0]? }
  { ready with
      records := [u, { u with state := .labelling, slot := some .a }, { u with state := .labelling, slot := some .b }] ++
        List.replicate 11 .free
      marking :=
        { Marking.reset with
            queue := [0], lastFilled := last, transmitter := tx
            slotA := if a = .free then .free else ⟨a, some 1, [], 0⟩
            slotB := if b = .free then .free else ⟨b, some 2, [], 0⟩ } }

/-- Slot A awaiting its answer with some frames left, nothing queued, and the receiver in a state. -/
def answering (left : Nat) (r : Receiver) : State :=
  let s := labelling .awaitAck .free .idle (some .a)
  { s with
      records := s.records.set 0 .free |>.set 2 .free
      marking := { s.marking with queue := [], slotA := { s.marking.slotA with ackLeft := left }, receiver := r } }

/-- Slot A awaiting its answer with the link up. -/
def answeringUp (left : Nat) : State :=
  { answering left .expectKind with link := (linked .linkUp 9 0).link }

theorem test_premises_InSequenceFrame_tapAndAcks :
    ((tapping 7).port.taps.length = 9 ∧ (tapping 7).link.lastNumber = some 9 ∧
      (tapping 7).port.tapSelection.getLsbD 0 = true ∧ (tapping 7).port.tapSelection.getLsbD 1 = false ∧
      ((tapping 7).port.taps.getD 0 .empty).samples.length + 1 = 48 ∧
      ((tapping 7).port.taps.getD 5 .empty).samples.length + 1 ≠ 48) ∧
    ((answeringUp 2).sound ∧ ((answeringUp 2).marking.slot .a).state = .awaitAck ∧
      2 ≤ ((answeringUp 2).marking.slot .a).ackLeft ∧ ((answeringUp 2).marking.slot .b).state ≠ .awaitAck) ∧
    (answeringUp 1).sound ∧ ((answeringUp 1).marking.slot .a).ackLeft ≤ 1 ∧
    ((answeringUp 1).marking.slot .a).record = some 1 :=
  ⟨by decide, ⟨sound_of_check (by decide +kernel), by decide⟩, sound_of_check (by decide +kernel), by decide⟩

theorem test_inSequenceFrameTaps :
    let run := fun (s : State) => exec (.frameArrival (upFrame 10)) s
    after (run (tapping 7)) (fun t =>
      decide (t.port.tapQueue.length = 8 ∧ (t.port.tapQueue.getD 7 ⟨0, 0, []⟩).samples.getLast? = some (5, false) ∧
        (t.port.taps.getD 0 .empty) = .empty ∧ (t.port.taps.getD 5 .empty).samples.length = 47)) = true ∧
    after (run (tapping 8)) (fun t => decide (t.port.tapDrops = 1)) = true ∧
    after (run (answeringUp 2)) (fun t => decide (t.marking.slotA.ackLeft = 1)) = true := by decide +kernel

/-- One frame: a gap counts down, a window counts and fills, a deadline ends a unit, a guard goes LOUD. -/
theorem test_inSequenceFrameCounts :
    let run := fun (s : State) => exec (.frameArrival (upFrame 10)) s
    after (run (holdingWith .gap (fun q => { q with gap := some ⟨.silence, 2⟩ }))) (fun t =>
      decide ((t.nest .n1).gap = some ⟨.silence, 1⟩ ∧ (t.nest .n1).deadline = 95999)) = true ∧
    after (run (holdingWith .window (fun q => { q with windowCount := 94 }))) (fun t =>
      decide ((t.nest .n1).state = .window ∧ (t.nest .n1).windowCount = 95)) = true ∧
    after (run (holdingWith .window (fun q => { q with windowCount := 95 }))) (fun t =>
      decide ((t.nest .n1).state = .evaluate ∧ t.analyser.evaluation.get .n1 = some 0)) = true ∧
    after (run (holdingWith .settle (fun q => { q with deadline := 1 }))) (fun t =>
      decide ((t.record 0).unitClass = some .retestTimeout)) = true ∧
    after (run (guarding { Guard.reset with enable := true, peak := some 4 } 0)) (fun t =>
      decide (t.guard.loud = true ∧ t.guard.loudEntries = 1)) = true := by decide +kernel

theorem test_inSequenceFrameDrainsAStream :
    after (exec (.frameArrival (upFrame 10)) (reserved 1)) (fun t =>
      decide (t.port.streams.get .n1 = [] ∧ t.port.streamUnderruns.get .n1 = 0 ∧ t.link.frameIndex = 1 ∧
        t.out.downstream = [downstreamBytes 10 ⟨3, 0, 0, 0⟩ (.all .mid)])) = true ∧
    after (exec (.frameArrival (upFrame 10)) (reserved 0)) (fun t =>
      decide (t.port.streamUnderruns.get .n1 = 1)) = true := by decide +kernel

theorem test_premises_GapIsFilled :
    (linked .linkUp 9 0).link.lastNumber = some 9 ∧
    ((upFields 11).number - ((9 : BitVec 16) + 1)).toNat = 1 ∧ ((upFields 105).number - ((9 : BitVec 16) + 1)).toNat = 95 ∧
    UpstreamFrame.ofBytes (upFrame 105) = some (upFields 105) := by decide +kernel

theorem test_gapOfOneIsFilled :
    after (exec (.frameArrival (upFrame 11)) (linked .linkUp 9 0)) (fun t =>
      decide (t.link.frameIndex = 2 ∧ t.link.missingFrames = 1 ∧ t.link.lastNumber = some 11 ∧
        t.out.downstream.length = 2)) = true := by decide +kernel

theorem test_premises_BadFrameSubstituted :
    UpstreamFrame.ofBytes [] = none ∧ (linked .linkUp 9 0).link.badRun = 0 ∧ (linked .linkUp 9 14).link.badRun < 15 ∧
    (linked .linkUp 9 14).link.lastNumber = some 9 ∧ (linked .linkUp 9 14).link.state = .linkUp := by decide

theorem test_premises_SubstitutedFrameSpoilsWindow :
    (holding .window).sound ∧ ((holding .window).nest .n1).step.isSome = true ∧
    ((holding .window).nest .n1).record = some 0 ∧ (holding .window).link.lastNumber = some 9 ∧
    (((holding .window).nest .n1).deadlineRunning = true → 1 < ((holding .window).nest .n1).deadline) ∧
    ((holding .window).nest .n1).retries < ((holding .window).nest .n1).settings.retryBudget ∧
    (let s := holdingWith .window (fun q => { q with retries := 1, deadline := 2 })
     s.sound ∧ (s.nest .n1).settings.retryBudget ≤ (s.nest .n1).retries ∧ 1 < (s.nest .n1).deadline) :=
  ⟨sound_of_check (by decide +kernel), rfl, rfl, rfl, by decide, by decide, sound_of_check (by decide +kernel), by decide,
    by decide⟩

theorem test_premises_LinkLossEndsRuns :
    (holding .window).sound ∧
    (holding .window).leavesLinkUp (.frameArrival (upFrame 106)) ∧
    (let s : State := { holding .window with link := { (holding .window).link with badRun := 15 } }
     s.sound ∧ s.leavesLinkUp (.frameArrival [])) ∧
    (let s : State := { holding .window with link := { (holding .window).link with badRun := 16 } }
     s.sound ∧ s.leavesLinkUp .badRunLimit) ∧
    (holding .window).leavesLinkUp .silenceTimeout ∧ ((holding .window).nest .n1).state.running = true ∧
    ((holding .window).nest .n2).state.running = false := by
  refine ⟨sound_of_check (by decide +kernel), ⟨rfl, Or.inl ⟨upFields 106, 9, by decide +kernel, rfl, by decide⟩⟩,
    ⟨sound_of_check (by decide +kernel), rfl, Or.inr ⟨by decide, by decide⟩⟩,
    ⟨sound_of_check (by decide +kernel), rfl, by decide⟩, ⟨rfl, rfl⟩, rfl, rfl⟩

theorem test_silenceEndsAUnit :
    after (exec .silenceTimeout (holding .window)) (fun t =>
      decide (t.link.state = .linkDown ∧ t.link.linkDowns = 1 ∧ (t.nest .n1).state = .judged ∧
        (t.record 0).unitClass = some .retestLink)) = true := by decide +kernel

theorem test_badRunLimitTakesTheLinkDown :
    after (exec .badRunLimit (linked .linkUp 9 16)) (fun t => decide (t.link.state = .linkDown)) = true ∧
    after (exec .badRunLimit (linked .linkUp 9 15)) (fun t => decide (t.link.state = .linkUp)) = true := by decide +kernel

theorem test_premises_AcquisitionStarts :
    ready.link.state = .linkDown ∧ UpstreamFrame.ofBytes [] = none ∧
    UpstreamFrame.ofBytes (upFrame 1) = some (upFields 1) ∧ ∀ n, (ready.nest n).state.running = false :=
  ⟨rfl, by decide, by decide +kernel, fun n => by cases n <;> rfl⟩

/-- ACQUIRING with a count of frames. -/
def acquiring (c : Nat) : State :=
  { linked .acquiring 9 0 with link := { (linked .acquiring 9 0).link with acquisitionCount := c } }

theorem test_premises_AcquisitionRuns :
    (acquiring 95).link.state = .acquiring ∧ (acquiring 95).link.lastNumber = some 9 ∧
    UpstreamFrame.ofBytes (upFrame 10) = some (upFields 10) ∧ (upFields 10).number = (9 : BitVec 16) + 1 ∧
    96 ≤ (acquiring 95).link.acquisitionCount + 1 ∧ ¬ 96 ≤ (acquiring 94).link.acquisitionCount + 1 ∧
    (upFields 11).number ≠ (9 : BitVec 16) + 1 ∧ UpstreamFrame.ofBytes [] = none ∧
    (acquiring 95).link.silenceRunning = true ∧ 96 ≤ (acquiring 96).link.acquisitionCount := by decide +kernel

theorem test_acquisitionCompletes :
    after (exec (.frameArrival (upFrame 10)) (acquiring 95)) (fun t =>
      decide (t.link.state = .linkUp ∧ t.port.notices = [.link .linkUp 1 0])) = true ∧
    after (exec .acquisitionComplete (acquiring 96)) (fun t => decide (t.link.state = .linkUp)) = true ∧
    after (exec .acquisitionComplete (acquiring 95)) (fun t => decide (t.link.state = .acquiring)) = true := by
  decide +kernel

/-- A full accumulator of one tap channel, with some cells queued. -/
def tapped (c queued : Nat) : State :=
  { ready with
      port :=
        { ready.port with
            taps := ready.port.taps.set (c - 1) ⟨4, List.replicate 48 (1, false)⟩
            tapQueue := List.replicate queued ⟨1, 0, []⟩ } }

theorem test_premises_TapCellFormed :
    ((tapped 1 7).port.taps.getD 0 .empty).samples.length = 48 ∧ (tapped 1 7).port.tapQueue.length < 8 ∧
    ((tapped 9 8).port.taps.getD 8 .empty).samples.length = 48 ∧ ¬ (tapped 9 8).port.tapQueue.length < 8 := by decide +kernel

theorem test_tapCellFormed :
    after (exec (.tapCellFormed 1) (tapped 1 7)) (fun t =>
      decide (t.port.tapQueue.length = 8 ∧ t.port.tapDrops = 0 ∧ (t.port.taps.getD 0 .empty).samples = [])) = true ∧
    after (exec (.tapCellFormed 9) (tapped 9 8)) (fun t =>
      decide (t.port.tapQueue.length = 8 ∧ t.port.tapDrops = 1)) = true := by decide +kernel

/-! ### Premises: the guard -/

/-- A guard's completed block of silence in a state, judged with a channel 5 sample. -/
def judgingIn (s : State) (g : Guard) (x : Sample) : State :=
  { s with
      guard := { g with position := 240 }
      link := { s.link with current := ⟨1, 1, [0, 0, 0, 0, x], List.replicate 5 false, false⟩ } }

def judging (g : Guard) (x : Sample) : State := judgingIn ready g x

def guardOn : Guard := { Guard.reset with enable := true, peak := some 100, holdMs := 1 }

def guardLoud (count : Nat) : Guard := { guardOn with loud := true, holdCount := count }

theorem test_premises_GuardBlockJudged :
    ready.guard.position ≠ 240 ∧ (judging Guard.reset 0).guard.enable = false ∧
    ((judging guardOn 0).guard.enable = true ∧ (judging guardOn 0).guard.loud = false ∧
      ¬ (-3000 < blockLevel (judging guardOn 0).guard.sum)) ∧
    ((judging guardOn 100).guard.peak = some 100 ∧ ¬ 100 < (100 : Sample).toInt.natAbs ∧
      100 < (101 : Sample).toInt.natAbs) ∧
    (judging (guardLoud 94) 0).guard.holdCount + 1 < 96 * (judging (guardLoud 94) 0).guard.holdMs ∧
    96 * (judging (guardLoud 95) 0).guard.holdMs ≤ (judging (guardLoud 95) 0).guard.holdCount + 1 ∧
    (judging (guardLoud 95) 101).guard.loud = true := by decide +kernel

/-- An entry to LOUD on each kind of nest: a window not begun, one begun, an evaluation in its first frame, a retry budget
that is used up, and no deadline that has run out. -/
theorem test_premises_GuardBlockJudged_nests :
    (let s := judgingIn (holding .window) guardOn 101
     s.sound ∧ (s.nest .n1).guarded = true ∧ (s.nest .n1).windowCount = 0) ∧
    (let s := judgingIn (holdingWith .window (fun q => { q with windowCount := 1 })) guardOn 101
     s.sound ∧ (s.nest .n1).windowCount ≠ 0 ∧ (s.nest .n1).retries < (s.nest .n1).settings.retryBudget) ∧
    (let s := judgingIn (holdingWith .evaluate (fun q => { q with retries := 1 })) guardOn 101
     s.sound ∧ s.analyser.evaluation.get .n1 = some 0 ∧ (s.nest .n1).settings.retryBudget ≤ (s.nest .n1).retries ∧
       (s.nest .n1).record = some 0 ∧ s.port.notices.length < 32) ∧
    (∀ n, ((holding .window).nest n).state.running = true → ((holding .window).nest n).deadlineRunning = true →
      ((holding .window).nest n).deadline ≠ 0) ∧
    (judgingIn (holding .guardWait) (guardLoud 95) 0).guard.loud = true :=
  ⟨⟨sound_of_check (by decide +kernel), rfl, rfl⟩, ⟨sound_of_check (by decide +kernel), by decide, by decide⟩,
    ⟨sound_of_check (by decide +kernel), rfl, by decide, rfl, by decide⟩, fun n => by cases n <;> decide, rfl⟩

theorem test_guardBlockJudged :
    after (exec .guardBlockEnd (judgingIn (holding .window) guardOn 101)) (fun t =>
      decide (t.guard.loud = true ∧ (t.nest .n1).state = .guardWait)) = true ∧
    after (exec .guardBlockEnd (judgingIn (holdingWith .evaluate (fun q => { q with retries := 1 })) guardOn 101)) (fun t =>
      decide ((t.record 0).unitClass = some .retestNoise)) = true ∧
    after (exec .guardBlockEnd (judgingIn (holding .guardWait) (guardLoud 95) 0)) (fun t =>
      decide (t.guard.loud = false ∧ (t.nest .n1).state = .window)) = true := by decide +kernel

/-- A guard whose frame ended its hold, with a nest that waits for QUIET. -/
def holdEnding : State := { holding .guardWait with guard := { guardLoud 96 with holdDue := true } }

theorem test_premises_GuardHoldEnds :
    ¬ (ready.guard.loud = true ∧ ready.guard.holdDue = true) ∧ holdEnding.guard.loud = true ∧
    holdEnding.guard.holdDue = true ∧ (holdEnding.nest .n1).state = .guardWait := by decide

theorem test_guardHoldEndDoesNothingBeforeItsMoment :
    after (exec .guardHoldEnd ready) (fun t => decide (t = ready)) = true := by decide +kernel

/-- A LOUD guard with the largest sample 50 and the loudest block -5,000 since its hold began. -/
def heldLoud : State :=
  { ready with guard := { guardLoud 10 with peakSince := 50, loudestSince := some (-5000) } }

theorem test_premises_SetGuard (ops : List Byte) :
    (given ready 0x38 ops).takes 7 0x38 ops [] ∧ (given heldLoud 0x38 ops).takes 7 0x38 ops [] :=
  ⟨ready_takes _ _, given_takes _ _ rfl rfl (by decide)⟩

/-- Each clause of SET GUARD at the edges of its fields. -/
theorem test_setGuardFields :
    [(2, 0, 0, 0, 1, 0), (0, -14001, 0, 0, 1, 1), (0, 1, 0, 0, 1, 1), (0, 0, 2001, 0, 1, 2), (0, 0, -1, 0, 1, 2),
      (0, 0, 0, 8388608, 1, 3), (0, 0, 0, 0, 0, 4), (0, 0, 0, 0, 1001, 4), (1, -13999, 2, 0, 1, 2)].all (fun x =>
      replyIs (exec .setGuard (given ready 0x38 (guardOps x.1 x.2.1 x.2.2.1 x.2.2.2.1 x.2.2.2.2.1))) (some .range)
        (toBytes 1 x.2.2.2.2.2)) = true ∧
    replyIs (exec .setGuard (given ready 0x38 (guardOps 1 (-13000) 1000 8388607 1000))) none [] = true ∧
    replyIs (exec .setGuard (given ready 0x38 (guardOps 0 0 2000 0 1))) none [] = true := by decide +kernel

/-- In LOUD: settings that the hold was quiet by, and settings that it was not. -/
theorem test_setGuardInLoud :
    after (exec .setGuard (given heldLoud 0x38 (guardOps 1 (-4000) 1000 50 1))) (fun t =>
      decide (t.guard.holdCount = 10 ∧ t.guard.loud = true)) = true ∧
    after (exec .setGuard (given heldLoud 0x38 (guardOps 1 (-4000) 1000 49 1))) (fun t =>
      decide (t.guard.holdCount = 0 ∧ t.guard.loud = true)) = true ∧
    after (exec .setGuard (given heldLoud 0x38 (guardOps 1 (-4001) 1000 50 1))) (fun t =>
      decide (t.guard.holdCount = 0)) = true ∧
    heldLoud.guard.loud = true := by decide +kernel

/-! ### Premises: nests, lanes and tone generators -/

/-- Nest 1 in GAP with a phase and frames left. -/
def inGap (ph : GapPhase) (left gapMs : Nat) (st : Step) : State :=
  holdingWith .gap (fun q => { q with gap := some ⟨ph, left⟩, step := some st
                                      settings := { q.settings with rangeGapMs := gapMs } })

/-- A MEASURE step under SETTLED with settle and cap times of 0: UNSETTLED at its entry. -/
def uncapped : Step := { measureStep with dwell := .settled, settleMs := 0, capMs := 0 }

theorem test_premises_GapPhaseEnds :
    ((inGap .rampDown 0 0 measureStep).nest .n1).state = .gap ∧
    ((inGap .rampDown 0 0 measureStep).nest .n1).gap = some ⟨.rampDown, 0⟩ ∧
    ((inGap .rampDown 0 5 measureStep).nest .n1).settings.rangeGapMs ≠ 0 ∧
    ((inGap .silence 0 5 measureStep).nest .n1).gap = some ⟨.silence, 0⟩ ∧
    ((inGap .rampUp 0 5 conditionStep).nest .n1).gap = some ⟨.rampUp, 0⟩ ∧ conditionStep.measure = false ∧
    settleTest measureStep 0 false = .wait ∧ settleTest { measureStep with settleMs := 0 } 0 false = .settled ∧
    settleTest uncapped 0 false = .unsettled ∧ uncapped.measure = true ∧
    ((inGap .rampUp 0 5 uncapped).nest .n1).record = some 0 ∧ 0 < (inGap .rampUp 0 5 uncapped).records.length := by decide

theorem test_gapPhases :
    after (exec (.gapPhaseEnd .n1) (inGap .rampDown 0 0 measureStep)) (fun t =>
      decide ((t.nest .n1).gap = some ⟨.rampUp, 192⟩)) = true ∧
    after (exec (.gapPhaseEnd .n1) (inGap .rampDown 0 5 measureStep)) (fun t =>
      decide ((t.nest .n1).gap = some ⟨.silence, 480⟩)) = true ∧
    after (exec (.gapPhaseEnd .n1) (inGap .rampUp 0 5 measureStep)) (fun t =>
      decide ((t.nest .n1).state = .settle)) = true ∧
    after (exec (.gapPhaseEnd .n1) (inGap .rampUp 1 5 measureStep)) (fun t =>
      decide ((t.nest .n1).state = .gap)) = true ∧
    after (exec (.gapPhaseEnd .n1) ((inGap .rampUp 0 5 uncapped).modNest .n1 (fun q => { q with stepIndex := 1 })))
      (fun t => decide ((t.nest .n1).state = .judged ∧ (t.record 0).unitClass = some .failUnsettled)) = true := by
  decide +kernel

theorem test_dwellAtTheEdges :
    settleTest measureStep 96 false = .settled ∧ settleTest measureStep 95 false = .wait ∧
    settleTest { measureStep with dwell := .settled } 191 false = .wait ∧
    settleTest { measureStep with dwell := .settled } 192 false = .unsettled ∧
    settleTest { measureStep with dwell := .settled } 192 true = .settled ∧
    settleTest { measureStep with dwell := .both } 95 true = .wait ∧
    settleTest { measureStep with dwell := .either } 95 true = .settled := by decide

/-- Nest 1 in SETTLE with some frames counted. -/
def settling (elapsed : Nat) (rule : DwellRule) : State :=
  holdingWith .settle (fun q => { q with settleElapsed := elapsed, step := some { measureStep with dwell := rule } })

/-- The same with only some lanes FREE. -/
def crowded (s : State) (free : Nat) : State :=
  { s with
      analyser :=
        { s.analyser with
            lanes := List.replicate free none ++ List.replicate (64 - free) (some ⟨.n2, .held, 1, .fundamental, 0, 0⟩) } }

theorem test_premises_SettleTimeRequestsLanes :
    ((settling 96 .timed).nest .n1).state = .settle ∧ ((settling 96 .timed).nest .n1).settleElapsed = 96 * 1 ∧
    settleTest measureStep 96 false = .settled ∧ (settling 96 .timed).analyser.queue = [] ∧
    (lanePlan measureStep .none).length = 1 ∧
    (crowded (settling 96 .timed) 0).analyser.freeLanes < (lanePlan measureStep .none).length ∧
    (lanePlan measureStep .none).length ≤ (crowded (settling 96 .timed) 1).analyser.freeLanes ∧
    measureStep.guarded = true ∧ (settling 96 .timed).guard.loud = false ∧
    ({ settling 96 .timed with guard := guardLoud 0 } : State).guard.loud = true := by decide +kernel

theorem test_settleTimeElapsed :
    after (exec (.settleTimeElapsed .n1) (settling 96 .timed)) (fun t => decide ((t.nest .n1).state = .window)) = true ∧
    after (exec (.settleTimeElapsed .n1) (crowded (settling 96 .timed) 0)) (fun t =>
      decide ((t.nest .n1).state = .waitLanes ∧ t.analyser.queue.length = 1)) = true ∧
    after (exec (.settleTimeElapsed .n1) (settling 95 .timed)) (fun t => decide ((t.nest .n1).state = .settle)) = true := by
  decide +kernel

/-- Nest 1 in SETTLE at the end of a silent block. -/
def blockDone (pairs : Nat) : State :=
  (settling 95 .settled).setDetector .n1
    { running := true, position := 240, sum := 0, reference := some (-13990), pairs := pairs, tolerance := 10
      substituted := false, reported := false }

/-- The same on the frame that reaches the cap, with the second pair in sequence, at the program's last step. -/
def blockCapped : State := (blockDone 1).modNest .n1 (fun q => { q with settleElapsed := 192, stepIndex := 1 })

theorem test_premises_SettleBlockJudged :
    ((blockDone 1).nest .n1).state = .settle ∧ ((blockDone 1).analyser.detector.get .n1).position = 240 ∧
    settleTest { measureStep with dwell := .settled } 95 (decide (3 ≤ 2)) = .wait ∧
    settleTest { measureStep with dwell := .settled } 95 (decide (3 ≤ 3)) = .settled ∧ blockLevel 0 = -14000 ∧
    ((blockCapped.nest .n1).state = .settle ∧ (blockCapped.analyser.detector.get .n1).position = 240 ∧
      settleTest { measureStep with dwell := .settled } 192 (decide (3 ≤ 2)) = .unsettled ∧
      (blockCapped.nest .n1).record = some 0 ∧ 0 < blockCapped.records.length) := by
  decide +kernel

theorem test_settleBlockEnd :
    after (exec (.settleBlockEnd .n1) (blockDone 1)) (fun t => decide ((t.nest .n1).state = .settle)) = true ∧
    after (exec (.settleBlockEnd .n1) (blockDone 2)) (fun t => decide ((t.nest .n1).state = .window)) = true ∧
    after (exec (.settleBlockEnd .n1) blockCapped) (fun t =>
      decide ((t.nest .n1).state = .judged ∧ (t.record 0).unitClass = some .failUnsettled)) = true := by
  decide +kernel

/-- The second step of program 0 in recipe memory, and nest 1 playing in range MID. -/
def withNext (s : State) (row : List Byte) : State :=
  ({ s with recipe := { s.recipe with rows := Memory.writeMany 0 32 row [] } } : State).modTone .n1
    (fun w => { w with range := .mid, envelope := .full })

/-- Every way for the second step to begin, whatever state the nest leaves: with a range gap, with a ramp-down or muted;
directly as CONDITION, as MEASURE that settles at once, as MEASURE that waits; and UNSETTLED at its entry. -/
theorem test_premises_nextStep (s : State) (h : s.recipe.entry 0 = .active prog) :
    let next := fun (row : List Byte) => ((withNext s row).recipe.stepOf prog 1).1
    let begins := fun (row : List Byte) => (withNext s row).beginsNext .n1 (next row)
    ((withNext s conditionRow).recipe.entry 0).fields = some prog ∧ 0 + 1 < prog.stepCount ∧ 0 + 2 = prog.stepCount ∧
    ((withNext s conditionRow).tone .n1).range = .mid ∧ ((withNext s conditionRow).tone .n1).envelope = .full ∧
    ((next (measureRow 1 1 1 2)).range = .low ∧ begins (measureRow 1 1 1 2)) ∧
    ((next conditionRow).range = .mid ∧ (next conditionRow).measure = false ∧ begins conditionRow) ∧
    (settleTest (next (measureRow 2 1 0 0)) 0 false = .settled ∧ begins (measureRow 2 1 0 0)) ∧
    (settleTest (next (measureRow 2 1 1 1)) 0 false = .wait ∧ begins (measureRow 2 1 1 1)) ∧
    (settleTest (next (measureRow 2 2 0 0)) 0 false = .unsettled ∧ ¬ begins (measureRow 2 2 0 0)) := by
  intro next begins
  have key : ∀ row, next row = (({ Recipe.reset with rows := Memory.writeMany 0 32 row [] } : Recipe).stepOf prog 1).1 :=
    fun _ => rfl
  have range : ∀ row, ((withNext s row).tone .n1).range = .mid := fun _ => rfl
  have e : ∀ row, begins row ↔ ¬ ((next row).range = .mid ∧ (next row).measure = true ∧
      settleTest (next row) 0 false = .unsettled) := fun row => Iff.rfl
  refine ⟨?_, by decide, by decide, rfl, rfl, ?_⟩
  · show (s.recipe.entry 0).fields = _
    rw [h]; rfl
  · simp only [e, key]
    decide +kernel

/-- Nest 1 in SETTLE with its cap reached at a step of the program, playing in a range. -/
def capped (i : Nat) (range : Range) : State :=
  ((settling 192 .settled).modNest .n1 (fun q => { q with stepIndex := i })).modTone .n1 (fun t => { t with range := range })

theorem test_premises_SettleCapUnsettles :
    settleTest { measureStep with dwell := .settled } 192 false = .unsettled ∧
    ((capped 1 .mid).nest .n1).record = some 0 ∧ (capped 1 .mid).lastStep .n1 true ∧
    ((capped 0 .mid).nest .n1).settings.stopOnFail = false ∧ ((capped 0 .mid).nest .n1).program = some 0 ∧
    ((capped 0 .mid).recipe.entry 0).fields = some prog ∧ ((capped 0 .mid).nest .n1).stepIndex + 1 < prog.stepCount ∧
    ((capped 0 .mid).recipe.stepOf prog 1).1.range ≠ ((capped 0 .mid).tone .n1).range :=
  ⟨by decide, rfl, Or.inr ⟨0, prog, rfl, rfl, by decide⟩, rfl, rfl, rfl, by decide, by decide +kernel⟩

theorem test_settleCapReached :
    after (exec (.settleCapReached .n1) (capped 1 .mid)) (fun t =>
      decide ((t.record 0).unitClass = some .failUnsettled ∧ (t.nest .n1).state = .judged)) = true ∧
    after (exec (.settleCapReached .n1) (capped 0 .mid)) (fun t =>
      decide ((t.nest .n1).state = .gap ∧ (t.nest .n1).stepIndex = 1)) = true ∧
    after (exec (.settleCapReached .n1) (withNext (capped 0 .mid) conditionRow)) (fun t =>
      decide ((t.nest .n1).state = .condition ∧ (t.analyser.detector.get .n1) = .stopped)) = true ∧
    after (exec (.settleCapReached .n1) (withNext (capped 0 .mid) (measureRow 2 2 0 0))) (fun t =>
      decide ((t.nest .n1).state = .judged ∧ (t.record 0).stepsCompleted = 2)) = true := by decide +kernel

/-- Nest 2's request behind nest 1's. -/
def waitingTwo : State :=
  let s := (holding .waitLanes).modNest .n2 (fun q => { q with state := .waitLanes, step := some measureStep })
  { s with analyser := { s.analyser with queue := s.analyser.queue ++ [⟨.n2, 1, [(1, .fundamental)]⟩] } }

theorem test_premises_HeadRequestGranted :
    ready.analyser.queue = [] ∧ (holding .waitLanes).analyser.queue = [⟨.n1, 1, [(1, .fundamental)]⟩] ∧
    (crowded (holding .waitLanes) 0).analyser.freeLanes < 1 ∧ 1 ≤ (crowded (holding .waitLanes) 1).analyser.freeLanes ∧
    ((holding .waitLanes).nest .n1).guarded = true ∧ (holding .waitLanes).guard.loud = false ∧
    (waitingTwo.analyser.queue.head? = some ⟨.n1, 1, [(1, .fundamental)]⟩ ∧
      waitingTwo.analyser.queue.tail.head? = some ⟨.n2, 1, [(1, .fundamental)]⟩ ∧
      1 ≤ (crowded waitingTwo 1).analyser.freeLanes ∧ (crowded waitingTwo 1).analyser.freeLanes - 1 < 1) ∧
    ({ holding .waitLanes with guard := guardLoud 0 } : State).guard.loud = true := by decide +kernel

theorem test_laneGrant :
    after (exec .laneGrant (crowded (holding .waitLanes) 1)) (fun t =>
      decide ((t.nest .n1).state = .window ∧ t.analyser.freeLanes = 0)) = true ∧
    after (exec .laneGrant (crowded waitingTwo 1)) (fun t =>
      decide ((t.nest .n1).state = .window ∧ (t.nest .n2).state = .waitLanes)) = true ∧
    after (exec .laneGrant (crowded waitingTwo 2)) (fun t =>
      decide ((t.nest .n1).state = .window ∧ (t.nest .n2).state = .window ∧ t.analyser.queue = [])) = true ∧
    after (exec .laneGrant { holding .waitLanes with guard := guardLoud 0 }) (fun t =>
      decide ((t.nest .n1).state = .guardWait)) = true := by decide +kernel

theorem test_premises_WindowCompletes :
    (let s := holdingWith .window (fun q => { q with windowCount := 96 });
     (s.nest .n1).state = .window ∧ (s.nest .n1).step = some measureStep ∧
       measureStep.window ≤ (s.nest .n1).windowCount) := by decide

theorem test_windowComplete :
    after (exec (.windowComplete .n1) (holdingWith .window (fun q => { q with windowCount := 96 }))) (fun t =>
      decide ((t.nest .n1).state = .evaluate ∧ t.analyser.evaluation.get .n1 = some 0)) = true ∧
    after (exec (.windowComplete .n1) (holdingWith .window (fun q => { q with windowCount := 95 }))) (fun t =>
      decide ((t.nest .n1).state = .window)) = true := by decide +kernel

/-- A lane with a given correlation sum in a role. -/
def lane (r : LaneRole) (i : Int) : Assignment := ⟨.n1, .evaluating, 1, r, BitVec.ofInt 64 i, 0⟩

/-- Judging at the bounds: L1 of a full-scale square's fundamental against bounds one apart. -/
theorem test_judgingAtTheBounds :
    let r := fun (ls : List Assignment) (o : Bool) (lim : Limits) =>
      (evaluate ls o 0 .n1 0 0 0 measureStep lim).outcome
    let l1 := ((evaluate [lane .fundamental 1000000000] false 0 .n1 0 0 0 measureStep .none).response).getD 0
    r [lane .fundamental 1000000000] true .none = .overload ∧ r [lane .fundamental 0] false .none = .noResponse ∧
    r [lane .fundamental 1000000000] false .none = .pass ∧
    r [lane .fundamental 1000000000] false ⟨some l1, some l1, none, none⟩ = .pass ∧
    r [lane .fundamental 1000000000] false ⟨some (l1 + 1), none, none, none⟩ = .low ∧
    r [lane .fundamental 1000000000] false ⟨none, some (l1 - 1), none, none⟩ = .high ∧
    r [lane .fundamental 1000000000, lane .thd 1000000000] false ⟨none, none, some 0, none⟩ = .pass ∧
    r [lane .fundamental 1000000000, lane .thd 1000000000] false ⟨none, none, some (-1), none⟩ = .thd ∧
    r [lane .fundamental 1000000000, lane .hoh 1000000000] false ⟨none, none, none, some (-1)⟩ = .rub := by decide +kernel

/-- Nest 1 in EVALUATE at the last step, its record with a policy of captures and a provisional record, or none. -/
def evaluating (policy : CapturePolicy) (marked : Bool) : State :=
  let s := holdingWith .evaluate (fun q => { q with stepIndex := 1, settings := { q.settings with policy := policy } })
  { s with
      capture :=
        if marked then
          { s.capture with
              records := [⟨.provisional, .n1, 0, 96, 1, 96, 0⟩], occupied := 100
              mark := { s.capture.mark with n1 := some 0 } }
        else s.capture }

theorem test_premises_EvaluationCompletes :
    (ready.nest .n1).state ≠ .evaluate ∧ (evaluating .all true).sound ∧
    ((evaluating .all true).nest .n1).state = .evaluate ∧ ((evaluating .all true).analyser.evaluation.get .n1).isSome = true ∧
    ((evaluating .all true).nest .n1).step = some measureStep ∧ (evaluating .all true).lastStep .n1 true ∧
    ((evaluating .all true).capture.provisional .n1).isSome = true ∧
    (evaluating .off true).sound ∧ ((evaluating .all false).capture.provisional .n1).isSome = false :=
  ⟨by decide, sound_of_check (by decide +kernel), rfl, rfl, rfl, Or.inr ⟨0, prog, rfl, rfl, by decide⟩, by decide +kernel,
    sound_of_check (by decide +kernel), by decide +kernel⟩

/-- The first step of two, with the second in recipe memory. -/
def evaluatingFirst (row : List Byte) : State :=
  withNext ((evaluating .all true).modNest .n1 (fun q => { q with stepIndex := 0 })) row

theorem test_premises_EvaluationCompletes_next :
    (evaluatingFirst conditionRow).sound ∧ ((evaluatingFirst conditionRow).nest .n1).settings.stopOnFail = false ∧
    ((evaluatingFirst conditionRow).nest .n1).program = some 0 ∧
    (evaluatingFirst conditionRow).recipe.entry 0 = .active prog :=
  ⟨sound_of_check (by decide +kernel), rfl, rfl, rfl⟩

theorem test_evaluationComplete :
    after (exec (.evaluationComplete .n1) (evaluating .all true)) (fun t =>
      decide ((t.record 0).unitClass = some .failLow ∧ (t.record 0).capturesCommitted = 1 ∧
        t.capture.records.map CaptureRecord.state = [.committed] ∧ t.yield.window = [false])) = true ∧
    after (exec (.evaluationComplete .n1) (evaluating .off true)) (fun t =>
      decide (t.capture.records.map CaptureRecord.state = [.void])) = true ∧
    after (exec (.evaluationComplete .n1) (evaluatingFirst (measureRow 1 1 1 2))) (fun t =>
      decide ((t.nest .n1).gap = some ⟨.rampDown, 192⟩ ∧ (t.record 0).stepsCompleted = 1 ∧
        t.analyser.evaluation.get .n1 = none)) = true ∧
    after (exec (.evaluationComplete .n1) (evaluatingFirst conditionRow)) (fun t =>
      decide ((t.nest .n1).state = .condition ∧ (t.tone .n1).glide = some ⟨0, 8388607, 0⟩)) = true := by decide +kernel

/-- Nest 1 in CONDITION at the end of a burst phase. -/
def bursting (on : Bool) (off repeats i : Nat) : State :=
  (holdingWith .condition (fun q => { q with stepIndex := i, step := some { conditionStep with offCycles := off } })).modTone
    .n1 (fun t => { t with burst := some ⟨on, 0, repeats⟩, envelope := .full })

theorem test_premises_BurstPhaseEnds :
    ((bursting true 1 1 1).nest .n1).state = .condition ∧
    ((bursting true 1 1 1).tone .n1).burst = some ⟨true, 0, 1⟩ ∧
    ((bursting true 0 2 1).tone .n1).burst = some ⟨true, 0, 2⟩ ∧ (bursting true 0 1 1).lastStep .n1 false ∧
    ((bursting false 1 1 1).nest .n1).record = some 0 ∧ 0 < (bursting false 1 1 1).records.length ∧
    ((bursting false 1 1 0).nest .n1).program = some 0 ∧ (bursting false 1 1 0).recipe.entry 0 = .active prog :=
  ⟨rfl, rfl, rfl, Or.inr ⟨0, prog, rfl, rfl, by decide⟩, rfl, by decide, rfl, rfl⟩

theorem test_burstCountEnd :
    after (exec (.burstCountEnd .n1) (bursting true 1 1 1)) (fun t =>
      decide ((t.tone .n1).burst = some ⟨false, 1, 1⟩ ∧ (t.tone .n1).burstMute = true)) = true ∧
    after (exec (.burstCountEnd .n1) (bursting true 0 2 1)) (fun t =>
      decide ((t.tone .n1).burst = some ⟨true, 1, 1⟩)) = true ∧
    after (exec (.burstCountEnd .n1) (bursting false 1 1 1)) (fun t =>
      decide ((t.nest .n1).state = .judged ∧ (t.record 0).unitClass = some .passA)) = true ∧
    after (exec (.burstCountEnd .n1) (withNext (bursting false 1 1 0) (measureRow 2 1 1 1))) (fun t =>
      decide ((t.nest .n1).state = .settle ∧ (t.analyser.detector.get .n1).running = true ∧
        (t.tone .n1).burst = none)) = true := by decide +kernel

/-- Nest 1's generator with a glide and an envelope. -/
def playing (g : Option Glide) (e : Envelope) : State := ready.modTone .n1 (fun t => { t with glide := g, envelope := e })

theorem test_glideAndRampEndAtTheEdges :
    after (exec (.glideEnd .n1) (playing (some ⟨5, 9, 192⟩) .full)) (fun t =>
      decide ((t.tone .n1).glide = none ∧ (t.tone .n1).amplitude = 9)) = true ∧
    after (exec (.glideEnd .n1) (playing (some ⟨5, 9, 191⟩) .full)) (fun t =>
      decide ((t.tone .n1).glide = some ⟨5, 9, 191⟩)) = true ∧
    after (exec (.rampEnd .n1) (playing none (.rampDown 3 192))) (fun t =>
      decide ((t.tone .n1).envelope = .silent)) = true ∧
    after (exec (.rampEnd .n1) (playing none (.rampDown 3 191))) (fun t =>
      decide ((t.tone .n1).envelope = .rampDown 3 191)) = true ∧
    after (exec (.rampEnd .n1) (playing none .full)) (fun t => decide ((t.tone .n1).envelope = .full)) = true := by
  decide +kernel

/-- Nest 1 in WINDOW with its deadline at zero, and a quarantine level. -/
def expiring (q : Nat) : State :=
  let s := holdingWith .window (fun q => { q with deadline := 0 })
  { s with yield := { s.yield with quarantineLevel := q } }

/-- Nest 1 in WINDOW with one lane and a provisional record, at its deadline. -/
def holdingAll : State :=
  let s := holdingWith .window (fun q => { q with deadline := 0 })
  { s with
      analyser := { s.analyser with lanes := some ⟨.n1, .accumulating, 1, .fundamental, 0, 0⟩ :: List.replicate 63 none }
      capture :=
        { s.capture with
            records := [⟨.provisional, .n1, 0, 96, 1, 5, 0⟩], occupied := 100
            mark := { s.capture.mark with n1 := some 0 } } }

/-- What an ending has to give back: a lane, a provisional record, a request. -/
theorem test_premises_givenBack :
    holdingAll.sound ∧ holdingAll.analyser.lanesOf .n1 = 1 ∧ (holdingAll.capture.provisional .n1).isSome = true ∧
    holdingAll.analyser.queue = [] ∧ (given holdingAll 0x22 [1]).sound ∧ (holding .waitLanes).sound ∧
    (holding .waitLanes).requests .n1 = 1 :=
  ⟨sound_of_check (by decide +kernel), by decide +kernel, by decide +kernel, rfl, sound_of_check (by decide +kernel),
    sound_of_check (by decide +kernel), by decide⟩

theorem test_endingsGiveBack :
    let back := fun (o : Host.Outcome State Fault Refusal) => after o (fun t =>
      decide (t.analyser.freeLanes = 64 ∧ t.capture.records = [⟨.void, .n1, 0, 96, 1, 5, 0⟩] ∧
        t.capture.mark.get .n1 = none))
    back (exec (.deadlineExpiry .n1) holdingAll) = true ∧ back (exec .silenceTimeout holdingAll) = true ∧
    back (exec .stopLineAssert holdingAll) = true ∧ back (exec .abort (given holdingAll 0x22 [1])) = true ∧
    after (exec .abort (given (holding .waitLanes) 0x22 [1])) (fun t => decide (t.analyser.queue = [])) = true := by
  decide +kernel

theorem test_premises_DeadlineExpires :
    (ready.nest .n1).state.running = false ∧ ((holding .window).nest .n1).deadline ≠ 0 ∧
    ((expiring 1).nest .n1).state.running = true ∧ ((expiring 1).nest .n1).deadlineRunning = true ∧
    ((expiring 1).nest .n1).deadline = 0 ∧ ((expiring 1).nest .n1).record = some 0 ∧
    0 < (expiring 1).records.length ∧ ((expiring 1).nest .n1).program = some 0 := by decide

theorem test_deadlineExpiry :
    after (exec (.deadlineExpiry .n1) (expiring 1)) (fun t =>
      decide ((t.record 0).unitClass = some .retestTimeout ∧ t.yield.admission.get .n1 = .quarantined ∧
        t.recipe.uses 0 = 0)) = true ∧
    after (exec (.deadlineExpiry .n1) (expiring 2)) (fun t =>
      decide (t.yield.admission.get .n1 = .enabled)) = true ∧
    after (exec (.deadlineExpiry .n1) (expiring 1)) (fun t =>
      decide (t.port.notices =
        [.verdict 0 (t.record 0) false 0, .quarantine .n1 0 0 .retestTimeout 1 1 0])) = true := by decide +kernel

theorem test_premises_StopAbortsRunningUnits :
    (holding .window).sound ∧ (holding .judged).sound ∧ (holding .window).stopLine = false ∧
    ({ holding .window with stopLine := true } : State).stopLine = true ∧ (given (holding .window) 0x23 []).sound ∧
    (given (holding .window) 0x23 []).takes 7 0x23 [] [] :=
  ⟨sound_of_check (by decide +kernel), sound_of_check (by decide +kernel), rfl, rfl, sound_of_check (by decide +kernel),
    given_takes _ _ rfl rfl (by decide)⟩

theorem test_stopAborts :
    replyIs (exec .stop (given (holding .window) 0x23 [])) none [1, 1] = true ∧
    replyIs (exec .stop (given (holding .judged) 0x23 [])) none [0] = true ∧
    after (exec .stopLineAssert (holding .window)) (fun t =>
      decide (t.stopLine = true ∧ (t.nest .n1).state = .idle ∧ t.yield.counts.aborted = 1)) = true := by decide +kernel

/-! ### Premises: cells, the arbiter, the marking line -/

/-- A STREAM cell of 48 equal samples for a nest. -/
def streamCell (n : Nest) : List Byte := cellBytes 2 (BitVec.ofNat 8 n.num) ((List.replicate 48 (3 : Sample)).flatMap sampleBytes)

/-- Commands waiting. -/
def queued (k : Nat) : State := { ready with port := { ready.port with commands := List.replicate k ⟨0, [0x23]⟩ } }

set_option maxRecDepth 100000 in
theorem test_badCells :
    [[1, 0, 241, 0, 0], [1, 0, 0, 0, 0, 0], [1, 0, 0, 0, 0], cellBytes 3 0 [], cellBytes 0x81 0 [],
      cellBytes 2 0 (List.replicate 144 0), cellBytes 2 5 (List.replicate 144 0), cellBytes 2 1 (List.replicate 143 0)].all
      (fun b => after (exec (.cellArrival b) ready) (fun t => decide (t.port.badCells = 1))) = true := by decide +kernel

set_option maxRecDepth 100000 in
theorem test_goodCells :
    after (exec (.cellArrival (cellBytes 1 7 [0x23])) (queued 7)) (fun t =>
      decide (t.port.commands.length = 8 ∧ t.port.overrunFlag = false)) = true ∧
    after (exec (.cellArrival (cellBytes 1 7 (List.replicate 240 0))) (queued 8)) (fun t =>
      decide (t.port.commands.length = 8 ∧ t.port.overrunFlag = true)) = true ∧
    after (exec (.cellArrival (streamCell .n1)) ready) (fun t => decide (t.port.streamDiscards = 1)) = true ∧
    after (exec (.cellArrival (streamCell .n1)) (reserved 2020)) (fun t =>
      decide ((t.port.streams.get .n1).length = 2048 ∧ t.port.streamOverruns.get .n1 = 20)) = true ∧
    after (exec (.cellArrival (streamCell .n1)) (reserved 1488)) (fun t =>
      decide ((t.port.pace.get .n1).pendingState = some .stop)) = true := by decide +kernel

/-- Something waiting at each source of the arbiter from a given one on: 0 is a PACE cell, 4 nothing. -/
def sending (first : Nat) (unit : CommandUnit) : State :=
  { ready with
      port :=
        { ready.port with
            unit := unit
            pace := if first = 0 then { ready.port.pace with n2 := ⟨.go, some .stop⟩, n4 := ⟨.go, some .stop⟩ }
              else ready.port.pace
            replies := if first ≤ 1 then [⟨7, 0x74, none, []⟩] else []
            notices := if first ≤ 2 then [.link .linkUp 1 0] else []
            tapQueue := if first ≤ 3 then [⟨1, 0, []⟩] else [] } }

theorem test_premises_ArbiterSendsOneCell :
    (((sending 0 .idle).port.pace.get .n2).pendingState = some .stop ∧
      ∀ m : Nest, m.num < Nest.n2.num → ((sending 0 .idle).port.pace.get m).pendingState = none) ∧
    (∀ n, ((sending 1 .idle).port.pace.get n).pendingState = none) ∧ (sending 1 .idle).port.unit ≠ .rebooting ∧
    (sending 1 .rebooting).port.replies = [⟨7, 0x74, none, []⟩] ∧ (sending 2 .idle).port.replies = [] ∧
    (sending 3 .idle).port.notices = [] ∧ (sending 4 .idle).port.tapQueue = [] := by
  refine ⟨⟨rfl, fun m h => ?_⟩, fun n => by cases n <;> rfl, by decide, rfl, rfl, rfl, rfl⟩
  cases m
  · rfl
  all_goals exact absurd h (by decide)

theorem test_arbiterOrder :
    after (exec .arbiterSlot (sending 0 .idle)) (fun t => decide (t.out.upstream = some (paceCell .n2 .stop))) = true ∧
    after (exec .arbiterSlot (sending 2 .idle)) (fun t => decide (t.port.notices = [] ∧ t.port.tapQueue.length = 1)) = true ∧
    after (exec .arbiterSlot (sending 4 .idle)) (fun t => decide (t.out.upstream = none)) = true ∧
    after (exec .arbiterSlot (sending 1 .rebooting)) (fun t => decide (t.port.part = .starting)) = true := by decide +kernel

theorem test_premises_SlotIsFilled :
    ready.marking.queue = [] ∧ (labelling .sending .waitLine (.sending .a 3) none).marking.slotA.state ≠ .free ∧
    (labelling .sending .waitLine (.sending .a 3) none).marking.slotB.state ≠ .free ∧
    (let s := labelling .free .free .idle (some .a);
     s.marking.queue = [0] ∧ 0 < s.records.length ∧ (s.marking.slot .b).state = .free ∧
       (s.marking.slot SlotId.b.other).state = .free) ∧
    (let s := labelling .free .sending (.sending .b 3) (some .b);
     (s.marking.slot .a).state = .free ∧ s.marking.transmitter ≠ .idle ∧ (s.marking.slot SlotId.a.other).state ≠ .free) := by
  decide

theorem test_slotFill :
    after (exec .slotFill (labelling .free .free .idle (some .a))) (fun t =>
      decide (t.marking.lastFilled = some .b ∧ t.marking.transmitter = .sending .b 0 ∧ t.marking.queue = [])) = true ∧
    after (exec .slotFill (labelling .free .sending (.sending .b 3) (some .b))) (fun t =>
      decide (t.marking.slotA.state = .waitLine ∧ t.marking.lastFilled = some .a)) = true := by decide +kernel

theorem test_premises_LabelMessageForm :
    let b : BinEntry := ⟨15, true, [0x58]⟩
    let u : UnitRecord := { UnitRecord.free with binCopy := some b, unitClass := some .retestLink, carrier := 0xFFFFFFFF }
    u.binCopy = some b ∧ 1 ≤ b.code.length ∧ b.code.length ≤ 8 ∧ b.bin ≤ 15 ∧
    (labelMessage .b u).map BitVec.toNat =
      [0x02, 0x42, 0x58, 0x20, 0x20, 0x20, 0x20, 0x20, 0x20, 0x20, 0x34, 0x32, 0x39, 0x34, 0x39, 0x36, 0x37, 0x32, 0x39, 0x35,
        0x31, 0x35, 0x52, 0x4C, 0x2d, 0x03] := by decide +kernel

theorem test_premises_TransmitterEvents :
    (labelling .sending .free (.sending .a 3) none).marking.transmitter ≠ .idle ∧
    (labelling .awaitAck .free .idle none).marking.slotB.state ≠ .waitLine ∧
    (let m := (labelling .waitLine .waitLine .idle (some .b)).marking;
     m.transmitter = .idle ∧ (m.slot .a).state = .waitLine ∧ m.lastFilled = some SlotId.a.other) ∧
    (labelling .sending .waitLine (.sending .a 25) none).marking.transmitter = .sending .a 25 ∧
    (labelling .sending .free (.sending .a 25) none).marking.slotB.state ≠ .waitLine ∧
    (labelling .free .free (.stopping 3) none).marking.transmitter = .stopping 3 ∧
    (let m := (labelling .waitLine .free (.stopping 3) none).marking;
     (m.slot .a).state = .waitLine ∧ (m.slot SlotId.a.other).state ≠ .waitLine) := by decide

theorem test_transmitterEvents :
    after (exec .messageStart (labelling .waitLine .waitLine .idle (some .b))) (fun t =>
      decide (t.marking.transmitter = .sending .a 0)) = true ∧
    after (exec .labelMessageSent (labelling .sending .waitLine (.sending .a 25) none)) (fun t =>
      decide (t.marking.slotA.state = .awaitAck ∧ t.marking.slotA.ackLeft = 76800 ∧
        t.marking.transmitter = .sending .b 0)) = true ∧
    after (exec .transmitterStopped (labelling .waitLine .free (.stopping 3) none)) (fun t =>
      decide (t.marking.transmitter = .sending .a 0)) = true := by decide +kernel

theorem test_premises_LabelAnswers :
    (answering 5 (.expectEnd true .a)).sound ∧ ((answering 5 (.expectEnd true .a)).marking.slot .a).state = .awaitAck ∧
    ((answering 5 (.expectEnd true .a)).marking.slot .a).record = some 1 ∧
    ((answering 5 (.expectEnd true .b)).marking.slot .b).state ≠ .awaitAck ∧
    (answering 5 .expectKind).marking.receiver = .expectKind ∧
    (answering 5 (.expectSlot true)).marking.receiver = .expectSlot true ∧
    evenParity 0x41 false = true ∧ evenParity 0x41 true = false ∧
    (answering 0 .expectKind).sound ∧ ((answering 0 .expectKind).marking.slot .a).ackLeft = 0 ∧
    ((answering 1 .expectKind).marking.slot .a).ackLeft ≠ 0 :=
  ⟨sound_of_check (by decide +kernel), rfl, rfl, by decide, rfl, rfl, by decide, by decide,
    sound_of_check (by decide +kernel), rfl, by decide⟩

theorem test_markingCharacters :
    after (exec (.markingCharacter 0x03 false true) (answering 5 (.expectEnd true .a))) (fun t =>
      decide ((t.record 1).state = .free ∧ t.yield.counts.applied = 1 ∧ t.marking.slotA = .free)) = true ∧
    after (exec (.markingCharacter 0x03 false true) (answering 5 (.expectEnd true .b))) (fun t =>
      decide (t.marking.strayAcks = 1)) = true ∧
    after (exec (.markingCharacter 0x41 true true) (answering 5 .expectKind)) (fun t =>
      decide (t.marking.charErrors = 1 ∧ t.marking.receiver = .expectKind)) = true ∧
    after (exec (.markingCharacter 0x41 false true) (answering 5 (.expectEnd true .a))) (fun t =>
      decide (t.marking.charErrors = 1 ∧ t.marking.receiver = .expectSlot true)) = true := by decide +kernel

theorem test_ackTimeout :
    after (exec (.ackTimeout .a) (answering 0 .expectKind)) (fun t => decide (t.yield.counts.noAck = 1)) = true ∧
    after (exec (.ackTimeout .a) (answering 1 .expectKind)) (fun t => decide (t.yield.counts.noAck = 0)) = true := by
  decide +kernel

/-! ### Premises: configuration memory, rows, directory and bins -/

theorem test_premises_ConfigWrite (ops : List Byte) :
    (given ready 0x76 ops).takes 7 0x76 ops [] ∧ writing.port.unit = .writing 7 131070 [1, 2] ∧
    Memory.wf erased writing.port.config = true ∧ ∀ tag addr data, ready.port.unit ≠ .writing tag addr data :=
  ⟨ready_takes _ _, rfl, by decide, fun _ _ _ => by intro h; cases h⟩

theorem test_configWriteAtTheEdges :
    after (exec .configWrite (given ready 0x76 (toBytes 4 131071 ++ [1, 9]))) (fun t =>
      decide (t.port.unit = .writing 7 131071 [9])) = true ∧
    replyIs (exec .configWrite (given ready 0x76 (toBytes 4 131071 ++ [2, 9, 9]))) (some .range) [] = true ∧
    replyIs (exec .configWrite (given ready 0x76 (toBytes 4 0 ++ [0]))) (some .range) [] = true ∧
    replyIs (exec .configWrite (given ready 0x76 (toBytes 4 0 ++ [65] ++ List.replicate 65 1))) (some .range) [] = true ∧
    replyIs (exec .configWrite (given ready 0x76 (toBytes 4 0 ++ [2, 9]))) (some .range) [] = true := by decide +kernel

theorem test_configWriteComplete :
    after (exec .configWriteComplete writing) (fun t =>
      decide (t.port.configBytes 131070 2 = [1, 2] ∧ t.port.unit = .idle ∧ t.port.replies.length = 1)) = true := by
  decide +kernel

/-- A part with program 0 ACTIVE at rows 0 to 3 and 100, with a use count. -/
def withProgram (d : DirEntry) (uses : Nat) : State :=
  { ready with recipe := { Recipe.reset with directory := d :: List.replicate 7 .empty
                                             useCount := uses :: List.replicate 7 0 } }

theorem test_premises_WriteRows (ops : List Byte) :
    (given (withProgram (.active prog) 0) 0x10 ops).takes 7 0x10 ops [] ∧
    Memory.wf 0 (withProgram (.active prog) 1).recipe.rows = true ∧ prog.meets 3 1 ∧ ¬ prog.meets 4 1 ∧
    0 < (withProgram (.active prog) 1).recipe.uses 0 := by
  refine ⟨given_takes _ _ rfl rfl (by decide), by decide, ⟨3, by decide, by decide, Or.inl ⟨by decide, by decide⟩⟩, ?_,
    by decide⟩
  rintro ⟨row, h1, h2, h3 | h3⟩ <;> simp only [prog] at h3 <;> omega

theorem test_writeRowsAtTheEdges :
    let ops := fun (first n : Nat) => toBytes 2 first ++ toBytes 2 n ++ List.replicate (16 * n) (1 : Byte)
    replyIs (exec .writeRows (given (withProgram (.active prog) 0) 0x10 (ops 3 1))) none [1, 0] = true ∧
    replyIs (exec .writeRows (given (withProgram (.active prog) 0) 0x10 (ops 4 14))) none [0] = true ∧
    replyIs (exec .writeRows (given (withProgram (.active prog) 1) 0x10 (ops 100 1))) (some .inUse) [0] = true ∧
    replyIs (exec .writeRows (given ready 0x10 (ops 4095 2))) (some .range) [] = true ∧
    replyIs (exec .writeRows (given ready 0x10 (ops 0 15))) (some .range) [] = true ∧
    replyIs (exec .writeRows (given ready 0x10 (ops 0 0))) (some .range) [] = true ∧
    replyIs (exec .writeRows (given ready 0x10 (ops 4095 1))) none [0] = true := by decide +kernel

theorem test_premises_WriteDirectory (ops : List Byte) :
    (given (withProgram (.inactive prog) 0) 0x12 ops).takes 7 0x12 ops [] ∧ ([7, 2] ++ prog.bytes ++ [0, 0]).length = 21 ∧
    (([3, 0] : List Byte).length = 2 ∧ fieldAt [3, 0] 1 1 = 0) ∧ 0 < (withProgram (.active prog) 1).recipe.uses 0 :=
  ⟨given_takes _ _ rfl rfl (by decide), by decide +kernel, by decide, by decide⟩

theorem test_writeDirectoryChecks :
    let write := fun (s : State) (e st : Byte) (f : ProgramFields) =>
      exec .writeDirectory (given s 0x12 ([e, st] ++ f.bytes ++ [0, 0]))
    replyIs (write ready 7 2 prog) none [] = true ∧ replyIs (write ready 8 1 prog) (some .range) [] = true ∧
    replyIs (write ready 0 3 prog) (some .range) [] = true ∧
    replyIs (write (withProgram (.active prog) 1) 0 1 prog) (some .inUse) [] = true ∧
    replyIs (exec .writeDirectory (given ready 0x12 [3, 0])) none [] = true ∧
    [({ prog with firstStep := 4096 }, 0), ({ prog with stepCount := 0 }, 1), ({ prog with stepCount := 257 }, 1),
      ({ prog with firstLimit := 4096 }, 2), ({ prog with limitCount := 257 }, 3), ({ prog with taktMs := 99 }, 4),
      ({ prog with taktMs := 60001 }, 4), ({ prog with retryBudget := 16 }, 5), ({ prog with captureLimit := 17 }, 8),
      ({ prog with gradeMargin := 3001 }, 9), ({ prog with rangeGapMs := 51 }, 10)].all (fun x =>
        replyIs (write ready 0 1 x.1) (some .range) (toBytes 1 x.2)) = true := by decide +kernel

/-- The program INACTIVE with its rows written from row 0 on. -/
def activable (rows : List Byte) (other : DirEntry) : State :=
  let s := withProgram (.inactive prog) 0
  { s with recipe := { s.recipe with rows := Memory.writeMany 0 0 rows [], directory := [.inactive prog, other] ++ List.replicate 6 .empty } }

theorem test_premises_Activate (ops : List Byte) :
    (given (activable goodRows .empty) 0x14 ops).takes 7 0x14 ops [] ∧
    (activable goodRows .empty).recipe.entry 0 = .inactive prog ∧ (activable goodRows .empty).recipe.entry 1 = .empty ∧
    (activable goodRows (.active prog)).recipe.entry 1 = .active prog :=
  ⟨given_takes _ _ rfl rfl (by decide), rfl, rfl, rfl⟩

/-- Another ACTIVE program, as ACTIVATE of entry 0 sees it. -/
def others (s : State) (p : Nat) (g : ProgramFields) : Prop := p < 8 ∧ p ≠ 0 ∧ s.recipe.entry p = .active g

/-- Each reason of ACTIVATE at a program or rows that it refuses. -/
theorem test_premises_Activate_refusals :
    (let s := activable goodRows .empty;
      s.recipe.refuses (others s) { prog with firstStep := 4094 } .range [0] ∧
      s.recipe.refuses (others s) { prog with firstLimit := 4095, limitCount := 2 } .range [1] ∧
      s.recipe.refuses (others s) { prog with firstStep := 4091 } .badRecord [0xFF, 0xFF, 0]) ∧
    (let s := activable (goodRows.set 32 0) .empty; s.recipe.refuses (others s) prog .badRecord [0, 1, 1]) ∧
    (let s := activable goodRows (.active prog); s.recipe.refuses (others s) prog .overlap [1]) := by
  refine ⟨⟨Or.inl ⟨rfl, rfl, by decide⟩, Or.inr (Or.inl ⟨rfl, rfl, by decide, by decide⟩),
    Or.inr (Or.inr (Or.inl ⟨rfl, rfl, by decide, Or.inr (by decide), by decide⟩))⟩, ?_, ?_⟩
  · exact Or.inr (Or.inr (Or.inr (Or.inl ⟨rfl, prog_isPlaced, 1, 1, by decide, by decide +kernel, by decide +kernel, rfl⟩)))
  · refine Or.inr (Or.inr (Or.inr (Or.inr ⟨rfl, prog_isPlaced, by decide +kernel, 1, prog, ⟨by decide, by decide, rfl⟩,
      prog_sharesItsRows, ?_, rfl⟩)))
    intro p g h1 h2
    exact absurd h2.2.1 (by omega)

theorem test_activateChecks :
    let act := fun (s : State) (e : Byte) => exec .activate (given s 0x14 [e])
    replyIs (act (activable goodRows .empty) 0) none [] = true ∧
    replyIs (act (activable (goodRows.set 0 3) .empty) 0) (some .badRecord) [0, 0, 1] = true ∧
    replyIs (act (activable (goodRows.set 41 0) .empty) 0) (some .badRecord) [0, 1, 19] = true ∧
    replyIs (act (activable goodRows (.active { prog with firstStep := 2 })) 0) (some .overlap) [1] = true ∧
    replyIs (act (activable goodRows (.inactive { prog with firstStep := 4094 })) 1) (some .range) [0] = true ∧
    replyIs (act (activable goodRows .empty) 1) (some .noProgram) [] = true ∧
    replyIs (act ready 8) (some .range) [] = true := by decide +kernel

theorem test_premises_Deactivate (ops : List Byte) :
    (given (withProgram (.active prog) 0) 0x15 ops).takes 7 0x15 ops [] ∧
    (withProgram (.active prog) 0).recipe.entry 0 = .active prog ∧ (withProgram (.active prog) 0).recipe.uses 0 = 0 ∧
    (withProgram (.inactive prog) 0).recipe.entry 0 = .inactive prog ∧ (withProgram (.active prog) 1).recipe.uses 0 = 1 ∧
    (withProgram (.active prog) 0).recipe.entry 7 = .empty :=
  ⟨given_takes _ _ rfl rfl (by decide), rfl, rfl, rfl, rfl, rfl⟩

theorem test_premises_WriteBins (ops : List Byte) :
    (given ready 0x16 ops).takes 7 0x16 ops [] ∧ ready.recipe.bins.length = 10 ∧
    ([9, 1] ++ [15, 1, 0x41, 0x42, 0, 0, 0, 0, 0, 0] : List Byte).length = 2 + 10 * 1 := ⟨ready_takes _ _, rfl, rfl⟩

theorem test_writeBinsAtTheEdges :
    let write := fun (ops : List Byte) => exec .writeBins (given ready 0x16 ops)
    after (write ([9, 1] ++ [15, 1, 0x21, 0x7E, 0, 0, 0, 0, 0, 0])) (fun t =>
      decide (t.recipe.bins[9]? = some ⟨15, true, [0x21, 0x7E]⟩)) = true ∧
    replyIs (write ([9, 1] ++ [16, 1, 0x41, 0, 0, 0, 0, 0, 0, 0])) (some .range) [9] = true ∧
    replyIs (write ([9, 1] ++ [15, 2, 0x41, 0, 0, 0, 0, 0, 0, 0])) (some .range) [9] = true ∧
    replyIs (write ([9, 1] ++ [15, 1, 0x20, 0, 0, 0, 0, 0, 0, 0])) (some .badRecord) [9, 22] = true ∧
    replyIs (write ([9, 1] ++ [15, 1, 0x41, 0, 0x42, 0, 0, 0, 0, 0])) (some .badRecord) [9, 22] = true ∧
    replyIs (write ([9, 1] ++ [15, 1] ++ List.replicate 8 0)) (some .badRecord) [9, 22] = true ∧
    replyIs (write ([8, 2] ++ List.replicate 20 16)) (some .range) [8] = true ∧
    replyIs (write ([9, 1] ++ List.replicate 11 0)) (some .range) [] = true ∧
    replyIs (write [0, 0]) (some .range) [] = true ∧
    replyIs (write ([9, 2] ++ List.replicate 20 0)) (some .range) [] = true := by decide +kernel

/-! ### Premises: nest commands -/

/-- The link up, program 0 ACTIVE with a use count, all nests IDLE. -/
def admitting (uses : Nat) : State :=
  { withProgram (.active prog) uses with link := { Link.reset with state := .linkUp, lastNumber := some 9 } }

/-- ARRIVE's operands: nest, carrier number, program. -/
def arriveOps (n p : Byte) : List Byte := [n, 0, 0, 0, 77, p]

theorem test_premises_Arrive :
    (given (admitting 0) 0x20 (arriveOps 4 0)).sound ∧
    (given (admitting 0) 0x20 (arriveOps 4 0)).takes 7 0x20 (arriveOps 4 0) [] ∧ (arriveOps 4 0).length = 6 ∧
    Nest.ofNum (fieldAt (arriveOps 4 0) 0 1) = some .n4 ∧ Nest.ofNum (fieldAt (arriveOps 0 0) 0 1) = none ∧
    Nest.ofNum (fieldAt (arriveOps 5 0) 0 1) = none ∧ 7 < fieldAt (arriveOps 1 8) 5 1 ∧
    (given (admitting 0) 0x20 (arriveOps 4 0)).recipe.entry 0 = .active prog ∧
    0 < (given (admitting 0) 0x20 (arriveOps 4 0)).recipe.useCount.length :=
  ⟨sound_of_check (by decide +kernel), given_takes _ _ rfl rfl (by decide), rfl, rfl, rfl, rfl, by decide, rfl, by decide⟩

theorem test_arriveChecksInOrder :
    let act := fun (s : State) (n p : Byte) => exec .arrive (given s 0x20 (arriveOps n p))
    let held (s : State) : State := { s with yield := { s.yield with line := .held, admission := .all .quarantined } }
    replyIs (act (admitting 0) 4 0) none [0] = true ∧ replyIs (act (admitting 0) 5 0) (some .range) [] = true ∧
    replyIs (act (admitting 0) 1 8) (some .range) [] = true ∧
    replyIs (act { ready with stopLine := true } 1 0) (some .stopped) [] = true ∧
    replyIs (act (held ready) 1 0) (some .linkDown) [] = true ∧
    replyIs (act (held (admitting 0)) 1 0) (some .held) [] = true ∧
    replyIs (act { admitting 0 with yield := { Yield.reset with admission := .all .quarantined } } 1 0) (some .quarantined)
      [] = true ∧
    replyIs (act (reserved 0) 1 0) (some .reserved) [] = true ∧ replyIs (act (holding .judged) 1 0) (some .busy) [] = true ∧
    replyIs (act (admitting 0) 4 7) (some .noProgram) [] = true := by decide +kernel

theorem test_arriveAdmits :
    after (exec .arrive (given (admitting 0) 0x20 (arriveOps 4 0))) (fun t =>
      decide ((t.nest .n4).state = .gap ∧ (t.nest .n4).deadline = 96000 ∧ t.recipe.uses 0 = 1 ∧
        (t.record 0).carrier = 77 ∧ (t.record 0).state = .running)) = true := by decide +kernel

/-- A queue of eight other records waiting for labels, both slots taken. -/
def fullQueue : State :=
  let s := given (holding .judged) 0x21 [1]
  let u : UnitRecord := { UnitRecord.free with state := .queued }
  { s with
      records := s.records.take 1 ++ List.replicate 8 u ++ List.replicate 2 { u with state := .labelling } ++
        List.replicate 3 .free
      marking :=
        { s.marking with
            queue := [1, 2, 3, 4, 5, 6, 7, 8], slotA := ⟨.sending, some 9, [], 0⟩, slotB := ⟨.waitLine, some 10, [], 0⟩
            transmitter := .sending .a 0 } }

theorem test_premises_Release :
    (given (holding .judged) 0x21 [1]).sound ∧ (given (holding .judged) 0x21 [1]).takes 7 0x21 [1] [] ∧
    Nest.ofNum (fieldAt [1] 0 1) = some .n1 ∧ Nest.ofNum (fieldAt [5] 0 1) = none ∧
    ((given (holding .window) 0x21 [1]).nest .n1).state.running = true ∧
    ((given (holding .judged) 0x21 [1]).record 0).binCopy = some ⟨0, true, [0x50, 0x41, 0x53, 0x53, 0x5F, 0x41]⟩ ∧
    fullQueue.sound ∧ fullQueue.marking.queue.length = 8 ∧ fullQueue.takes 7 0x21 [1] [] ∧
    (let m := (given (holding .judged) 0x21 [1]).marking
     m.queue = [] ∧ (m.slot .a).state = .free ∧ (m.slot SlotId.a.other).state = .free ∧ m.lastFilled = none) :=
  ⟨sound_of_check (by decide +kernel), given_takes _ _ rfl rfl (by decide), rfl, rfl, rfl, rfl,
    sound_of_check (by decide +kernel), rfl, ⟨rfl, rfl, by decide, rfl⟩, ⟨rfl, rfl, rfl, rfl⟩⟩

theorem test_releaseChecks :
    let act := fun (s : State) (n : Byte) => exec .release (given s 0x21 [n])
    replyIs (act ready 0) (some .range) [] = true ∧ replyIs (act ready 1) (some .empty) [] = true ∧
    replyIs (act (reserved 0) 1) (some .empty) [] = true ∧ replyIs (act (holding .gap) 1) (some .notJudged) [] = true ∧
    replyIs (exec .release fullQueue) (some .queueFull) [] = true ∧
    after (act (holding .judged) 1) (fun t =>
      decide ((t.record 0).state = .labelling ∧ t.marking.slotA.record = some 0 ∧ (t.nest .n1).state = .idle)) = true := by
  decide +kernel

theorem test_premises_Abort :
    (given (holding .evaluate) 0x22 [1]).sound ∧ (given (holding .evaluate) 0x22 [1]).takes 7 0x22 [1] [] ∧
    ((given (holding .evaluate) 0x22 [1]).nest .n1).state.running = true ∧
    ((given (holding .judged) 0x22 [1]).nest .n1).state = .judged ∧ (given (holding .judged) 0x22 [1]).sound ∧
    ((given ready 0x22 [1]).nest .n1).state = .idle ∧ Nest.ofNum (fieldAt [0] 0 1) = none :=
  ⟨sound_of_check (by decide +kernel), given_takes _ _ rfl rfl (by decide), rfl, rfl, sound_of_check (by decide +kernel),
    rfl, rfl⟩

theorem test_abort :
    after (exec .abort (given (holding .evaluate) 0x22 [1])) (fun t =>
      decide (t.yield.counts.aborted = 1 ∧ (t.record 0).state = .free ∧ t.recipe.uses 0 = 0)) = true ∧
    after (exec .abort (given (holding .judged) 0x22 [1])) (fun t =>
      decide (t.yield.counts.discarded = 1 ∧ (t.nest .n1).state = .idle ∧ t.port.notices = [])) = true ∧
    (let s := given (holding .judged) 0x22 [1]
     after (exec .abort { s with port := { s.port with enables := .ofByte 0xFF } }) (fun t =>
       decide (t.port.notices = [.discard 0 (s.record 0) false]))) = true := by decide +kernel

theorem test_premises_StreamReservation (ops : List Byte) :
    (given (reserved 3) 0x24 ops).takes 7 0x24 ops [] ∧ (given (reserved 3) 0x25 ops).takes 7 0x25 ops [] ∧
    ((reserved 3).nest .n1).state = .reserved ∧ ((reserved 3).nest .n2).state = .idle ∧
    ((holding .judged).nest .n1).state ≠ .reserved ∧ Nest.ofNum (fieldAt [4] 0 1) = some .n4 :=
  ⟨given_takes _ _ rfl rfl (by decide), given_takes _ _ rfl rfl (by decide), rfl, rfl, by decide, rfl⟩

theorem test_streamReservation :
    after (exec .reserveStream (given ready 0x24 [4])) (fun t => decide ((t.nest .n4).state = .reserved)) = true ∧
    replyIs (exec .reserveStream (given (holding .judged) 0x24 [1])) (some .busy) [] = true ∧
    replyIs (exec .reserveStream (given (reserved 3) 0x24 [1])) (some .reserved) [] = true ∧
    after (exec .releaseStream (given (reserved 3) 0x25 [1])) (fun t =>
      decide ((t.nest .n1).state = .idle ∧ t.port.streams.get .n1 = [])) = true ∧
    replyIs (exec .releaseStream (given ready 0x25 [1])) (some .notReserved) [] = true := by decide +kernel

/-! ### Premises: settings, yield, marking -/

theorem test_settingsAtTheEdges (ops : List Byte) (code : Byte) :
    (given ready code ops).takes 7 code ops [] ∧
    replyIs (exec .setCalibration (given ready 0x30 ([4] ++ toBytes 2 20000))) none [] = true ∧
    replyIs (exec .setCalibration (given ready 0x30 ([4] ++ toBytes 2 20001))) (some .range) [] = true ∧
    replyIs (exec .setCalibration (given ready 0x30 ([1] ++ signedBytes 2 (-20000)))) none [] = true ∧
    replyIs (exec .setCalibration (given ready 0x30 ([1] ++ signedBytes 2 (-20001)))) (some .range) [] = true ∧
    replyIs (exec .setCalibration (given ready 0x30 ([5] ++ toBytes 2 0))) (some .range) [] = true := by
  refine ⟨ready_takes _ _, ?_⟩
  decide +kernel

theorem test_setMarkingAtTheEdges :
    replyIs (exec .setMarking (given ready 0x48 (toBytes 2 50))) none [] = true ∧
    replyIs (exec .setMarking (given ready 0x48 (toBytes 2 5000))) none [] = true ∧
    replyIs (exec .setMarking (given ready 0x48 (toBytes 2 49))) (some .range) [] = true ∧
    replyIs (exec .setMarking (given ready 0x48 (toBytes 2 5001))) (some .range) [] = true := by decide +kernel

theorem test_premises_MarkingCommands (ops : List Byte) :
    (given ready 0x48 ops).takes 7 0x48 ops [] ∧ (given ready 0x49 []).takes 7 0x49 [] [] ∧
    ready.marking.transmitter = .idle ∧
    (let s := given (labelling .free .sending (.sending .b 25) none) 0x49 [];
     s.takes 7 0x49 [] [] ∧ s.marking.transmitter = .sending .b 25) ∧
    (given (labelling .free .free (.stopping 3) none) 0x49 []).marking.transmitter = .stopping 3 :=
  ⟨ready_takes _ _, ready_takes _ _, rfl, ⟨given_takes _ _ rfl rfl (by decide), rfl⟩, rfl⟩

/-- The line HELD with three entries in its window, and nest 1 QUARANTINED. -/
def heldLine : State :=
  { ready with yield := { Yield.reset with line := .held, window := [true, false, true], passCount := 2
                                           admission := { PerNest.all Admission.enabled with n1 := .quarantined } } }

theorem test_premises_YieldCommands (ops : List Byte) (code : Byte) :
    (given ready code ops).takes 7 code ops [] ∧ (given heldLine code ops).takes 7 code ops [] ∧
    ready.yield.line = .running ∧ heldLine.yield.line = .held ∧ heldLine.yield.admission.get .n1 = .quarantined ∧
    heldLine.yield.admission.get .n2 = .enabled ∧ ready.yield.passCount = ready.yield.window.countP (fun b => b) :=
  ⟨ready_takes _ _, given_takes _ _ rfl rfl (by decide), rfl, rfl, rfl, rfl, rfl⟩

theorem test_yieldCommands :
    replyIs (exec .resumeLine (given ready 0x52 [])) (some .notHeld) [] = true ∧
    after (exec .resumeLine (given heldLine 0x52 [])) (fun t =>
      decide (t.yield.line = .running ∧ t.port.notices = [.clear 3 2 0])) = true ∧
    replyIs (exec .enableNest (given heldLine 0x53 [1])) none [] = true ∧
    replyIs (exec .enableNest (given heldLine 0x53 [2])) (some .notQuarantined) [] = true ∧
    replyIs (exec .enableNest (given heldLine 0x53 [0])) (some .range) [] = true := by decide +kernel

theorem test_setYieldAtTheEdges :
    let act := fun (s : State) (w l q : Nat) => exec .setYield (given s 0x54 (toBytes 2 w ++ toBytes 2 l ++ toBytes 1 q))
    replyIs (act ready 16 16 254) none [] = true ∧ replyIs (act ready 1024 0 0) none [] = true ∧
    replyIs (act ready 16 16 255) (some .range) [2] = true ∧ replyIs (act heldLine 16 16 255) (some .range) [2] = true ∧
    replyIs (act ready 15 0 0) (some .range) [0] = true ∧ replyIs (act ready 1025 0 0) (some .range) [0] = true ∧
    replyIs (act ready 16 17 0) (some .range) [1] = true ∧ replyIs (act heldLine 16 16 0) (some .held) [] = true ∧
    after (act { ready with yield := { Yield.reset with window := List.replicate 1 true ++ List.replicate 16 false
                                                        passCount := 1 } } 16 0 0)
      (fun t => decide (t.yield.window = List.replicate 16 false ∧ t.yield.passCount = 0)) = true := by decide +kernel

theorem test_premises_SetCalibrationAndClearCounts :
    let ops := toBytes 2 16 ++ toBytes 2 16 ++ [255]
    (given ready 0x54 ops).takes 7 0x54 ops [] ∧ ops.length = 5 ∧
    fieldAt ops 4 1 = 255 ∧ fieldAt ops 0 2 = 16 ∧ fieldAt ops 2 2 = 16 :=
  ⟨ready_takes _ _, rfl, by decide, by decide, by decide⟩

theorem test_clearCounts :
    after (exec .clearCounts (given { heldLine with marking := { Marking.reset with strayAcks := 4 } } 0x51 [])) (fun t =>
      decide (t.marking.strayAcks = 0 ∧ t.yield.passCount = 2)) = true := by decide +kernel

/-! ### Premises: the capture ring -/

/-- A ring with a VOID record of 64 words and behind it one of 64 words in a state, read up to a cursor. -/
def ringed (q : CaptureState) (cursor : Nat) : State :=
  { ready with
      capture :=
        { Capture.reset with
            records := [⟨.void, .n1, 0, 64, 1, 64, 0⟩, ⟨q, .n2, 68, 64, 9, 64, cursor⟩], occupied := 136, nextStart := 136
            words := [(72, 5)] } }

theorem test_premises_CaptureReadOut :
    (given (ringed .committed 0) 0x61 [1, 0]).takes 7 0x61 [1, 0] [] ∧
    (given (ringed .committed 0) 0x60 []).takes 7 0x60 [] [] ∧ (given (ringed .committed 0) 0x62 []).takes 7 0x62 [] [] ∧
    (ringed .committed 0).capture.records =
      [⟨.void, .n1, 0, 64, 1, 64, 0⟩] ++ ⟨.committed, .n2, 68, 64, 9, 64, 0⟩ :: [] ∧
    (ringed .provisional 0).capture.records =
      [⟨.void, .n1, 0, 64, 1, 64, 0⟩] ++ ⟨.provisional, .n2, 68, 64, 9, 64, 0⟩ :: [] ∧
    (∀ r ∈ (ringed .void 0).capture.records, r.state = .void) ∧ 8 + min 56 (64 - 8) = 64 ∧ 7 + min 56 (64 - 7) ≠ 64 :=
  ⟨given_takes _ _ rfl rfl (by decide), given_takes _ _ rfl rfl (by decide), given_takes _ _ rfl rfl (by decide), rfl, rfl,
    by decide, by decide, by decide⟩

theorem test_captureReadAtTheEdges :
    let act := fun (s : State) (k mode : Byte) => exec .captureRead (given s 0x61 [k, mode])
    replyIs (act ready 0 0) (some .range) [] = true ∧ replyIs (act ready 57 0) (some .range) [] = true ∧
    replyIs (act ready 1 2) (some .range) [] = true ∧ replyIs (act (ringed .void 0) 1 0) (some .empty) [] = true ∧
    replyIs (act (ringed .provisional 0) 1 0) (some .pending) [] = true ∧
    replyIs (act (ringed .committed 0) 1 1) none [0, 0, 0, 9, 0, 0, 0, 0, 1, 0, 0, 0, 5, 0] = true ∧
    after (act (ringed .committed 8) 56 0) (fun t => decide (t.capture.records = [] ∧ t.capture.occupied = 0)) = true ∧
    after (act (ringed .committed 7) 56 0) (fun t =>
      decide (t.capture.records.map CaptureRecord.cursor = [63] ∧ t.capture.occupied = 68)) = true := by decide +kernel

theorem test_captureHeadAndDrop :
    after (exec .captureHead (given (ringed .committed 3) 0x60 [])) (fun t =>
      decide (t.capture.records.length = 1 ∧ t.capture.occupied = 68)) = true ∧
    after (exec .captureDrop (given (ringed .committed 3) 0x62 [])) (fun t =>
      decide (t.capture.records = [] ∧ t.capture.occupied = 0)) = true := by decide +kernel

/-- Nest 1 about to ask for a record, with a policy and a ring almost full. -/
def asking (policy : CapturePolicy) (occupied : Nat) : State :=
  let s := holdingWith .window (fun q => { q with settings := { q.settings with policy := policy } })
  { s with
      capture :=
        { s.capture with
            records := [⟨.committed, .n2, 0, occupied - 4, 1, 0, 0⟩], occupied := occupied, nextStart := occupied } }

theorem test_premises_CaptureReservation :
    ((asking .all 1048476).nest .n1).record = some 0 ∧ ((asking .all 1048476).nest .n1).step = some measureStep ∧
    (asking .all 1048476).capture.ok ∧ (asking .all 1048477).capture.ok ∧ 96 + 4 ≤ 1048576 - 1048476 ∧
    1048576 - 1048477 < 96 + 4 ∧ ((asking .off 8).nest .n1).settings.policy = .off ∧ 0 < (asking .all 8).records.length ∧
    Memory.wf 0 (asking .all 8).capture.words = true :=
  ⟨rfl, rfl, ⟨rfl, by decide⟩, ⟨rfl, by decide⟩, by decide, by decide, rfl, by decide, by decide⟩

theorem test_captureReservation :
    ((asking .all 1048476).reserveCapture .n1).capture.records.length = 2 ∧
    ((asking .all 1048476).reserveCapture .n1).capture.nextStart = 0 ∧
    (((asking .all 1048477).reserveCapture .n1).record 0).capturesSkipped = 1 := by decide +kernel

/-! ### Premises: the port's commands, reading, levels -/

theorem test_premises_PortCommands (ops : List Byte) (code : Byte) :
    (given ready code ops).takes 7 code ops [] ∧ fieldAt [1, 0xFF] 0 2 = 511 ∧ fieldAt [2, 0] 0 2 = 512 ∧
    ready.port.enables.verdict = true ∧ ready.port.enables.step = false ∧ ready.port.notices.length < 32 ∧
    32 ≤ (List.replicate 32 (Notice.link .linkUp 0 0)).length := by
  exact ⟨ready_takes _ _, by decide, by decide, rfl, rfl, by decide, by decide⟩

/-- The notice queue at its last place, full, and with the notice's enable off. -/
theorem test_noticeQueue :
    let s := fun (k : Nat) =>
      ({ ready with port := { ready.port with notices := List.replicate k (.link .linkUp 0 0) } } : State)
    ((s 31).notice (.link .linkDown 0 0)).port.notices.length = 32 ∧
    ((s 32).notice (.link .linkDown 0 0)).port.notices.length = 32 ∧
    ((s 32).notice (.link .linkDown 0 0)).port.noticeDrops = 1 ∧
    (s 31).notice (.step (unsettledResult .n1 0 0 0 measureStep)) = s 31 := by decide +kernel

theorem test_portCommands :
    replyIs (exec .setTap (given ready 0x72 [2, 0])) (some .range) [] = true ∧
    replyIs (exec .setTap (given ready 0x72 [1, 0xFF])) none [] = true ∧
    after (exec .setNotices (given ready 0x71 [0xFF])) (fun t => decide (t.port.enables.code = 255)) = true ∧
    after (exec .status (given { ready with port := { ready.port with overrunFlag := true } } 0x70 [])) (fun t =>
      decide (t.port.overrunFlag = false ∧ t.port.replies.map (fun r => r.data.getLast?) = [some 1])) = true := by
  decide +kernel

theorem test_premises_RestartAndReboot :
    (given (holding .window) 0x73 []).sound ∧ (given (holding .window) 0x73 []).takes 7 0x73 [] [] ∧
    (given (labelling .free .sending (.sending .b 3) none) 0x74 []).takes 7 0x74 [] [] ∧
    ((given (reserved 3) 0x73 []).nest .n1).state = .reserved ∧ (given (reserved 3) 0x73 []).sound ∧
    ((given (holding .window) 0x73 []).nest .n2).state ≠ .reserved ∧ (given (holding .window) 0x73 []).usesOk ∧
    (let s : State :=
       { given ready 0x73 [] with marking := { Marking.reset with transmitter := .sending .a 25 } }
     s.sound ∧ s.takes 7 0x73 [] []) :=
  ⟨sound_of_check (by decide +kernel), given_takes _ _ rfl rfl (by decide), given_takes _ _ rfl rfl (by decide), rfl,
    sound_of_check (by decide +kernel), by decide, uses_of_check (by decide +kernel), sound_of_check (by decide +kernel),
    ⟨rfl, rfl, by decide, rfl⟩⟩

/-- A running unit, a judged one, one being labelled and one queued. -/
def restarting : State :=
  let s := labelling .awaitAck .waitLine (.sending .b 3) (some .b)
  let u := { UnitRecord.free with state := .running, nest := some .n1 }
  let two := (s.modNest .n1 (fun _ => { sequencer .window with record := some 3 })).modNest .n2
    (fun _ => { sequencer .judged with record := some 4 })
  { given two 0x73 [] with records := (s.records.set 3 u).set 4 { u with state := .judged, nest := some .n2 } }

theorem test_premises_RestartAndReboot_endings :
    restarting.sound ∧ restarting.takes 7 0x73 [] [] ∧ (restarting.nest .n1).state.running = true ∧
    (restarting.nest .n2).state = .judged ∧ restarting.labelIds = [1, 2, 0] ∧
    (restarting.restartNotices (fun _ => 0)).length = 5 :=
  ⟨sound_of_check (by decide +kernel), given_takes _ _ rfl rfl (by decide), rfl, rfl, by decide, by decide⟩

theorem test_restartEndings :
    after (exec .restart { restarting with port := { restarting.port with enables := .ofByte 0xFF } }) (fun t =>
      decide (t.port.notices = restarting.restartNotices (fun _ => 0) ∧ t.yield.counts.aborted = 1 ∧
        t.yield.counts.discarded = 4)) = true := by decide +kernel

theorem test_restart :
    after (exec .restart (given (holding .judged) 0x73 [])) (fun t =>
      decide ((t.nest .n1).state = .idle ∧ t.yield.counts.discarded = 1 ∧ t.port.part = .ready)) = true ∧
    after (exec .restart (given (labelling .free .sending (.sending .b 3) none) 0x73 [])) (fun t =>
      decide (t.marking.transmitter ≠ .idle ∧ t.marking.queue = [] ∧ t.freeCount = 1)) = true ∧
    after (exec .reboot (given ready 0x74 [])) (fun t => decide (t.port.unit = .rebooting)) = true := by decide +kernel

theorem test_premises_reading (code : Byte) (ops : List Byte) :
    (given ready code ops).takes 7 code ops [] ∧ ([0, 0, 0, 1] : List Byte).length = 4 ∧
    ready.recipe.entry 7 = .empty ∧ (withProgram (.active prog) 1).recipe.entry 0 = .active prog ∧
    (ready.record 13).state = .free ∧ ((holding .window).record 0).state ≠ .free :=
  ⟨ready_takes _ _, rfl, rfl, rfl, rfl, by decide⟩

theorem test_readingAtTheEdges :
    replyIs (exec .readRows (given ready 0x11 (toBytes 2 4095 ++ toBytes 2 1))) none ([1] ++ List.replicate 16 0) = true ∧
    replyIs (exec .readRows (given ready 0x11 (toBytes 2 4095 ++ toBytes 2 2))) (some .range) [] = true ∧
    replyIs (exec .readRows (given ready 0x11 (toBytes 2 0 ++ toBytes 2 15))) (some .range) [] = true ∧
    replyIs (exec .readDirectory (given ready 0x13 [8])) (some .range) [] = true ∧
    replyIs (exec .readDirectory (given (withProgram (.active prog) 1) 0x13 [0])) none ([2] ++ prog.bytes ++ [1, 0]) = true ∧
    replyIs (exec .readUnit (given ready 0x40 [14])) (some .range) [] = true ∧
    replyIs (exec .readUnit (given ready 0x40 [13])) (some .empty) [] = true ∧
    replyIs (exec .configRead (given ready 0x75 (toBytes 4 131071 ++ [1]))) none [1, 0xFF] = true ∧
    replyIs (exec .configRead (given ready 0x75 (toBytes 4 131071 ++ [2]))) (some .range) [] = true := by decide +kernel

theorem test_readCommands :
    replyIs (exec .readCalibration (given ready 0x31 [])) none (List.replicate 8 0) = true ∧
    replyIs (exec .readLanes (given (holding .waitLanes) 0x32 [])) none
      ([64, 1, 1, 1] ++ [0, 0xFF, 0, 0xFF, 0, 0xFF, 0, 0xFF]) = true ∧
    replyIs (exec .readYield (given heldLine 0x55 [])) none
      ([0, 200, 0, 0, 0, 1, 0, 3, 0, 2, 0xA0] ++ [0, 0, 1, 0, 0, 0, 0, 0, 0, 0, 0, 0]) = true ∧
    replyIs (exec .readCapture (given (ringed .committed 0) 0x63 [])) none
      (toBytes 4 136 ++ toBytes 4 1048440 ++ [0, 0, 0, 1, 0, 1, 2, 0, 0, 0, 0]) = true ∧
    replyIs (exec .readCounts (given ready 0x50 [])) none (List.replicate 132 0) = true := by decide +kernel

/-- The spec's own tables: amplitudes (R71), increments (R69), entries of the sine table (R70), levels at the ends of their
ranges. -/
theorem test_tablesOfTheSpec :
    [0, -600, -2000, -6000, -12000].map amplitudeOf = [8388607, 4204263, 838861, 8389, 8] ∧
    [2000, 20000, 100000, 400000, 1200000, 4000000].map (fun f => (incrementOf f).toNat) =
      [894785, 8947849, 44739243, 178956971, 536870912, 1789569707] ∧
    [0, 4096, 8192, 12288].map sineEntry = [0, 32767, 0, -32767] ∧
    blockLevel (240 * 8388607 ^ 2) = 0 ∧ blockLevel 1 = -14000 ∧ levelOf 1 2 (-14000) 0 = -301 := by decide +kernel

theorem test_premises_LevelsAmplitudesIncrements :
    (0 < 1 ∧ 0 < 2 ∧ (-14000 : Int) ≤ 0 ∧ (0 : Int) - -14000 < 65536) ∧ (-12000 : Int) ≤ -12000 ∧ (-12000 : Int) ≤ 0 ∧
    2000 ≤ 2000 ∧ 4000000 ≤ 4000000 ∧ 16383 < 16384 := by decide

theorem test_premises_CodesReadBack :
    255 < 256 ^ 1 ∧ -(256 ^ 2 : Int) ≤ 2 * -32768 ∧ 2 * (32767 : Int) < 256 ^ 2 ∧ ([] : List Byte).length ≤ 240 ∧
    (List.replicate 240 (0 : Byte)).length ≤ 240 ∧ (List.replicate 48 (3 : Sample)).length = 48 ∧ prog.firstStep ≤ 4095 ∧
    1 ≤ prog.stepCount ∧ prog.stepCount ≤ 256 ∧ prog.limitCount ≤ 256 ∧ 100 ≤ prog.taktMs ∧ prog.taktMs ≤ 60000 ∧
    prog.retryBudget ≤ 15 ∧ prog.captureLimit ≤ 16 ∧ prog.gradeMargin ≤ 3000 ∧ prog.rangeGapMs ≤ 50 := by decide +kernel

theorem test_codesReadBack :
    Cell.ofBytes (cellBytes 1 7 [0x23]) = some (.command ⟨7, [0x23]⟩) ∧
    ProgramFields.ofBytes ([2] ++ prog.bytes ++ [0, 0]) = .ok prog ∧ (Enables.ofByte 0x75).code = 0x75 := by decide +kernel

/-! ### Premises: invariants -/

/-- A state with every invariant, and a step from it. -/
theorem test_premises_StepsKeepInvariants :
    step { ready with pending := [.slotFill] } = .next ready ∧ ready.yield.ok ∧ ready.analyser.pool ∧ ready.memoriesOk ∧
    ready.port.bounded ∧ ready.tablesOk ∧ ready.capture.ok ∧ ready.retriesOk := by
  refine ⟨rfl, ⟨by decide, rfl⟩, rfl, ⟨rfl, rfl, rfl⟩, ?_, ⟨rfl, rfl, rfl, rfl⟩, ⟨rfl, by decide⟩, fun n => by cases n <;> decide⟩
  refine ⟨by decide, by decide, Or.inl (by decide), by decide, by decide, by decide, by decide, fun n => by cases n <;> decide⟩

theorem test_premises_SoundStatesStepOn :
    (holding .window).sound ∧ (holding .window).tablesOk ∧ (holding .window).usesOk ∧ ready.sound :=
  ⟨sound_of_check (by decide +kernel), ⟨rfl, rfl, rfl, rfl⟩, uses_of_check (by decide +kernel),
    sound_of_check (by decide +kernel)⟩

end Sys2Proof.Tests
end

section
/-! The reset state: its values (O4) and its invariants (O60). -/

namespace Sys2Proof.Machine

@[simp] theorem State.reset_nest (n : Nest) : State.reset.nest n = .reset := PerNest.get_all _ n

@[simp] theorem State.reset_tone (n : Nest) : State.reset.tone n = .reset := PerNest.get_all _ n

/-- Every record is FREE after POWER-ON, and an id outside the table reads as FREE. -/
@[simp] theorem State.reset_record (id : Nat) : State.reset.record id = .free := by
  simp only [State.record, State.reset, List.getD_eq_getElem?_getD, List.getElem?_replicate]
  split <;> rfl

@[simp] theorem Recipe.reset_entry (e : Nat) : Recipe.reset.entry e = .empty := by
  simp only [Recipe.entry, Recipe.reset, List.getD_eq_getElem?_getD, List.getElem?_replicate]
  split <;> rfl

@[simp] theorem Recipe.reset_uses (e : Nat) : Recipe.reset.uses e = 0 := by
  simp only [Recipe.uses, Recipe.reset, List.getD_eq_getElem?_getD, List.getElem?_replicate]
  split <;> rfl

/-- A memory with nothing listed reads its default everywhere. -/
theorem Memory.readMany_nil {α : Type} [DecidableEq α] (d : α) (a n : Nat) :
    Memory.readMany d [] a n = List.replicate n d := by
  induction n generalizing a with
  | zero => rfl
  | succ n ih => simp [Memory.readMany, Memory.read, ih, List.replicate_succ]

theorem reset_poolOk : State.reset.poolOk :=
  ⟨fun n => by rw [State.reset_nest]; rfl,
    fun n h => absurd (List.countP_eq_zero.2 (fun l hl => by rw [List.eq_of_mem_replicate hl]; simp [laneOf])) h,
    fun _ hr => absurd hr List.not_mem_nil⟩

theorem reset_unitsOk : State.reset.unitsOk :=
  ⟨rfl, List.nodup_nil, fun id => by
      rw [State.reset_record]
      exact ⟨fun h => absurd h List.not_mem_nil, fun h => absurd rfl h⟩,
    fun n => by rw [State.reset_nest]; rfl, fun i _ => by cases i <;> rfl, Nat.zero_le _⟩

theorem reset_sound : State.reset.sound := ⟨reset_poolOk, reset_unitsOk⟩

theorem reset_usesOk : State.reset.usesOk := fun p => by
  show Recipe.reset.uses p = _
  rw [Recipe.reset_uses]
  simp [State.playing, Sequencer.reset, NestState.running]

theorem reset_bounded : State.reset.port.bounded :=
  ⟨Nat.zero_le _, Nat.zero_le _, Or.inl (by decide), Nat.zero_le _, Nat.zero_le _, rfl,
    fun t ht => by rw [List.eq_of_mem_replicate ht]; decide,
    fun n => by
      show ((PerNest.all ([] : List Sample)).get n).length ≤ 2048
      rw [PerNest.get_all]; decide⟩

end Sys2Proof.Machine

open Sys2Proof Sys2Proof.Machine

/-- Settles O4, block by block from the reset state's definition. -/
theorem resetValues : Obligations.ResetValues := by
  refine ⟨rfl, rfl, rfl, rfl, rfl, rfl, rfl, rfl, fun n => ⟨PerNest.get_all _ n, PerNest.get_all _ n⟩, rfl, rfl, rfl, rfl,
    fun row _ => Memory.readMany_nil 0 _ _, fun e _ => ⟨Recipe.reset_entry e, Recipe.reset_uses e⟩, rfl, rfl, fun n => ?_,
    fun n => ?_, rfl, rfl, fun n => PerNest.get_all _ n, rfl, rfl, rfl, rfl, rfl, rfl, rfl, rfl,
    fun id _ => State.reset_record id, rfl, rfl, rfl, rfl, rfl, rfl, rfl, rfl, rfl, rfl, rfl,
    fun n => ⟨PerNest.get_all _ n, PerNest.get_all _ n⟩, rfl, rfl⟩
  · rw [State.reset_nest]; exact ⟨rfl, rfl, rfl⟩
  · rw [State.reset_tone]; exact ⟨rfl, rfl, rfl, rfl⟩

/-- Settles O60, each invariant read off the reset state. -/
theorem resetHasInvariants : Obligations.ResetHasInvariants :=
  ⟨⟨Nat.zero_le _, rfl⟩, rfl, fun n => by rw [State.reset_nest]; exact Nat.le_refl _, ⟨rfl, rfl, rfl⟩, reset_bounded,
    ⟨rfl, rfl, rfl, rfl⟩, ⟨rfl, Nat.zero_le _⟩, reset_sound, reset_usesOk⟩

end

section
/-! Commands of recipe memory taken from the queue: DEACTIVATE (O40) and the reads (O53, O55). -/

namespace Sys2Proof.Machine

/-! ### A command taken, and its reply -/

@[simp] theorem State.taken_recipe (s : State) (rest : List CommandCell) : (s.taken rest).recipe = s.recipe := rfl

theorem operands_length {ops : List Byte} {n : Nat} (h : ops.length = n) : operands n ops = true := decide_eq_true h

/-- A command whose rule answers DONE from the state with its cell gone. -/
theorem takeCommand_done {s t : State} {tag code : Byte} {ops : List Byte} {rest : List CommandCell}
    (h : s.takes tag code ops rest) {fits : List Byte → Bool} (hf : fits ops = true)
    {act : List Byte → State → State × Answer} {data : List Byte} (ha : act ops (s.taken rest) = (t, .done data)) :
    takeCommand code fits act s = t.done tag code data := by
  rw [takeCommand_takes h hf, ha]; rfl

/-- A command whose rule refuses it. -/
theorem takeCommand_refused {s : State} {tag code : Byte} {ops : List Byte} {rest : List CommandCell}
    (h : s.takes tag code ops rest) {fits : List Byte → Bool} (hf : fits ops = true)
    {act : List Byte → State → State × Answer} {reason : Reason} {data : List Byte}
    (ha : act ops (s.taken rest) = refuse reason data (s.taken rest)) :
    takeCommand code fits act s = (s.taken rest).refusal tag code reason data := by
  rw [takeCommand_takes h hf, ha]; rfl

/-! ### DEACTIVATE -/

/-- Settles O40, by R18's checks in their order. -/
theorem deactivate : Obligations.Deactivate := by
  intro s tag ops rest h hl
  have hf := operands_length hl
  refine ⟨fun he => ?_, fun he hd => ?_, fun he hd hu => ?_, fun f he hd hu => ?_, fun f he hd hu => ?_⟩
  · refine congrArg _ (takeCommand_refused h hf ?_)
    simp only [actDeactivate, if_pos he]
  · refine congrArg _ (takeCommand_refused h hf ?_)
    simp only [actDeactivate, if_neg (Nat.not_lt.2 he), State.taken_recipe, hd]
  · refine congrArg _ (takeCommand_refused h hf ?_)
    refine (if_neg (Nat.not_lt.2 he)).trans ?_
    rw [State.taken_recipe]
    cases hx : s.recipe.entry (fieldAt ops 0 1)
    case empty => exact absurd hx hd
    case inactive => exact if_pos hu
    case active => exact if_pos hu
  · refine congrArg _ (takeCommand_done h hf ?_)
    simp only [actDeactivate, if_neg (Nat.not_lt.2 he), State.taken_recipe, hd, hu, Nat.lt_irrefl, if_false, answerOnly]
  · refine congrArg _ (takeCommand_done h hf ?_)
    simp only [actDeactivate, if_neg (Nat.not_lt.2 he), State.taken_recipe, hd, hu, Nat.lt_irrefl, if_false]

/-! ### Reads -/

/-- Settles O53: each read answers its fields from the state with its cell gone. -/
theorem readingChangesNothing : Obligations.ReadingChangesNothing := by
  intro s tag rest
  have none : operands 0 [] = true := rfl
  refine ⟨fun h => ?_, fun h => ?_, fun h => ?_, fun h => ?_⟩
  · exact congrArg _ (takeCommand_done h none rfl)
  · exact congrArg _ (takeCommand_done h none rfl)
  · exact congrArg _ (takeCommand_done h none rfl)
  · exact congrArg _ (takeCommand_done h none rfl)

/-- Several reads, as a list of single ones. -/
theorem Memory.readMany_eq_map {α : Type} [DecidableEq α] (d : α) (m : List (Nat × α)) (a n : Nat) :
    Memory.readMany d m a n = (List.range n).map (fun i => Memory.read d m (a + i)) := by
  apply List.ext_getElem?
  intro i
  rw [Memory.readMany_getElem?]
  by_cases hi : i < n <;> simp [hi]

/-- READ ROWS (R9). -/
theorem exec_readRows {s : State} {tag : Byte} {ops : List Byte} {rest : List CommandCell}
    (h : s.takes tag 0x11 ops rest) (hl : ops.length = 4) :
    exec .readRows s =
      .next (if 1 ≤ fieldAt ops 2 2 ∧ fieldAt ops 2 2 ≤ 14 ∧ fieldAt ops 0 2 + fieldAt ops 2 2 ≤ 4096 then
          (s.taken rest).done tag 0x11
            (toBytes 1 (fieldAt ops 2 2) ++
              (List.range (16 * fieldAt ops 2 2)).map (fun i => Memory.read 0 s.recipe.rows (16 * fieldAt ops 0 2 + i)))
        else (s.taken rest).refusal tag 0x11 .range []) := by
  refine congrArg Host.Outcome.next ?_
  split
  · rename_i hin
    refine takeCommand_done h (operands_length hl) ?_
    rw [← Memory.readMany_eq_map]
    exact if_neg (by simp only [Config.rowCount]; omega)
  · rename_i hout
    exact takeCommand_refused h (operands_length hl) (if_pos (by simp only [Config.rowCount]; omega))

/-- CONFIG READ (R211). -/
theorem exec_configRead {s : State} {tag : Byte} {ops : List Byte} {rest : List CommandCell}
    (h : s.takes tag 0x75 ops rest) (hl : ops.length = 5) :
    exec .configRead s =
      .next (if 1 ≤ fieldAt ops 4 1 ∧ fieldAt ops 4 1 ≤ 64 ∧ fieldAt ops 0 4 + fieldAt ops 4 1 ≤ 131072 then
          (s.taken rest).done tag 0x75
            (toBytes 1 (fieldAt ops 4 1) ++
              (List.range (fieldAt ops 4 1)).map (fun i => Memory.read erased s.port.config (fieldAt ops 0 4 + i)))
        else (s.taken rest).refusal tag 0x75 .range []) := by
  refine congrArg Host.Outcome.next ?_
  split
  · rename_i hin
    refine takeCommand_done h (operands_length hl) ?_
    rw [← Memory.readMany_eq_map]
    refine if_neg ?_
    simp [configOutside, hin]
  · rename_i hout
    refine takeCommand_refused h (operands_length hl) (if_pos ?_)
    simp only [configOutside, Config.configSize, Bool.not_eq_true', Bool.and_eq_false_iff, decide_eq_false_iff_not]
    omega

/-- Settles O55, by the bounds of each read. -/
theorem readsWithOperands : Obligations.ReadsWithOperands := by
  intro s tag ops rest
  refine ⟨exec_readRows, fun h hl => ⟨fun hk => ?_, fun hk he => ?_, fun f hk hf => ?_⟩,
    fun h hl => ⟨fun hk => ?_, fun hk hu => ?_, fun hk hu => ?_⟩, exec_configRead⟩
  · exact congrArg _ (takeCommand_refused h (operands_length hl) (if_pos hk))
  · refine congrArg _ (takeCommand_done h (operands_length hl) ?_)
    simp only [actReadDirectory, if_neg (Nat.not_lt.2 hk), State.taken_recipe, he]
    rfl
  · refine congrArg _ (takeCommand_done h (operands_length hl) ?_)
    simp only [actReadDirectory, if_neg (Nat.not_lt.2 hk), State.taken_recipe]
    rcases hf with hf | hf
    · rw [hf, if_neg (by simp)]; rfl
    · rw [hf, if_pos rfl]; rfl
  · exact congrArg _ (takeCommand_refused h (operands_length hl) (if_pos hk))
  · exact congrArg _ (takeCommand_refused h (operands_length hl) ((if_neg (Nat.not_lt.2 hk)).trans (if_pos hu)))
  · exact congrArg _ (takeCommand_done h (operands_length hl) ((if_neg (Nat.not_lt.2 hk)).trans (if_neg hu)))

end Sys2Proof.Machine
end

section
/-! WRITE DIRECTORY (O38). -/

namespace Sys2Proof.Machine

/-! ### The fields of a directory entry -/

/-- A field behind the first byte. -/
theorem fieldAt_drop_one (bs : List Byte) (off len : Nat) : fieldAt (bs.drop 1) off len = fieldAt bs (off + 1) len := by
  simp only [fieldAt, bytesAt, List.drop_drop, Nat.add_comm]

theorem yesNo_of_le {v : Nat} (h : v ≤ 1) : yesNo v = some (decide (v = 1)) := by
  interval_cases v <;> rfl

theorem yesNo_of_gt {v : Nat} (h : 1 < v) : yesNo v = none := by
  obtain ⟨k, rfl⟩ : ∃ k, v = k + 2 := ⟨v - 2, by omega⟩
  rfl

theorem CapturePolicy.ofCode_of_gt {v : Nat} (h : 2 < v) : CapturePolicy.ofCode v = none := by
  obtain ⟨k, rfl⟩ : ∃ k, v = k + 3 := ⟨v - 3, by omega⟩
  rfl

/-- A code of R5's policy field is the code of its policy. -/
theorem CapturePolicy.ofCode_of_le {v : Nat} (h : v ≤ 2) : ∃ p, CapturePolicy.ofCode v = some p ∧ p.code = v := by
  interval_cases v
  · exact ⟨.off, rfl, rfl⟩
  · exact ⟨.failed, rfl, rfl⟩
  · exact ⟨.all, rfl, rfl⟩

/-- Which fields of R5 are out of their ranges, in the table's order. -/
def ProgramFields.faults (bs : List Byte) : List Bool :=
  [ decide (4095 < fieldAt bs 1 2), decide (fieldAt bs 3 2 < 1 ∨ 256 < fieldAt bs 3 2), decide (4095 < fieldAt bs 5 2),
    decide (256 < fieldAt bs 7 2), decide (fieldAt bs 9 2 < 100 ∨ 60000 < fieldAt bs 9 2), decide (15 < fieldAt bs 11 1),
    decide (1 < fieldAt bs 12 1), decide (2 < fieldAt bs 13 1), decide (16 < fieldAt bs 14 1),
    decide (3000 < fieldAt bs 15 2), decide (50 < fieldAt bs 17 1) ]


/-- The first of several checks that finds a fault refuses, by its place from `k` on. -/
def firstRefusal {α : Type} (x : α) : (k : Nat) → List Bool → Except Nat α
  | _, [] => .ok x
  | k, b :: bs => if b then .error k else firstRefusal x (k + 1) bs

theorem firstRefusal_eq_error {α : Type} (x : α) {k i : Nat} {bs : List Bool} (h : bs.findIdx? (fun b => b) = some i) :
    firstRefusal x k bs = .error (k + i) := by
  induction bs generalizing k i with
  | nil => simp at h
  | cons b bs ih =>
    rw [List.findIdx?_cons] at h
    cases b
    · obtain ⟨j, hj, rfl⟩ := Option.map_eq_some_iff.1 (h : _ = some i)
      exact (ih hj).trans (by rw [Nat.add_right_comm, Nat.add_assoc])
    · cases h; rfl

theorem firstRefusal_eq_ok {α : Type} (x : α) {k : Nat} {bs : List Bool} (h : bs.findIdx? (fun b => b) = none) :
    firstRefusal x k bs = .ok x := by
  induction bs generalizing k with
  | nil => rfl
  | cons b bs ih =>
    rw [List.findIdx?_cons] at h
    cases b
    · exact ih (Option.map_eq_none_iff.1 (h : _ = none))
    · cases h

/-- The fields of R5 as the bytes hold them. -/
def ProgramFields.carried (bs : List Byte) : ProgramFields :=
  { firstStep := fieldAt bs 1 2, stepCount := fieldAt bs 3 2, firstLimit := fieldAt bs 5 2, limitCount := fieldAt bs 7 2
    taktMs := fieldAt bs 9 2, retryBudget := fieldAt bs 11 1, stopOnFail := decide (fieldAt bs 12 1 = 1)
    policy := (CapturePolicy.ofCode (fieldAt bs 13 1)).getD .off, captureLimit := fieldAt bs 14 1
    gradeMargin := fieldAt bs 15 2, rangeGapMs := fieldAt bs 17 1 }

/-- R10's check of the fields, as the list of R5's ranges. -/
theorem ProgramFields.ofBytes_eq (bs : List Byte) : ofBytes bs = firstRefusal (carried bs) 0 (faults bs) := by
  simp only [ofBytes, faults, firstRefusal, decide_eq_true_eq, Nat.not_le, not_and_or, Nat.lt_one_iff, Nat.zero_add,
    Nat.reduceAdd]
  congr 1; congr 1; congr 1; congr 1; congr 1; congr 1
  by_cases hs : 1 < fieldAt bs 12 1
  · rw [yesNo_of_gt hs, if_pos hs]
  rw [yesNo_of_le (Nat.not_lt.1 hs), if_neg hs]
  by_cases hp : 2 < fieldAt bs 13 1
  · simp only [CapturePolicy.ofCode_of_gt hp, if_pos hp]
  obtain ⟨p, hp', -⟩ := CapturePolicy.ofCode_of_le (Nat.not_lt.1 hp)
  simp only [hp', if_neg hp, carried, Option.getD_some]

/-! ### WRITE DIRECTORY -/

theorem directoryOperands_iff (ops : List Byte) :
    directoryOperands ops = true ↔ ops.length = 21 ∨ (ops.length = 2 ∧ fieldAt ops 1 1 = 0) := by
  simp [directoryOperands]

/-- The faults that the command's operands show are those of the entry they carry. -/
theorem ProgramFields.faults_drop_one (ops : List Byte) :
    faults (ops.drop 1) =
      [ decide (4095 < fieldAt ops 2 2), decide (fieldAt ops 4 2 < 1 ∨ 256 < fieldAt ops 4 2),
        decide (4095 < fieldAt ops 6 2), decide (256 < fieldAt ops 8 2),
        decide (fieldAt ops 10 2 < 100 ∨ 60000 < fieldAt ops 10 2), decide (15 < fieldAt ops 12 1),
        decide (1 < fieldAt ops 13 1), decide (2 < fieldAt ops 14 1), decide (16 < fieldAt ops 15 1),
        decide (3000 < fieldAt ops 16 2), decide (50 < fieldAt ops 18 1) ] := by
  simp only [faults, fieldAt_drop_one, Nat.reduceAdd]

/-- A policy byte without fault is the code of the policy carried. -/
theorem ProgramFields.carried_policy {bs : List Byte} (h : fieldAt bs 13 1 ≤ 2) :
    (carried bs).policy.code = fieldAt bs 13 1 := by
  obtain ⟨p, hp, hc⟩ := CapturePolicy.ofCode_of_le h
  simp only [carried, hp, Option.getD_some, hc]

/-- An entry that passes R10's first two checks is made EMPTY, -/
theorem actWriteDirectory_empty {ops : List Byte} {s : State} (he : fieldAt ops 0 1 ≤ 7)
    (hu : s.recipe.uses (fieldAt ops 0 1) = 0) (h0 : fieldAt ops 1 1 = 0) :
    actWriteDirectory ops s = (s.setEntry (fieldAt ops 0 1) .empty, .done []) :=
  (if_neg (by omega)).trans ((if_neg (by omega)).trans (if_pos h0))

/-- refused for its first field out of range, -/
theorem actWriteDirectory_error {ops : List Byte} {s : State} {i : Nat} (he : fieldAt ops 0 1 ≤ 7)
    (hu : s.recipe.uses (fieldAt ops 0 1) = 0) (hs : fieldAt ops 1 1 = 1 ∨ fieldAt ops 1 1 = 2)
    (hi : ProgramFields.ofBytes (ops.drop 1) = .error i) :
    actWriteDirectory ops s = refuse .range (toBytes 1 i) s := by
  refine (if_neg (by omega)).trans ((if_neg (by omega)).trans ((if_neg (by omega)).trans ?_))
  rw [hi]

/-- or made INACTIVE with the fields carried. -/
theorem actWriteDirectory_ok {ops : List Byte} {s : State} {f : ProgramFields} (he : fieldAt ops 0 1 ≤ 7)
    (hu : s.recipe.uses (fieldAt ops 0 1) = 0) (hs : fieldAt ops 1 1 = 1 ∨ fieldAt ops 1 1 = 2)
    (hi : ProgramFields.ofBytes (ops.drop 1) = .ok f) :
    actWriteDirectory ops s = (s.setEntry (fieldAt ops 0 1) (.inactive f), .done []) := by
  refine (if_neg (by omega)).trans ((if_neg (by omega)).trans ((if_neg (by omega)).trans ?_))
  rw [hi]

/-- Settles O38, by R10's checks in their order. -/
theorem writeDirectory : Obligations.WriteDirectory := by
  intro s tag ops rest h fits e st bad
  have hb : (ProgramFields.faults (ops.drop 1)).findIdx? (fun b => b) = bad := by
    rw [ProgramFields.faults_drop_one]
  have hf : fits → directoryOperands ops = true := (directoryOperands_iff ops).2
  refine ⟨fun hn => ?_, fun hr => ?_, fun hl he hs hu => ?_, fun hl he hu hs => ?_, fun i hl he hu hs hi => ?_,
    fun hl he hu hs hi => ?_⟩
  · exact congrArg _ (takeCommand_wrongLength h (Bool.eq_false_iff.2 fun hd => hn ((directoryOperands_iff ops).1 hd)) _)
  · by_cases hl : fits
    · exact congrArg _ (takeCommand_refused h (hf hl) (if_pos hr))
    · exact congrArg _ (takeCommand_wrongLength h (Bool.eq_false_iff.2 fun hd => hl ((directoryOperands_iff ops).1 hd)) _)
  · exact congrArg _ (takeCommand_refused h (hf hl) ((if_neg (by omega)).trans (if_pos hu)))
  · exact congrArg _ (takeCommand_done h (hf hl) (actWriteDirectory_empty he hu hs))
  · refine congrArg _ (takeCommand_refused h (hf hl) (actWriteDirectory_error he hu hs ?_))
    rw [ProgramFields.ofBytes_eq, firstRefusal_eq_error _ (hb.trans hi), Nat.zero_add]
  · refine ⟨ProgramFields.carried (ops.drop 1), congrArg _ (takeCommand_done h (hf hl) (actWriteDirectory_ok he hu hs ?_)), ?_⟩
    · rw [ProgramFields.ofBytes_eq, firstRefusal_eq_ok _ (hb.trans hi)]
    · have hp := List.findIdx?_eq_none_iff.1 (hi : bad = none) (decide (2 < fieldAt ops 14 1)) (by simp)
      have hc := ProgramFields.carried_policy (bs := ops.drop 1) (by rw [fieldAt_drop_one]; simpa using hp)
      simp only [ProgramFields.carried, fieldAt_drop_one, decide_eq_true_eq] at hc ⊢
      exact ⟨trivial, trivial, trivial, trivial, trivial, trivial, trivial, hc, trivial, trivial, trivial⟩

end Sys2Proof.Machine
end

section
/-! WRITE ROWS (O37). -/

namespace Sys2Proof.Machine

/-! ### Rows and regions -/

theorem rangesMeet_iff (a n b m : Nat) :
    rangesMeet a n b m = true ↔ ∃ row, (a ≤ row ∧ row < a + n) ∧ b ≤ row ∧ row < b + m := by
  simp only [rangesMeet, decide_eq_true_eq]
  constructor
  · exact fun h => ⟨max a b, by omega⟩
  · rintro ⟨row, h1, h2⟩; omega

/-- Rows touch a program exactly where one of them lies in its regions. -/
theorem ProgramFields.touches_iff (f : ProgramFields) (first n : Nat) : f.touches first n = true ↔ f.meets first n := by
  simp only [touches, Bool.or_eq_true, rangesMeet_iff, meets, hasRow, ← exists_or]
  exact exists_congr fun row => by tauto

/-- A program in use holds one of the rows from `first` on (R7). -/
def Recipe.inUseAt (r : Recipe) (first n p : Nat) : Prop :=
  p < 8 ∧ 0 < r.uses p ∧ ∃ f, (r.entry p).fields = some f ∧ f.meets first n

theorem Recipe.usedAt_test (r : Recipe) (first n p : Nat) :
    (decide (0 < r.uses p) && (r.entry p).fields.any (fun f => f.touches first n)) = true ↔
      0 < r.uses p ∧ ∃ f, (r.entry p).fields = some f ∧ f.meets first n := by
  simp only [Bool.and_eq_true, decide_eq_true_eq, Option.any_eq_true, ProgramFields.touches_iff]

theorem Recipe.usedAt_eq_some {r : Recipe} {first n p : Nat} (h : r.inUseAt first n p)
    (hm : ∀ m, m < p → ¬ r.inUseAt first n m) : r.usedAt first n = some p := by
  refine List.find?_range_eq_some.2 ⟨(r.usedAt_test first n p).2 h.2, List.mem_range.2 h.1, fun m hlt => ?_⟩
  rw [Bool.not_eq_true', Bool.eq_false_iff, ne_eq, Recipe.usedAt_test]
  exact fun hu => hm m hlt ⟨Nat.lt_trans hlt h.1, hu⟩

theorem Recipe.usedAt_eq_none {r : Recipe} {first n : Nat} (h : ∀ p, ¬ r.inUseAt first n p) :
    r.usedAt first n = none := by
  refine List.find?_range_eq_none.2 fun p hp => ?_
  rw [Bool.not_eq_true', Bool.eq_false_iff, ne_eq, Recipe.usedAt_test]
  exact fun hu => h p ⟨hp, hu⟩

/-- The programs that WRITE ROWS deactivates (R8). -/
theorem Recipe.mem_activeAt (r : Recipe) (first n p : Nat) :
    p ∈ r.activeAt first n ↔ p < 8 ∧ ∃ f, r.entry p = .active f ∧ f.meets first n := by
  rw [activeAt, List.mem_filter, entryNumbers, List.mem_range]
  refine and_congr_right fun _ => ?_
  cases r.entry p with
  | empty => simp
  | inactive f => simp
  | active f => simp [ProgramFields.touches_iff]

theorem Recipe.activeAt_sorted (r : Recipe) (first n : Nat) : (r.activeAt first n).Pairwise (· < ·) :=
  List.pairwise_lt_range.filter _

/-- A directory entry once the rows from `first` on are written. -/
def DirEntry.afterRows (first n : Nat) (d : DirEntry) : DirEntry :=
  if d.fields.any (fun f => f.touches first n) then d.deactivated else d

/-- What WRITE ROWS leaves in one entry. -/
theorem Recipe.writeRows_entry (r : Recipe) (first n : Nat) (data : List Byte) {p : Nat} (hp : p < 8) :
    (r.writeRows first n data).entry p =
      match r.entry p with
      | .active f => if p ∈ r.activeAt first n then .inactive f else .active f
      | e => e := by
  have he : (r.writeRows first n data).entry p = (r.entry p).afterRows first n :=
    List.getD_map r.directory .empty (DirEntry.afterRows first n)
  rw [he]
  cases hd : r.entry p with
  | empty => rfl
  | inactive f => exact ite_self _
  | active f =>
    have hm : p ∈ r.activeAt first n ↔ f.touches first n = true := by
      rw [Recipe.mem_activeAt, hd, ProgramFields.touches_iff]; simp [hp]
    by_cases ht : f.touches first n = true
    · exact (if_pos ht).trans (if_pos (hm.2 ht)).symm
    · exact (if_neg ht).trans (if_neg fun hp => ht (hm.1 hp)).symm

/-- Settles O37: R7's checks in their order, and R8's effect read off the row memory and the directory. -/
theorem writeRows : Obligations.WriteRows := by
  intro s tag ops rest h hwf first n data inRange usedBy
  have hx : ∀ {reason : Reason} {bytes : List Byte}, rowOperands ops = true →
      actWriteRows ops (s.taken rest) = refuse reason bytes (s.taken rest) →
      exec .writeRows s = .next ((s.taken rest).refusal tag 0x10 reason bytes) := fun hf ha =>
    congrArg _ (takeCommand_refused h hf ha)
  have outside : inRange → ¬ (¬ (1 ≤ n ∧ n ≤ 14) ∨ Config.rowCount < first + n ∨ data.length ≠ 16 * n) := by
    rintro ⟨h1, h2, h3, h4⟩; simp only [Config.rowCount]; omega
  have hf : inRange → rowOperands ops = true := by
    rintro ⟨h1, -, -, h4⟩
    have hd : data.length = ops.length - 4 := List.length_drop
    exact decide_eq_true (by omega)
  refine ⟨fun hn => ?_, fun p hin hp hm => ?_, fun hin hnone => ?_⟩
  · cases hr : rowOperands ops
    · exact congrArg _ (takeCommand_wrongLength h hr _)
    · refine hx hr (if_pos ?_)
      by_contra hc
      simp only [Config.rowCount, ne_eq, not_or, not_not] at hc
      exact hn ⟨hc.1.1, hc.1.2, Nat.not_lt.1 hc.2.1, hc.2.2⟩
  · refine hx (hf hin) ((if_neg (outside hin)).trans ?_)
    rw [State.taken_recipe, Recipe.usedAt_eq_some hp hm]
  · have hlen : data.length = 16 * n := hin.2.2.2
    refine ⟨s.recipe.writeRows first n data, s.recipe.activeAt first n, ?_, rfl, rfl, ?_, fun a ha => ?_,
      s.recipe.activeAt_sorted first n, s.recipe.mem_activeAt first n, fun p hp => s.recipe.writeRows_entry first n data hp⟩
    · refine congrArg _ (takeCommand_done h (hf hin) ((if_neg (outside hin)).trans ?_))
      rw [State.taken_recipe, Recipe.usedAt_eq_none hnone]
      rfl
    · rw [← hlen]
      exact Memory.readMany_writeMany data _ hwf
    · exact (Memory.read_writeMany data _ a hwf).trans (dif_neg (by omega))

end Sys2Proof.Machine
end

section
/-! WRITE BINS (O41). -/

namespace Sys2Proof.Machine

/-! ### Label codes -/

/-- Zeros behind a code that ends otherwise are dropped. -/
theorem labelCodeOf_append_zeros {code : List Byte} (k : Nat) (h : ∀ b ∈ code, b ≠ 0) :
    labelCodeOf (code ++ List.replicate k 0) = code := by
  have hz : (code ++ List.replicate k 0).reverse = List.replicate k 0 ++ code.reverse := by simp
  rw [labelCodeOf, hz, List.dropWhile_append_of_pos (by simp [List.mem_replicate]), List.reverse_eq_iff]
  cases hc : code.reverse with
  | nil => rfl
  | cons b bs =>
    have hb : b ≠ 0 := h b (List.mem_reverse.1 (hc ▸ List.mem_cons_self))
    exact List.dropWhile_cons_of_neg (by simpa using hb)

/-- A label code field is its code and zeros behind it. -/
theorem labelCodeOf_spec (bs : List Byte) :
    bs = labelCodeOf bs ++ List.replicate (bs.length - (labelCodeOf bs).length) 0 := by
  have hsplit : labelCodeOf bs ++ bs.rtakeWhile (fun b => decide (b = 0)) = bs := List.rdropWhile_append_rtakeWhile ..
  have hz : bs.rtakeWhile (fun b => decide (b = 0)) =
      List.replicate (bs.rtakeWhile (fun b => decide (b = 0))).length 0 :=
    List.eq_replicate_iff.2 ⟨rfl, fun b hb => by simpa using List.mem_rtakeWhile_imp hb⟩
  have hl := congrArg List.length hsplit
  rw [List.length_append] at hl
  conv => lhs; rw [← hsplit, hz]
  congr 2
  omega

/-- The code bytes of a whole bin entry. -/
theorem bytesAt_two_eight {entry : List Byte} (h : entry.length = 10) : bytesAt entry 2 8 = entry.drop 2 :=
  List.take_of_length_le (by rw [List.length_drop]; omega)

theorem labelCodeOf_binCode {entry code : List Byte} (hl : entry.length = 10) (h : binCodeIs entry code) :
    labelCodeOf (bytesAt entry 2 8) = code := by
  obtain ⟨he, -, -, hp⟩ := h
  rw [bytesAt_two_eight hl, he]
  refine labelCodeOf_append_zeros _ fun b hb hz => ?_
  have := (hp b hb).1
  rw [hz] at this
  exact absurd this (by decide)

/-- R20's check 3 passes exactly the entries that hold a label code. -/
theorem binCodeBad_eq_false_iff {entry : List Byte} (hl : entry.length = 10) :
    binCodeBad entry = false ↔ ∃ code, binCodeIs entry code := by
  have hprint : ∀ c : List Byte, c.all printable = true ↔ ∀ b ∈ c, 0x21 ≤ b.toNat ∧ b.toNat ≤ 0x7E := by
    simp [printable]
  constructor
  · intro h
    rw [binCodeBad, Bool.or_eq_false_iff, Bool.not_eq_false', hprint] at h
    obtain ⟨hne, hp⟩ := h
    have hspec := labelCodeOf_spec (bytesAt entry 2 8)
    rw [bytesAt_two_eight hl] at hspec hne hp
    have hlen : (entry.drop 2).length = 8 := by rw [List.length_drop]; omega
    have hle := congrArg List.length hspec
    rw [List.length_append, List.length_replicate, hlen] at hle
    rw [hlen] at hspec
    have hpos : 1 ≤ (labelCodeOf (entry.drop 2)).length :=
      List.length_pos_of_ne_nil fun hz => by rw [hz] at hne; cases hne
    exact ⟨_, hspec, hpos, by omega, hp⟩
  · rintro ⟨code, hc⟩
    have he := labelCodeOf_binCode hl hc
    obtain ⟨-, h1, -, hp⟩ := hc
    rw [binCodeBad, he, Bool.or_eq_false_iff, Bool.not_eq_false', hprint]
    exact ⟨by cases code <;> simp_all, hp⟩

theorem binFieldsBad_eq_false_iff (entry : List Byte) :
    binFieldsBad entry = false ↔ fieldAt entry 0 1 ≤ 15 ∧ fieldAt entry 1 1 ≤ 1 := by
  rw [binFieldsBad, Bool.or_eq_false_iff, decide_eq_false_iff_not, Nat.not_lt]
  refine and_congr_right fun _ => ?_
  rcases Nat.lt_or_ge 1 (fieldAt entry 1 1) with h | h
  · rw [yesNo_of_gt h]; simp [h]
  · rw [yesNo_of_le h]; simp [h]

/-! ### Entries carried and entries written -/

/-- The first of the entries carried at which a check fails. -/
theorem binFieldsAt_findIdx?_eq_some {ops : List Byte} {off n i : Nat} {bad : List Byte → Bool} (hi : i < n)
    (hb : bad (bytesAt ops (off + 10 * i) 10) = true) (hj : ∀ j, j < i → bad (bytesAt ops (off + 10 * j) 10) = false) :
    (binFieldsAt ops off n).findIdx? bad = some i := by
  refine List.findIdx?_eq_some_iff_getElem.2 ⟨by simpa [binFieldsAt] using hi, by simpa [binFieldsAt] using hb, ?_⟩
  intro j hlt
  simpa [binFieldsAt] using hj j hlt

theorem binFieldsAt_findIdx?_eq_none {ops : List Byte} {off n : Nat} {bad : List Byte → Bool}
    (h : ∀ j, j < n → bad (bytesAt ops (off + 10 * j) 10) = false) : (binFieldsAt ops off n).findIdx? bad = none := by
  refine List.findIdx?_eq_none_iff.2 fun e he => ?_
  obtain ⟨j, hj, rfl⟩ := List.mem_map.1 he
  exact h j (List.mem_range.1 hj)

theorem writeBinsAt_length (c : Nat) (es table : List BinEntry) : (writeBinsAt c es table).length = table.length := by
  induction es generalizing c table with
  | nil => rfl
  | cons e es ih => exact (ih _ _).trans List.length_set

/-- An entry outside those written is as before, -/
theorem writeBinsAt_getElem?_outside {c k : Nat} (es table : List BinEntry) (h : k < c ∨ c + es.length ≤ k) :
    (writeBinsAt c es table)[k]? = table[k]? := by
  induction es generalizing c table with
  | nil => rfl
  | cons e es ih =>
    rw [List.length_cons] at h
    exact (ih _ (by omega)).trans (List.getElem?_set_ne (by omega))

/-- and one of those written is the one carried. -/
theorem writeBinsAt_getElem?_inside {c j : Nat} (es table : List BinEntry) (hj : j < es.length)
    (ht : c + es.length ≤ table.length) : (writeBinsAt c es table)[c + j]? = es[j]? := by
  induction es generalizing c j table with
  | nil => cases hj
  | cons e es ih =>
    rw [List.length_cons] at hj ht
    cases j with
    | zero =>
      rw [writeBinsAt, writeBinsAt_getElem?_outside _ _ (by omega), List.getElem?_cons_zero, Nat.add_zero,
        List.getElem?_set_self (by omega)]
    | succ j =>
      rw [writeBinsAt, List.getElem?_cons_succ, ← ih (c := c + 1) (table.set c e) (by omega) (by rw [List.length_set]; omega),
        Nat.add_assoc, Nat.add_comm 1 j]

/-! ### WRITE BINS -/

theorem binOperands_iff (ops : List Byte) :
    binOperands ops = true ↔ 2 ≤ ops.length ∧ (10 < fieldAt ops 1 1 ∨ ops.length = 2 + 10 * fieldAt ops 1 1) := by
  simp [binOperands]

/-- Every entry counted is carried whole. -/
theorem bytesAt_entry_length {ops : List Byte} {n i : Nat} (h : ops.length = 2 + 10 * n) (hi : i < n) :
    (bytesAt ops (2 + 10 * i) 10).length = 10 := by
  rw [bytesAt, List.length_take, List.length_drop]; omega

/-- Settles O41, by R20's three checks in their order and the entries written. -/
theorem writeBins : Obligations.WriteBins := by
  intro s tag ops rest h hbins first n entry bin label inRange fieldsOk codeIs
  have hlen : inRange → ∀ i, i < n → (entry i).length = 10 := fun hin i hi => bytesAt_entry_length hin.2.2.2.2 hi
  have hf : inRange → binOperands ops = true := fun ⟨_, _, _, _, hl⟩ =>
    (binOperands_iff ops).2 ⟨by omega, Or.inr hl⟩
  have inside : inRange → ¬ (9 < first ∨ ¬ (1 ≤ n ∧ n ≤ 10) ∨ 10 < first + n) := fun ⟨_, _, _, _, _⟩ => by omega
  have fields : (∀ j, j < n → fieldsOk j) → (binFieldsAt ops 2 n).findIdx? binFieldsBad = none := fun hok =>
    binFieldsAt_findIdx?_eq_none fun j hj => (binFieldsBad_eq_false_iff (entry j)).2 (hok j hj)
  refine ⟨fun hn => ?_, fun i hin hi hbad hj => ?_, fun i hin hok hi hbad hj => ?_, fun codes hin hok hcode => ?_⟩
  · cases hr : binOperands ops
    · exact congrArg _ (takeCommand_wrongLength h hr _)
    · refine congrArg _ (takeCommand_refused h hr (if_pos ?_))
      have hr' := (binOperands_iff ops).1 hr
      by_contra hc
      exact hn ⟨by omega, by omega, by omega, by omega, by omega⟩
  · refine congrArg _ (takeCommand_refused h (hf hin) ((if_neg (inside hin)).trans ?_))
    have hi' : binFieldsBad (entry i) = true := by
      rw [← Bool.not_eq_false]; exact fun hb => hbad ((binFieldsBad_eq_false_iff (entry i)).1 hb)
    rw [binFieldsAt_findIdx?_eq_some hi hi' fun j hlt => (binFieldsBad_eq_false_iff (entry j)).2 (hj j hlt)]
  · refine congrArg _ (takeCommand_refused h (hf hin) ((if_neg (inside hin)).trans ?_))
    have hi' : binCodeBad (entry i) = true := by
      rw [← Bool.not_eq_false]
      exact fun hb => ((binCodeBad_eq_false_iff (hlen hin i hi)).1 hb).elim hbad
    rw [fields hok, binFieldsAt_findIdx?_eq_some hi hi' fun j hlt =>
      (binCodeBad_eq_false_iff (hlen hin j (Nat.lt_trans hlt hi))).2 (hj j hlt)]
    rfl
  · have hcodes : (binFieldsAt ops 2 n).findIdx? binCodeBad = none :=
      binFieldsAt_findIdx?_eq_none fun j hj => (binCodeBad_eq_false_iff (hlen hin j hj)).2 ⟨_, hcode j hj⟩
    have hes : ((binFieldsAt ops 2 n).map BinEntry.ofBytes).length = n := by simp [binFieldsAt]
    obtain ⟨-, -, -, hroom, -⟩ := id hin
    refine ⟨writeBinsAt first ((binFieldsAt ops 2 n).map BinEntry.ofBytes) s.recipe.bins,
      congrArg _ (takeCommand_done h (hf hin) ((if_neg (inside hin)).trans ?_)),
      (writeBinsAt_length _ _ _).trans hbins, fun j hj => ?_, fun c hc => ?_⟩
    · rw [fields hok, hcodes]; rfl
    · rw [writeBinsAt_getElem?_inside _ _ (by omega) (by omega)]
      have he : ((binFieldsAt ops 2 n).map BinEntry.ofBytes)[j]? = some (BinEntry.ofBytes (entry j)) := by
        simp [binFieldsAt, hj, entry, bytesAt]
      rw [he, BinEntry.ofBytes, labelCodeOf_binCode (hlen hin j hj) (hcode j hj)]
    · exact writeBinsAt_getElem?_outside _ _ (by omega)

end Sys2Proof.Machine
end

section
/-! What R14's table and R16's list find in a step record, against the model's checks (for O39). -/

namespace Sys2Proof.Machine

/-! ### The faults of a record, by their codes -/

theorem ite_map_code {c d : Prop} [Decidable c] [Decidable d] (h : c ↔ d) (x : RecordField) {y : Option RecordField}
    {z : Option Nat} (hy : y.map RecordField.code = z) :
    (if c then some x else y).map RecordField.code = if d then some x.code else z := by
  by_cases hd : d
  · rw [if_pos (h.2 hd), if_pos hd]; rfl
  · rw [if_neg fun hc => hd (h.1 hc), if_neg hd, hy]

theorem boundBad_iff (lo hi : Int) (b : Option Int) :
    boundBad lo hi b = true ↔ b.any (fun v => decide (v < lo ∨ hi < v)) = true := by
  simp only [boundBad, Bool.decide_or]

theorem Range.ofCode_isNone (v : Nat) : (Range.ofCode v).isNone = true ↔ v < 1 ∨ 3 < v := by
  rcases Nat.lt_or_ge 3 v with h | h
  · obtain ⟨k, rfl⟩ : ∃ k, v = k + 4 := ⟨v - 4, by omega⟩
    simp [Range.ofCode]
  · interval_cases v <;> simp [Range.ofCode]

theorem DwellRule.ofCode_isNone (v : Nat) : (DwellRule.ofCode v).isNone = true ↔ v < 1 ∨ 4 < v := by
  rcases Nat.lt_or_ge 4 v with h | h
  · obtain ⟨k, rfl⟩ : ∃ k, v = k + 5 := ⟨v - 5, by omega⟩
    simp [DwellRule.ofCode]
  · interval_cases v <;> simp [DwellRule.ofCode]

theorem yesNo_isNone (v : Nat) : (yesNo v).isNone = true ↔ 1 < v := by
  rcases Nat.lt_or_ge 1 v with h | h
  · rw [yesNo_of_gt h]; simp [h]
  · rw [yesNo_of_le h]; simp [h]

theorem windowLength_eq (c f : Nat) : windowLength c f = (2 * c * 9600000 + f) / (2 * f) := by
  rw [windowLength, roundHalfUp, Nat.mul_assoc]

/-- The code of the field at fault in a limit record (R16). -/
def limitCode (l : Limits) : Option Nat :=
  let outside := fun (lo hi : Int) (b : Option Int) => b.any (fun v => decide (v < lo ∨ hi < v))
  if outside (-20000) 20000 l.lower then some 14
  else if outside (-20000) 20000 l.upper then some 15
  else if l.lower.any (fun a => l.upper.any (fun b => decide (b < a))) then some 16
  else if outside (-14000) 3000 l.thd then some 17
  else if outside (-14000) 3000 l.hoh then some 18
  else none

theorem limitFault_code (l : Limits) : (limitFault l).map RecordField.code = limitCode l :=
  ite_map_code (boundBad_iff _ _ _) _ (ite_map_code (boundBad_iff _ _ _) _ (ite_map_code Iff.rfl _
    (ite_map_code (boundBad_iff _ _ _) _ (ite_map_code (boundBad_iff _ _ _) _ rfl))))

/-- The check of a step finds the field that R14's table and R16's list find. -/
theorem stepFault_code (r : Recipe) (f : ProgramFields) (i : Nat) :
    (stepFault r f (r.rawStep f i)).map RecordField.code = r.faultCode f i := by
  refine ite_map_code (by omega) _ (ite_map_code (by omega) _ (ite_map_code (by omega) _
    (ite_map_code (Range.ofCode_isNone _) _ ?_)))
  by_cases hk : (r.rawStep f i).kind = 1
  · rw [if_pos hk, if_pos hk]
    refine ite_map_code (DwellRule.ofCode_isNone _) _ (ite_map_code Iff.rfl _ (ite_map_code Iff.rfl _
      (ite_map_code (by omega) _ (ite_map_code (by omega) _ (ite_map_code (by rw [windowLength_eq]; omega) _
      (ite_map_code (yesNo_isNone _) _ (ite_map_code Iff.rfl _ (ite_map_code (by omega) _ ?_))))))))
    cases (r.rawStep f i).limitIndex with
    | none => rfl
    | some m => exact limitFault_code _
  · rw [if_neg hk, if_neg hk]
    exact ite_map_code Iff.rfl _ (ite_map_code Iff.rfl _ rfl)

/-! ### Records without a fault -/

theorem ite_some_eq_none_iff {α : Type} {c : Prop} [Decidable c] (x : α) (y : Option α) :
    (if c then some x else y) = none ↔ ¬ c ∧ y = none := by
  split <;> simp [*]

/-- A bound that is absent or in its range. -/
def boundWithin (lo hi : Int) (b : Option Int) : Prop := ∀ v, b = some v → lo ≤ v ∧ v ≤ hi

theorem boundWithin_iff (lo hi : Int) (b : Option Int) :
    boundWithin lo hi b ↔ ¬ b.any (fun v => decide (v < lo ∨ hi < v)) = true := by
  cases b with
  | none => simp [boundWithin]
  | some v => simp [boundWithin]

/-- A limit record in range (R16). -/
def Limits.inRange (l : Limits) : Prop :=
  boundWithin (-20000) 20000 l.lower ∧ boundWithin (-20000) 20000 l.upper ∧
  (∀ a b, l.lower = some a → l.upper = some b → a ≤ b) ∧ boundWithin (-14000) 3000 l.thd ∧ boundWithin (-14000) 3000 l.hoh

theorem Limits.inRange_iff (l : Limits) : l.inRange ↔ limitCode l = Option.none := by
  have horder : (∀ a b, l.lower = some a → l.upper = some b → a ≤ b) ↔
      ¬ l.lower.any (fun a => l.upper.any (fun b => decide (b < a))) = true := by
    cases l.lower <;> cases l.upper <;> simp
  simp only [limitCode, ite_some_eq_none_iff, and_true, inRange, boundWithin_iff, horder]

/-- A step record in range, with the limit record it names (R14 to R16). -/
def Recipe.stepInRange (r : Recipe) (f : ProgramFields) (i : Nat) : Prop :=
  let st := r.rawStep f i
  2000 ≤ st.frequency ∧ st.frequency ≤ 4000000 ∧ -12000 ≤ st.level ∧ st.level ≤ 0 ∧ 1 ≤ st.range ∧ st.range ≤ 3 ∧
  ((st.kind = 2 ∧ 1 ≤ st.onCycles ∧ 1 ≤ st.repeats) ∨
    (st.kind = 1 ∧ 1 ≤ st.dwell ∧ st.dwell ≤ 4 ∧ st.settleMs ≤ 2000 ∧ st.settleMs ≤ st.capMs ∧ st.capMs ≤ 4000 ∧
      1 ≤ st.tolerance ∧ st.tolerance ≤ 600 ∧ 1 ≤ st.cycles ∧ st.cycles ≤ 4096 ∧
      64 ≤ (2 * st.cycles * 9600000 + st.frequency) / (2 * st.frequency) ∧
      (2 * st.cycles * 9600000 + st.frequency) / (2 * st.frequency) ≤ 65536 ∧ st.guarded ≤ 1 ∧
      (∀ m, st.limitIndex = some m → m < f.limitCount ∧ (r.limits f m).inRange) ∧
      6 ≤ st.bandLow ∧ st.bandLow ≤ 40 ∧ st.bandLow ≤ st.bandHigh ∧ st.bandHigh ≤ 40))

/-- The limit record a MEASURE step names is there and without fault. -/
theorem limitIndex_ok_iff (r : Recipe) (f : ProgramFields) (x : Option Nat) :
    (∀ m, x = some m → m < f.limitCount ∧ (r.limits f m).inRange) ↔
      ¬ x.any (fun m => decide (f.limitCount ≤ m)) = true ∧
        (match x with | none => none | some m => limitCode (r.limits f m)) = none := by
  cases x with
  | none => simp
  | some m => simp [Limits.inRange_iff]

theorem Recipe.stepInRange_iff (r : Recipe) (f : ProgramFields) (i : Nat) :
    r.stepInRange f i ↔ r.faultCode f i = none := by
  have hl := limitIndex_ok_iff r f (r.rawStep f i).limitIndex
  simp only [limitCode] at hl
  by_cases h1 : (r.rawStep f i).kind = 1
  · simp only [stepInRange, hl, faultCode, if_pos h1, ite_some_eq_none_iff]
    constructor
    · rintro ⟨f1, f2, v1, v2, g1, g2, ⟨hk, -⟩ | ⟨-, d1, d2, t, c1, c2, e1, e2, y1, y2, w1, w2, u, ⟨m1, m2⟩, b1, b2, b3, b4⟩⟩
      · omega
      · exact ⟨by omega, by omega, by omega, by omega, by omega, by omega, by omega, by omega, by omega, by omega,
          by omega, m1, by omega, m2⟩
    · rintro ⟨-, hf, hv, hg, hd, ht, hc, he, hy, hw, hu, m1, hb, m2⟩
      exact ⟨by omega, by omega, by omega, by omega, by omega, by omega, Or.inr ⟨h1, by omega, by omega, by omega,
        by omega, by omega, by omega, by omega, by omega, by omega, by omega, by omega, by omega, ⟨m1, m2⟩, by omega,
        by omega, by omega, by omega⟩⟩
  · by_cases h2 : (r.rawStep f i).kind = 2
    · simp only [stepInRange, faultCode, if_neg h1, ite_some_eq_none_iff, and_true]
      omega
    · simp only [stepInRange, faultCode, ite_some_eq_none_iff]
      omega

end Sys2Proof.Machine
end

section
/-! ACTIVATE (O39): the checks of R13 to R17 in their order. -/

namespace Sys2Proof.Machine

/-! ### The first faulty step -/

theorem firstStepFault_eq_none {r : Recipe} {f : ProgramFields} {is : List Nat}
    (h : ∀ i ∈ is, stepFault r f (r.rawStep f i) = none) : firstStepFault r f is = none := by
  induction is with
  | nil => rfl
  | cons i is ih =>
    rw [firstStepFault, h i List.mem_cons_self]
    exact ih fun j hj => h j (List.mem_cons_of_mem _ hj)

/-- Steps without a fault are passed over. -/
theorem firstStepFault_append {r : Recipe} {f : ProgramFields} {is : List Nat} (js : List Nat)
    (h : ∀ i ∈ is, stepFault r f (r.rawStep f i) = none) :
    firstStepFault r f (is ++ js) = firstStepFault r f js := by
  induction is with
  | nil => rfl
  | cons i is ih =>
    rw [List.cons_append, firstStepFault, h i List.mem_cons_self]
    exact ih fun j hj => h j (List.mem_cons_of_mem _ hj)

theorem stepFault_eq_none_iff {r : Recipe} {f : ProgramFields} {i : Nat} :
    stepFault r f (r.rawStep f i) = none ↔ r.faultCode f i = none := by
  rw [← stepFault_code, Option.map_eq_none_iff]

/-- The first of a program's steps with a fault is found, with the code of its field. -/
theorem firstStepFault_range {r : Recipe} {f : ProgramFields} {n i c : Nat} (hi : i < n)
    (hj : ∀ j, j < i → r.faultCode f j = none) (hc : r.faultCode f i = some c) :
    ∃ x, firstStepFault r f (List.range n) = some (i, x) ∧ x.code = c := by
  rw [← stepFault_code, Option.map_eq_some_iff] at hc
  obtain ⟨x, hx, rfl⟩ := hc
  refine ⟨x, ?_, rfl⟩
  have hsplit : List.range n = List.range i ++ i :: (List.range n).drop (i + 1) := by
    conv => lhs; rw [← List.take_append_drop i (List.range n), List.take_range, Nat.min_eq_left hi.le,
      List.drop_eq_getElem_cons (by simpa using hi), List.getElem_range]
  rw [hsplit, firstStepFault_append _ fun j hm => stepFault_eq_none_iff.2 (hj j (List.mem_range.1 hm)), firstStepFault, hx]

theorem firstStepFault_range_none {r : Recipe} {f : ProgramFields} {n : Nat} (h : ∀ i, i < n → r.faultCode f i = none) :
    firstStepFault r f (List.range n) = none :=
  firstStepFault_eq_none fun i hi => stepFault_eq_none_iff.2 (h i (List.mem_range.1 hi))

/-! ### Programs that share rows -/

theorem ProgramFields.overlaps_iff (f g : ProgramFields) : f.overlaps g = true ↔ f.shares g := by
  simp only [overlaps, Bool.or_eq_true, touches_iff, meets, shares, hasRow, ← exists_or]
  exact exists_congr fun row => by tauto

/-- Program p, with fields g, is an ACTIVE one other than e. -/
def Recipe.activeOther (r : Recipe) (e p : Nat) (g : ProgramFields) : Prop := p < 8 ∧ p ≠ e ∧ r.entry p = .active g

theorem Recipe.overlapping_test (r : Recipe) (e p : Nat) (f : ProgramFields) :
    (decide (p ≠ e) && (match r.entry p with | .active g => f.overlaps g | .inactive _ | .empty => false)) = true ↔
      p ≠ e ∧ ∃ g, r.entry p = .active g ∧ f.shares g := by
  cases r.entry p with
  | empty => simp
  | inactive g => simp
  | active g => simp [ProgramFields.overlaps_iff]

theorem Recipe.overlapping_eq_some {r : Recipe} {e p : Nat} {f g : ProgramFields} (h : r.activeOther e p g)
    (hs : f.shares g) (hm : ∀ p' g', p' < p → r.activeOther e p' g' → ¬ f.shares g') : r.overlapping e f = some p := by
  obtain ⟨hp, he, hg⟩ := h
  refine List.find?_range_eq_some.2 ⟨(r.overlapping_test e p f).2 ⟨he, g, hg, hs⟩, List.mem_range.2 hp, fun m hlt => ?_⟩
  refine (Bool.not_eq_true' _).mpr (Bool.eq_false_iff.2 fun ht => ?_)
  obtain ⟨hne, g', hg', hs'⟩ := (r.overlapping_test e m f).1 ht
  exact hm m g' hlt ⟨Nat.lt_trans hlt hp, hne, hg'⟩ hs'

theorem Recipe.overlapping_eq_none_iff (r : Recipe) (e : Nat) (f : ProgramFields) :
    r.overlapping e f = none ↔ ∀ p g, r.activeOther e p g → ¬ f.shares g := by
  refine List.find?_range_eq_none.trans ⟨fun h p g ⟨hp, he, hg⟩ hs => ?_, fun h p hp => ?_⟩
  · exact Bool.eq_false_iff.1 ((Bool.not_eq_true' _).mp (h p hp)) ((r.overlapping_test e p f).2 ⟨he, g, hg, hs⟩)
  · refine (Bool.not_eq_true' _).mpr (Bool.eq_false_iff.2 fun ht => ?_)
    obtain ⟨he, g, hg, hs⟩ := (r.overlapping_test e p f).1 ht
    exact h p g ⟨hp, he, hg⟩ hs

/-! ### The checks of an activation -/

section Activation

variable {r : Recipe} {e : Nat} {f : ProgramFields}

/-- Where the regions are placed (R13), the first faulty step refuses, -/
theorem Recipe.activationFault_badStep {i : Nat} {x : RecordField} (hp : f.placed)
    (h : firstStepFault r f (List.range f.stepCount) = some (i, x)) :
    r.activationFault e f = some (.badRecord, toBytes 2 i ++ toBytes 1 x.code) := by
  obtain ⟨h1, h2, h3⟩ := hp
  refine (if_neg (by simp only [Config.rowCount]; omega)).trans ((if_neg (by simp only [Config.rowCount]; omega)).trans
    ((if_neg (by omega)).trans ?_))
  rw [h]

/-- then the lowest program that shares a row, -/
theorem Recipe.activationFault_overlap {p : Nat} (hp : f.placed)
    (h : ∀ i, i < f.stepCount → r.faultCode f i = none) (ho : r.overlapping e f = some p) :
    r.activationFault e f = some (.overlap, toBytes 1 p) := by
  obtain ⟨h1, h2, h3⟩ := hp
  refine (if_neg (by simp only [Config.rowCount]; omega)).trans ((if_neg (by simp only [Config.rowCount]; omega)).trans
    ((if_neg (by omega)).trans ?_))
  rw [firstStepFault_range_none h, ho]

/-- and otherwise nothing. -/
theorem Recipe.activationFault_eq_none (h : r.accepts (r.activeOther e) f) : r.activationFault e f = none := by
  obtain ⟨⟨h1, h2, h3⟩, hs, ho⟩ := h
  refine (if_neg (by simp only [Config.rowCount]; omega)).trans ((if_neg (by simp only [Config.rowCount]; omega)).trans
    ((if_neg (by omega)).trans ?_))
  rw [firstStepFault_range_none hs, (r.overlapping_eq_none_iff e f).2 ho]

/-- The first check that fails is the one found. -/
theorem Recipe.activationFault_of_refuses {reason : Reason} {data : List Byte}
    (h : r.refuses (r.activeOther e) f reason data) : r.activationFault e f = some (reason, data) := by
  rcases h with ⟨rfl, rfl, hs⟩ | ⟨rfl, rfl, hs, hl⟩ | ⟨rfl, rfl, hs, hl, ho⟩ | ⟨rfl, hp, i, c, hi, hj, hc, rfl⟩ |
    ⟨rfl, hp, hs, p, g, hg, hsh, hm, rfl⟩
  · exact if_pos (by simp only [Config.rowCount]; omega)
  · exact (if_neg (by simp only [Config.rowCount]; omega)).trans (if_pos (by simp only [Config.rowCount]; omega))
  · exact (if_neg (by simp only [Config.rowCount]; omega)).trans ((if_neg (by simp only [Config.rowCount]; omega)).trans
      (if_pos ho))
  · obtain ⟨x, hx, rfl⟩ := firstStepFault_range hi hj hc
    exact activationFault_badStep hp hx
  · exact activationFault_overlap hp hs (overlapping_eq_some hg hsh hm)

/-- Where some check fails there is a first. -/
theorem Recipe.refuses_of_not_accepts (h : ¬ r.accepts (r.activeOther e) f) :
    ∃ reason data, r.refuses (r.activeOther e) f reason data := by
  classical
  by_cases hs : f.firstStep + 2 * f.stepCount ≤ 4096
  case neg => exact ⟨_, _, Or.inl ⟨rfl, rfl, hs⟩⟩
  by_cases hl : f.limitCount = 0 ∨ f.firstLimit + f.limitCount ≤ 4096
  case neg => exact ⟨_, _, Or.inr (Or.inl ⟨rfl, rfl, hs, hl⟩)⟩
  by_cases ha : f.firstStep % 2 = 1
  case pos => exact ⟨_, _, Or.inr (Or.inr (Or.inl ⟨rfl, rfl, hs, hl, ha⟩))⟩
  have hp : f.placed := ⟨hs, hl, by omega⟩
  by_cases hf : ∀ i, i < f.stepCount → r.faultCode f i = none
  case neg =>
    have hex : ∃ i, i < f.stepCount ∧ r.faultCode f i ≠ none := by simpa using hf
    obtain ⟨hi, hc⟩ := Nat.find_spec hex
    obtain ⟨c, hc⟩ := Option.ne_none_iff_exists'.1 hc
    refine ⟨_, _, Or.inr (Or.inr (Or.inr (Or.inl ⟨rfl, hp, Nat.find hex, c, hi, fun j hj => ?_, hc, rfl⟩)))⟩
    by_contra hne
    exact Nat.find_min hex hj ⟨Nat.lt_trans hj hi, hne⟩
  have hex : ∃ p, ∃ g, r.activeOther e p g ∧ f.shares g := by
    by_contra hno
    exact h ⟨hp, hf, fun p g hg hsh => hno ⟨p, g, hg, hsh⟩⟩
  obtain ⟨g, hg, hsh⟩ := Nat.find_spec hex
  exact ⟨_, _, Or.inr (Or.inr (Or.inr (Or.inr ⟨rfl, hp, hf, Nat.find hex, g, hg, hsh,
    fun p' g' hlt hg' hs' => Nat.find_min hex hlt ⟨g', hg', hs'⟩, rfl⟩)))⟩

/-- The reasons of an activation's refusal. -/
theorem Recipe.refuses_reason {other : Nat → ProgramFields → Prop} {reason : Reason} {data : List Byte}
    (h : r.refuses other f reason data) : reason = .range ∨ reason = .badRecord ∨ reason = .overlap := by
  rcases h with ⟨rfl, -⟩ | ⟨rfl, -⟩ | ⟨rfl, -⟩ | ⟨rfl, -⟩ | ⟨rfl, -⟩ <;> simp

end Activation

/-- A program that shares no row with another ACTIVE one. -/
theorem Recipe.alone_iff (r : Recipe) (e : Nat) (f : ProgramFields) :
    (∀ p g, p < 8 → p ≠ e → r.entry p = .active g → ∀ row, ¬ (f.hasRow row ∧ g.hasRow row)) ↔
      ∀ p g, r.activeOther e p g → ¬ f.shares g :=
  ⟨fun h p g ⟨hp, he, hg⟩ ⟨row, hr⟩ => h p g hp he hg row hr,
    fun h p g hp he hg row hr => h p g ⟨hp, he, hg⟩ ⟨row, hr⟩⟩

/-- Settles O39: R12's cases, and for an INACTIVE entry the first check of R13 to R17 that fails. -/
theorem activate : Obligations.Activate := by
  intro s tag ops rest h hl e r within limitsOk stepOk placed alone
  have hfits := operands_length hl
  have hsteps : ∀ f i, stepOk f i ↔ r.faultCode f i = none := fun f i => r.stepInRange_iff f i
  have halone : ∀ f, alone f ↔ ∀ p g, r.activeOther e p g → ¬ f.shares g := r.alone_iff e
  have haccepts : ∀ f, (placed f ∧ (∀ i, i < f.stepCount → stepOk f i) ∧ alone f) ↔ r.accepts (r.activeOther e) f :=
    fun f => by simp only [hsteps, halone]; rfl
  have hrefused : ∀ f reason data, e ≤ 7 → r.entry e = .inactive f → r.refuses (r.activeOther e) f reason data →
      exec .activate s = .next ((s.taken rest).refusal tag 0x14 reason data) := by
    intro f reason data he hd hx
    refine congrArg _ (takeCommand_refused h hfits ((if_neg (Nat.not_lt.2 he)).trans ?_))
    rw [State.taken_recipe, hd]
    simp only [show s.recipe.activationFault (fieldAt ops 0 1) f = _ from Recipe.activationFault_of_refuses hx]
  refine ⟨fun he => ?_, fun he hd => ?_, fun f he hd => ?_, fun f he hd => ⟨fun hp hs ha => ?_, fun hn => ?_, fun hr => ?_,
    fun hp hs ha => ?_, fun reason data hx => hrefused f reason data he hd hx⟩⟩
  · exact congrArg _ (takeCommand_refused h hfits (if_pos he))
  · refine congrArg _ (takeCommand_refused h hfits ((if_neg (Nat.not_lt.2 he)).trans ?_))
    rw [State.taken_recipe, hd]
  · refine congrArg _ (takeCommand_done h hfits ((if_neg (Nat.not_lt.2 he)).trans ?_))
    rw [State.taken_recipe, hd]; rfl
  · refine congrArg _ (takeCommand_done h hfits ((if_neg (Nat.not_lt.2 he)).trans ?_))
    rw [State.taken_recipe, hd]
    simp only [show s.recipe.activationFault (fieldAt ops 0 1) f = _ from
      Recipe.activationFault_eq_none ((haccepts f).1 ⟨hp, hs, ha⟩)]
    rfl
  · obtain ⟨reason, data, hx⟩ := Recipe.refuses_of_not_accepts (mt (haccepts f).2 hn)
    exact ⟨reason, data, hrefused f reason data he hd hx, Recipe.refuses_reason hx⟩
  · exact hrefused f _ _ he hd (Or.inl ⟨rfl, rfl, Nat.not_le.2 hr⟩)
  · obtain ⟨reason, data, hx⟩ := Recipe.refuses_of_not_accepts (mt (haccepts f).2 fun hc => ha hc.2.2)
    have hexec := hrefused f reason data he hd hx
    rcases hx with ⟨-, -, hc⟩ | ⟨-, -, -, hc⟩ | ⟨-, -, -, -, hc⟩ | ⟨-, -, i, c, hi, -, hc, -⟩ |
      ⟨rfl, -, -, p, g, -, -, -, rfl⟩
    · exact absurd hp.1 hc
    · exact absurd hp.2.1 hc
    · exact absurd hc (by rw [hp.2.2]; decide)
    · exact absurd ((hsteps f i).1 (hs i hi)) (by rw [hc]; simp)
    · exact ⟨p, hexec⟩

end Sys2Proof.Machine
end

section
/-! What an operation on a running nest keeps of the programs in use: the nests' programs and the use counts
(for SoundStatesStepOn). -/

namespace Sys2Proof.Machine

/-- Every nest's program and every use count are as they were. -/
structure SamePrograms (s t : State) : Prop where
  uses : t.recipe.useCount = s.recipe.useCount
  program : ∀ m, (t.nest m).program = (s.nest m).program

theorem SamePrograms.refl (s : State) : SamePrograms s s := ⟨rfl, fun _ => rfl⟩

theorem SamePrograms.trans {s t u : State} (h : SamePrograms s t) (k : SamePrograms t u) : SamePrograms s u :=
  ⟨k.uses.trans h.uses, fun m => (k.program m).trans (h.program m)⟩

/-- The last operation first, as in `Moves.after`. -/
theorem SamePrograms.after {s t u : State} (k : SamePrograms t u) (h : SamePrograms s t) : SamePrograms s u := h.trans k

/-- An operation on other blocks. -/
theorem SamePrograms.of_eq {s t : State} (hr : t.recipe = s.recipe) (hn : t.nests = s.nests) : SamePrograms s t :=
  ⟨by rw [hr], fun m => by rw [State.nest, hn]; rfl⟩

variable (s : State)

theorem samePrograms_modNest (n : Nest) (f : Sequencer → Sequencer) (h : (f (s.nest n)).program = (s.nest n).program) :
    SamePrograms s (s.modNest n f) :=
  ⟨rfl, fun m => by
    by_cases hm : m = n
    · subst hm; rw [State.nest_modNest]; exact h
    · rw [State.nest_modNest_ne s hm]⟩

theorem samePrograms_setNest (n : Nest) (q : Sequencer) (h : q.program = (s.nest n).program) :
    SamePrograms s (s.setNest n q) := samePrograms_modNest s n (fun _ => q) h

theorem samePrograms_setTone (n : Nest) (t : Tone) : SamePrograms s (s.setTone n t) := .of_eq rfl rfl

theorem samePrograms_modTone (n : Nest) (f : Tone → Tone) : SamePrograms s (s.modTone n f) := .of_eq rfl rfl

theorem samePrograms_modAnalyser (f : Analyser → Analyser) : SamePrograms s (s.modAnalyser f) := .of_eq rfl rfl

theorem samePrograms_setDetector (n : Nest) (d : Detector) : SamePrograms s (s.setDetector n d) := .of_eq rfl rfl

theorem samePrograms_foldResult (r : StepResult) : SamePrograms s (s.foldResult r) := .of_eq rfl rfl

theorem samePrograms_captureSample (n : Nest) (x : Sample) : SamePrograms s (s.captureSample n x) := .of_eq rfl rfl

/-! ### Captures and lanes -/

theorem reserveCapture_recipe (n : Nest) : (s.reserveCapture n).recipe = s.recipe := by
  unfold State.reserveCapture
  split
  · split
    · rfl
    · dsimp only
      split
      · rfl
      · split <;> rfl
  · rfl

theorem decideCapture_recipe (n : Nest) (o : StepOutcome) : (s.decideCapture n o).recipe = s.recipe := by
  unfold State.decideCapture
  split
  · split <;> rfl
  · rfl

theorem decideCapture_nests (n : Nest) (o : StepOutcome) : (s.decideCapture n o).nests = s.nests := by
  unfold State.decideCapture
  split
  · split <;> rfl
  · rfl

theorem samePrograms_decideCapture (n : Nest) (o : StepOutcome) : SamePrograms s (s.decideCapture n o) :=
  .of_eq (decideCapture_recipe s n o) (decideCapture_nests s n o)

theorem samePrograms_enterWindow (n : Nest) : SamePrograms s (s.enterWindow n) := by
  unfold State.enterWindow
  exact (SamePrograms.of_eq (reserveCapture_recipe _ n) (reserveCapture_nests _ n)).after
    ((samePrograms_modAnalyser _ _).after (samePrograms_modNest s n _ rfl))

theorem samePrograms_grant (r : LaneRequest) (rest : List LaneRequest) : SamePrograms s (s.grant r rest) := by
  unfold State.grant
  dsimp only
  split
  · exact (samePrograms_modNest _ _ _ rfl).after (samePrograms_modAnalyser s _)
  · exact (samePrograms_enterWindow _ _).after (samePrograms_modAnalyser s _)

theorem samePrograms_grantHeads (fuel : Nat) : SamePrograms s (s.grantHeads fuel) := by
  induction fuel generalizing s with
  | zero => exact .refl s
  | succ fuel ih =>
    unfold State.grantHeads
    split
    · exact .refl s
    · split
      · exact (ih _).after (samePrograms_grant s _ _)
      · exact .refl s

theorem samePrograms_grantCheck : SamePrograms s s.grantCheck := samePrograms_grantHeads s _

theorem samePrograms_requestLanes (n : Nest) : SamePrograms s (s.requestLanes n) := by
  unfold State.requestLanes
  split
  · exact .refl s
  · exact (samePrograms_grantCheck _).after ((samePrograms_modAnalyser _ _).after
      ((samePrograms_setDetector _ n _).after (samePrograms_modNest s n _ rfl)))

theorem samePrograms_releaseLanes (n : Nest) : SamePrograms s (s.releaseLanes n) :=
  (samePrograms_grantCheck _).after (samePrograms_modAnalyser s _)

theorem samePrograms_withdraw (n : Nest) : SamePrograms s (s.withdraw n) :=
  (samePrograms_grantCheck _).after (samePrograms_modAnalyser s _)

theorem samePrograms_voidCapture (n : Nest) : SamePrograms s (s.voidCapture n) := .of_eq rfl rfl

theorem samePrograms_backToGuardWait (n : Nest) : SamePrograms s (s.backToGuardWait n) :=
  (samePrograms_voidCapture _ n).after ((samePrograms_modAnalyser _ _).after (samePrograms_modNest s n _ rfl))

theorem samePrograms_giveBack (n : Nest) : SamePrograms s (s.giveBack n) := by
  unfold State.giveBack
  split
  · exact samePrograms_withdraw s n
  · exact samePrograms_releaseLanes s n
  · exact (samePrograms_voidCapture _ n).after (samePrograms_releaseLanes s n)
  · exact (samePrograms_voidCapture _ n).after (samePrograms_releaseLanes s n)
  all_goals exact .refl s

theorem samePrograms_windowComplete (n : Nest) : SamePrograms s (s.windowComplete n) :=
  (samePrograms_modAnalyser _ _).after (samePrograms_modNest s n _ rfl)

/-! ### Steps -/

theorem foldUnsettled_recipe (n : Nest) : (s.foldUnsettled n).recipe = s.recipe := by
  unfold State.foldUnsettled; split <;> rfl

theorem foldCondition_recipe (n : Nest) : (s.foldCondition n).recipe = s.recipe := by
  unfold State.foldCondition; split <;> rfl

theorem foldCondition_nests (n : Nest) : (s.foldCondition n).nests = s.nests := by
  unfold State.foldCondition; split <;> rfl

theorem samePrograms_unsettle (n : Nest) : SamePrograms s (s.unsettle n) :=
  .of_eq (foldUnsettled_recipe s n) (foldUnsettled_nests s n)

theorem samePrograms_loadStep (n : Nest) : SamePrograms s (s.loadStep n) := by
  unfold State.loadStep
  split
  · exact .refl s
  · exact samePrograms_modNest s n _ rfl

theorem samePrograms_openGap (n : Nest) (st : Step) : SamePrograms s (s.openGap n st) := by
  unfold State.openGap
  dsimp only
  split
  · exact (samePrograms_setTone _ n _).after (samePrograms_setNest s n _ rfl)
  · split <;> exact (samePrograms_setTone _ n _).after (samePrograms_setNest s n _ rfl)

theorem samePrograms_enterStep (n : Nest) (st : Step) : SamePrograms s (s.enterStep n st) := by
  unfold State.enterStep
  split
  · exact (samePrograms_setDetector _ n _).after (samePrograms_modNest s n _ rfl)
  · exact (samePrograms_modTone _ n _).after (samePrograms_modNest s n _ rfl)

theorem samePrograms_nextIndex (n : Nest) : SamePrograms s (s.nextIndex n) := samePrograms_modNest s n _ rfl

theorem samePrograms_runSteps (fuel : Nat) (n : Nest) : SamePrograms s (State.runSteps fuel n s).1 := by
  induction fuel generalizing s with
  | zero => exact .refl s
  | succ fuel ih =>
    have h1 := samePrograms_loadStep s n
    unfold State.runSteps
    dsimp only
    split
    · exact h1
    · rename_i st _
      split
      · exact (samePrograms_openGap _ n _).after h1
      · have h2 := (samePrograms_enterStep ((s.loadStep n).modTone n fun t => t.directStart st) n st).after
          ((samePrograms_modTone _ n _).after h1)
        split
        · exact h2
        · exact (samePrograms_requestLanes _ n).after h2
        · have h3 := (samePrograms_unsettle _ n).after h2
          split
          · exact h3
          · exact (ih _).after ((samePrograms_nextIndex _ n).after h3)

theorem samePrograms_finishStep (n : Nest) (failed : Bool) : SamePrograms s (s.finishStep n failed).1 := by
  unfold State.finishStep
  split
  · exact .refl s
  · exact (samePrograms_runSteps _ _ n).after (samePrograms_nextIndex s n)

theorem samePrograms_testSettle (n : Nest) : SamePrograms s (s.testSettle n).1 := by
  unfold State.testSettle
  split
  · exact .refl s
  · exact samePrograms_requestLanes s n
  · exact (samePrograms_finishStep _ n true).after (samePrograms_unsettle s n)

theorem samePrograms_gapPhaseEnd (n : Nest) : SamePrograms s (s.gapPhaseEnd n).1 := by
  unfold State.gapPhaseEnd
  split
  · dsimp only; exact samePrograms_modNest s n _ rfl
  · dsimp only; exact samePrograms_modNest s n _ rfl
  · exact (samePrograms_testSettle _ n).after (samePrograms_enterStep s n _)
  · exact .refl s

theorem samePrograms_settleBlockEnd (n : Nest) : SamePrograms s (s.settleBlockEnd n) := by
  unfold State.settleBlockEnd
  exact (samePrograms_modNest _ n _ rfl).after (samePrograms_setDetector s n _)

theorem samePrograms_burstPhaseEnd (n : Nest) : SamePrograms s (s.burstPhaseEnd n).1 := by
  unfold State.burstPhaseEnd
  split
  · exact .refl s
  · dsimp only
    split
    · exact (samePrograms_finishStep _ n false).after
        ((SamePrograms.of_eq (foldCondition_recipe _ n) (foldCondition_nests _ n)).after (samePrograms_setTone s n _))
    · exact samePrograms_setTone s n _

theorem samePrograms_spoil (n : Nest) (c : UnitClass) : SamePrograms s (s.spoil n c).1 := by
  have h := (samePrograms_voidCapture _ n).after (samePrograms_releaseLanes s n)
  unfold State.spoil
  dsimp only
  split
  · exact (samePrograms_requestLanes _ n).after ((samePrograms_modNest _ n _ rfl).after h)
  · exact h

theorem samePrograms_completeEvaluation (n : Nest) : SamePrograms s (s.completeEvaluation n).1 := by
  unfold State.completeEvaluation
  split
  · exact (samePrograms_finishStep _ n _).after ((samePrograms_decideCapture _ n _).after
      ((samePrograms_releaseLanes _ n).after (samePrograms_foldResult s _)))
  · exact .refl s

/-! ### One frame for a nest -/

theorem samePrograms_gapFrame (n : Nest) : SamePrograms s (s.gapFrame n).1 := by
  unfold State.gapFrame
  dsimp only
  split
  · exact (samePrograms_gapPhaseEnd _ n).after (samePrograms_modNest s n _ rfl)
  · dsimp only; exact samePrograms_modNest s n _ rfl

theorem samePrograms_settleFrame (n : Nest) : SamePrograms s (s.settleFrame n).1 := by
  unfold State.settleFrame
  dsimp only
  split
  · exact (samePrograms_testSettle _ n).after ((samePrograms_settleBlockEnd _ n).after
      ((samePrograms_setDetector _ n _).after (samePrograms_modNest s n _ rfl)))
  · exact (samePrograms_testSettle _ n).after ((samePrograms_setDetector _ n _).after (samePrograms_modNest s n _ rfl))

theorem samePrograms_conditionFrame (n : Nest) (w : Bool) : SamePrograms s (s.conditionFrame n w).1 := by
  unfold State.conditionFrame
  dsimp only
  split
  · split
    · exact (samePrograms_burstPhaseEnd _ n).after (samePrograms_modTone s n _)
    · exact samePrograms_modTone s n _
  · exact .refl s

theorem samePrograms_countWindowFrame (n : Nest) (ph : Word) : SamePrograms s (s.countWindowFrame n ph) :=
  (samePrograms_captureSample _ n _).after ((samePrograms_modAnalyser _ _).after (samePrograms_modNest s n _ rfl))

theorem samePrograms_timeOut (n : Nest) : SamePrograms s (s.timeOut n).1 := samePrograms_giveBack s n

theorem samePrograms_windowCheck (n : Nest) : SamePrograms s (s.windowCheck n) := by
  unfold State.windowCheck
  split
  · exact samePrograms_windowComplete s n
  · exact .refl s

theorem samePrograms_windowFrame (n : Nest) (ph : Word) (e x : Bool) : SamePrograms s (s.windowFrame n ph e x).1 := by
  have h := samePrograms_countWindowFrame s n ph
  unfold State.windowFrame
  dsimp only
  split
  · split
    · exact (samePrograms_timeOut _ n).after h
    · exact (samePrograms_spoil _ n _).after h
  · split
    · exact (samePrograms_timeOut _ n).after ((samePrograms_windowCheck _ n).after h)
    · exact (samePrograms_windowCheck _ n).after h

theorem samePrograms_evaluateFrame (n : Nest) : SamePrograms s (s.evaluateFrame n).1 := by
  unfold State.evaluateFrame
  split
  · exact .refl s
  · dsimp only
    split
    · exact (samePrograms_completeEvaluation _ n).after (samePrograms_modAnalyser s _)
    · dsimp only; exact samePrograms_modAnalyser s _

end Sys2Proof.Machine
end

section
/-! Each use count as the number of running units that play its program: what keeps the count, and how the end of a
run moves it (for SoundStatesStepOn). -/

namespace Sys2Proof.Machine

/-- The program that the nest's running unit plays. -/
def State.plays (s : State) (n : Nest) : Option Nat := if (s.nest n).state.running then (s.nest n).program else none

/-- The use counts have their size and are right. -/
def State.Counted (s : State) : Prop := s.recipe.useCount.length = 8 ∧ s.usesOk

theorem counted_iff {s : State} (h : s.tablesOk) : s.Counted ↔ s.usesOk := by
  obtain ⟨-, hu, -, -⟩ := h
  exact ⟨fun c => c.2, fun u => ⟨hu, u⟩⟩

theorem State.plays_running {s : State} {n : Nest} (h : (s.nest n).state.running = true) :
    s.plays n = (s.nest n).program := if_pos h

theorem State.plays_resting {s : State} {n : Nest} (h : (s.nest n).state.running = false) : s.plays n = none :=
  if_neg (by rw [h]; decide)

theorem State.playing_length (s : State) (p : Nat) :
    (s.playing p).length = (if s.plays .n1 = some p then 1 else 0) + (if s.plays .n2 = some p then 1 else 0) +
      (if s.plays .n3 = some p then 1 else 0) + (if s.plays .n4 = some p then 1 else 0) := by
  have e : ∀ n, ((s.nest n).state.running && decide ((s.nest n).program = some p)) = decide (s.plays n = some p) := by
    intro n
    unfold State.plays
    cases (s.nest n).state.running <;> simp
  unfold State.playing
  rw [← List.countP_eq_length_filter]
  simp only [e, Nest.order, List.countP_cons, List.countP_nil, decide_eq_true_eq]
  omega

/-- One nest's change moves its program's number alone. -/
theorem State.playing_change {s t : State} {n : Nest} (h : ∀ m, m ≠ n → t.plays m = s.plays m) (p : Nat) :
    (t.playing p).length + (if s.plays n = some p then 1 else 0) =
      (s.playing p).length + (if t.plays n = some p then 1 else 0) := by
  rw [State.playing_length, State.playing_length]
  cases n
  case n1 => rw [h .n2 (by decide), h .n3 (by decide), h .n4 (by decide)]; omega
  case n2 => rw [h .n1 (by decide), h .n3 (by decide), h .n4 (by decide)]; omega
  case n3 => rw [h .n1 (by decide), h .n2 (by decide), h .n4 (by decide)]; omega
  case n4 => rw [h .n1 (by decide), h .n2 (by decide), h .n3 (by decide)]; omega

/-! ### The same programs in play -/

/-- Every use count and every running unit's program are as they were. -/
structure SamePlays (s t : State) : Prop where
  uses : t.recipe.useCount = s.recipe.useCount
  plays : ∀ n, t.plays n = s.plays n

theorem SamePlays.refl (s : State) : SamePlays s s := ⟨rfl, fun _ => rfl⟩

theorem SamePlays.trans {s t u : State} (h : SamePlays s t) (k : SamePlays t u) : SamePlays s u :=
  ⟨k.uses.trans h.uses, fun n => (k.plays n).trans (h.plays n)⟩

theorem SamePlays.after {s t u : State} (k : SamePlays t u) (h : SamePlays s t) : SamePlays s u := h.trans k

theorem SamePlays.of_eq {s t : State} (hu : t.recipe.useCount = s.recipe.useCount) (hn : t.nests = s.nests) :
    SamePlays s t :=
  ⟨hu, fun n => by unfold State.plays State.nest; rw [hn]⟩

theorem SamePlays.counted {s t : State} (h : SamePlays s t) (c : s.Counted) : t.Counted := by
  obtain ⟨hl, hu⟩ := c
  refine ⟨h.uses ▸ hl, fun p => ?_⟩
  have e : t.recipe.uses p = s.recipe.uses p := by unfold Recipe.uses; rw [h.uses]
  rw [e, hu p, State.playing_length, State.playing_length]
  simp only [h.plays]

/-- A change to one nest that leaves its program and whether it runs. -/
theorem samePlays_modNest (s : State) (n : Nest) (f : Sequencer → Sequencer)
    (hr : (f (s.nest n)).state.running = (s.nest n).state.running) (hp : (f (s.nest n)).program = (s.nest n).program) :
    SamePlays s (s.modNest n f) :=
  ⟨rfl, fun m => by
    unfold State.plays
    by_cases hm : m = n
    · subst hm; rw [State.nest_modNest, hr, hp]
    · rw [State.nest_modNest_ne s hm]⟩

/-- A nest that does not run, and does not run then. -/
theorem samePlays_rest (s : State) (n : Nest) (f : Sequencer → Sequencer) (h : (s.nest n).state.running = false)
    (k : (f (s.nest n)).state.running = false) : SamePlays s (s.modNest n f) :=
  ⟨rfl, fun m => by
    by_cases hm : m = n
    · subst hm; rw [State.plays_resting h, State.plays_resting (by rw [State.nest_modNest]; exact k)]
    · unfold State.plays; rw [State.nest_modNest_ne s hm]⟩

theorem Acts.samePlays {n : Nest} {s t : State} (a : Acts n s t) (p : SamePrograms s t)
    (hr : (t.nest n).state.running = (s.nest n).state.running) : SamePlays s t := by
  refine ⟨p.uses, fun m => ?_⟩
  have e : (t.nest m).state.running = (s.nest m).state.running := by
    by_cases hm : m = n
    · rw [hm, hr]
    · rcases (a.others m hm).state with h | ⟨h, h' | h'⟩
      · rw [h]
      · rw [h, h']; rfl
      · rw [h, h']; rfl
  unfold State.plays
  rw [e, p.program m]

theorem RunOk.samePlays {n : Nest} {s : State} {r : State × Option Ending} (h : RunOk n s r) (p : SamePrograms s r.1)
    (hr : (s.nest n).state.running = true) : SamePlays s r.1 :=
  h.acts.samePlays p (by rw [hr, h.running])

theorem samePlays_giveBack {s : State} (n : Nest) (h : PoolBut none s) : SamePlays s (s.giveBack n) := by
  have g := grants_giveBack (n := n) h
  exact g.acts.samePlays (samePrograms_giveBack s n) (by rw [g.out n rfl])

/-! ### A run that ends -/

/-- The use counts after one use of the program is given up. -/
def Recipe.lowered (r : Recipe) : Option Nat → List Nat
  | none => r.useCount
  | some p => r.useCount.set p (r.uses p - 1)

theorem lowerUse_useCount (s : State) (n : Nest) :
    (s.lowerUse n).recipe.useCount = s.recipe.lowered (s.nest n).program := by
  unfold State.lowerUse
  split
  · rename_i h; rw [h]; rfl
  · rename_i p h; rw [h]; rfl

theorem Recipe.getD_set (u : List Nat) (p q v : Nat) (h : p < u.length) :
    (u.set p v).getD q 0 = if q = p then v else u.getD q 0 := by
  simp only [List.getD_eq_getElem?_getD, List.getElem?_set, h]
  by_cases e : q = p
  · subst e; simp
  · rw [if_neg e, if_neg (fun h => e h.symm)]

/-- A nest that ran runs no longer, and its program's count is lowered. -/
structure EndsPlay (n : Nest) (s t : State) : Prop where
  uses : t.recipe.useCount = s.recipe.lowered (s.nest n).program
  others : ∀ m, m ≠ n → t.plays m = s.plays m
  ended : t.plays n = none

theorem EndsPlay.counted {n : Nest} {s t : State} (h : EndsPlay n s t) (hr : (s.nest n).state.running = true)
    (c : s.Counted) : t.Counted := by
  obtain ⟨hl, hu⟩ := c
  have change := State.playing_change h.others
  have own := State.plays_running hr
  simp only [h.ended, own] at change
  cases hp : (s.nest n).program with
  | none =>
    have e := h.uses
    rw [hp] at e change
    refine ⟨by rw [e]; exact hl, fun p => ?_⟩
    have := change p
    have eu : t.recipe.uses p = s.recipe.uses p := by unfold Recipe.uses; rw [e]; rfl
    simp only [reduceCtorEq, if_false] at this
    rw [eu, hu p]; omega
  | some p =>
    have e := h.uses
    rw [hp] at e change
    have used : 0 < s.recipe.uses p := by
      have := change p
      rw [if_pos rfl, if_neg (by simp)] at this
      rw [hu p]; omega
    have inTable : p < s.recipe.useCount.length := by
      by_contra hlt
      unfold Recipe.uses at used
      rw [List.getD_eq_default _ _ (by omega)] at used
      omega
    refine ⟨by rw [e]; simpa [Recipe.lowered] using hl, fun q => ?_⟩
    have eu : t.recipe.uses q = if q = p then s.recipe.uses p - 1 else s.recipe.uses q := by
      unfold Recipe.uses
      rw [e]
      exact Recipe.getD_set _ _ _ _ inTable
    have c := change q
    have cq := hu q
    rw [eu]
    by_cases hq : q = p
    · subst hq
      rw [if_pos rfl, if_neg (by simp)] at c
      rw [if_pos rfl]; omega
    · rw [if_neg (fun h => hq (Option.some.inj h).symm), if_neg (by simp)] at c
      rw [if_neg hq]; omega

theorem evaluateHold_recipe (s : State) (n : Nest) (id : Nat) (c : UnitClass) :
    (s.evaluateHold n id c).recipe = s.recipe := by
  unfold State.evaluateHold
  split <;> rfl

theorem evaluateQuarantine_recipe (s : State) (n : Nest) (id : Nat) (w : Word) (c : UnitClass) :
    (s.evaluateQuarantine n id w c).recipe = s.recipe := by
  unfold State.evaluateQuarantine
  split <;> rfl

theorem yieldVerdict_recipe (s : State) (n : Nest) (id : Nat) (w : Word) (c : UnitClass) :
    (s.yieldVerdict n id w c).recipe = s.recipe := by
  unfold State.yieldVerdict
  dsimp only
  rw [evaluateQuarantine_recipe]
  exact evaluateHold_recipe _ n id c

theorem recordVerdict_recipe (s : State) (n : Nest) (c : Option UnitClass) : (s.recordVerdict n c).recipe = s.recipe := by
  unfold State.recordVerdict
  split
  · rfl
  · exact yieldVerdict_recipe _ n _ _ _

theorem recordAborted_recipe (s : State) (n : Nest) : (s.recordAborted n).recipe = s.recipe := by
  unfold State.recordAborted
  split <;> rfl

theorem endsPlay_verdict (s : State) (n : Nest) (e : Ending) : EndsPlay n s (s.verdict n e) := by
  have j := judges_verdict s n e
  refine ⟨?_, fun m hm => ?_, State.plays_resting (by rw [j.state]; rfl)⟩
  · unfold State.verdict
    dsimp only
    rw [recordVerdict_recipe]
    refine (lowerUse_useCount _ n).trans ?_
    rw [State.nest_modNest]
    rfl
  · unfold State.plays; rw [j.others m hm]

theorem counted_verdict {s : State} {n : Nest} (e : Ending) (hr : (s.nest n).state.running = true) (c : s.Counted) :
    (s.verdict n e).Counted := (endsPlay_verdict s n e).counted hr c

theorem counted_deliver {s : State} {n : Nest} (e : Option Ending) (hr : (s.nest n).state.running = true)
    (c : s.Counted) : (s.deliver n e).Counted := by
  unfold State.deliver
  split
  · exact c
  · exact counted_verdict _ hr c

theorem RunOk.counted {n : Nest} {s : State} {r : State × Option Ending} (h : RunOk n s r) (p : SamePrograms s r.1)
    (hr : (s.nest n).state.running = true) (c : s.Counted) : (State.withVerdict n r).Counted :=
  counted_deliver r.2 h.running ((h.samePlays p hr).counted c)

theorem counted_endRun {s : State} {n : Nest} (k : UnitClass) (h : Sound s) (hr : (s.nest n).state.running = true)
    (c : s.Counted) : (s.endRun n k).Counted := by
  have g := grants_giveBack (n := n) h.1
  exact counted_verdict _ (by rw [g.out n rfl]; exact hr) ((samePlays_giveBack n h.1).counted c)

theorem counted_expire {s : State} {n : Nest} (h : Sound s) (c : s.Counted) : (s.expire n).Counted := by
  unfold State.expire
  split
  · rename_i hc; exact counted_endRun _ h hc.1 c
  · exact c

theorem counted_endForLink {s : State} {n : Nest} (h : Sound s) (c : s.Counted) : (State.endForLink n s).Counted := by
  unfold State.endForLink
  split
  · rename_i hr; exact counted_endRun _ h hr c
  · exact c

theorem endsPlay_abortRunning {s : State} {n : Nest} : EndsPlay n (s.giveBack n) (s.abortRunning n) := by
  unfold State.abortRunning
  dsimp only
  set a := s.giveBack n
  set b := a.modNest n (fun q => { q with deadlineRunning := false })
  obtain ⟨l1, -, -, -⟩ := lowerUse_rest b n
  set c := (b.lowerUse n).setDetector n .stopped
  obtain ⟨r1, -⟩ := recordAborted_rest c n
  have hc : ∀ m, m ≠ n → (c.recordAborted n).nest m = a.nest m := fun m hm => by
    have : (c.recordAborted n).nest m = b.nest m := by
      unfold State.nest; rw [r1]; show PerNest.get (b.lowerUse n).nests m = _; rw [l1]
    rw [this]; exact State.nest_modNest_ne _ hm _
  refine ⟨?_, fun m hm => ?_, State.plays_resting ?_⟩
  · show (c.recordAborted n).recipe.useCount = _
    rw [recordAborted_recipe]
    refine (lowerUse_useCount b n).trans ?_
    rw [State.nest_modNest]
    rfl
  · unfold State.plays; rw [emptyNest_nest, if_neg hm, hc m hm]
  · rw [emptyNest_nest, if_pos rfl]; rfl

theorem counted_abortRunning {s : State} {n : Nest} (h : Sound s) (hr : (s.nest n).state.running = true)
    (c : s.Counted) : (s.abortRunning n).Counted :=
  endsPlay_abortRunning.counted (by rw [(grants_giveBack (n := n) h.1).out n rfl]; exact hr)
    ((samePlays_giveBack n h.1).counted c)

theorem counted_abortIfRunning {s : State} {n : Nest} (h : Sound s) (c : s.Counted) :
    (State.abortIfRunning n s).Counted := by
  unfold State.abortIfRunning
  split
  · rename_i hr; exact counted_abortRunning h hr c
  · exact c

/-- What keeps a sound state sound and its use counts right does so for the four nests in turn. -/
theorem counted_inNestOrder {f : Nest → State → State} (hs : ∀ n s, Sound s → Sound (f n s))
    (hc : ∀ n s, Sound s → s.Counted → (f n s).Counted) {s : State} (h : Sound s) (c : s.Counted) :
    (inNestOrder f s).Counted := by
  have h1 := hs .n1 s h
  have h2 := hs .n2 _ h1
  have h3 := hs .n3 _ h2
  exact hc .n4 _ h3 (hc .n3 _ h2 (hc .n2 _ h1 (hc .n1 s h c)))

theorem counted_stopAll {s : State} (h : Sound s) (c : s.Counted) : s.stopAll.Counted :=
  counted_inNestOrder (fun _ _ h => abortIfRunning_ok h) (fun _ _ h c => counted_abortIfRunning h c) h c

theorem samePlays_emptyNest {s : State} {n : Nest} (h : (s.nest n).state.running = false) :
    SamePlays s (s.emptyNest n) :=
  SamePlays.after (t := s.modNest n Sequencer.emptied) (.of_eq rfl rfl) (samePlays_rest s n _ h rfl)

theorem samePlays_discardJudged {s : State} {n : Nest} (b : Bool) (h : (s.nest n).state.running = false) :
    SamePlays s (s.discardJudged n b) := by
  unfold State.discardJudged
  split
  · exact .refl s
  · rename_i id _
    exact (samePlays_emptyNest (s := s.discard id b) h).after (.of_eq rfl rfl)

theorem counted_restartNest {s : State} {n : Nest} (h : Sound s) (c : s.Counted) : (State.restartNest n s).Counted := by
  have key : ∀ t : State, (t.nest n).state.running = false → t.Counted →
      ((t.setNest n .reset).modTone n Tone.silence).Counted := fun t ht hc =>
    (SamePlays.after (.of_eq rfl rfl) (samePlays_rest t n (fun _ => .reset) ht rfl)).counted hc
  unfold State.restartNest
  dsimp only
  split
  · rename_i hr
    exact key _ (by rw [abortRunning_state]; rfl) (counted_abortRunning h hr c)
  · rename_i hr
    have hn : (s.nest n).state.running = false := by simpa using hr
    split
    · refine key _ ?_ ((samePlays_discardJudged true hn).counted c)
      unfold State.discardJudged
      split
      · exact hn
      · rw [emptyNest_nest, if_pos rfl]; rfl
    · split
      · exact key _ hn c
      · exact key _ hn c

theorem samePlays_foldl {β : Type} (f : State → β → State) (h : ∀ s b, SamePlays s (f s b)) (xs : List β) (s : State) :
    SamePlays s (xs.foldl f s) := by
  induction xs generalizing s with
  | nil => exact .refl s
  | cons x xs ih => exact (ih (f s x)).after (h s x)

theorem samePlays_restartMarking (s : State) : SamePlays s s.restartMarking := by
  have h : SamePlays s s.discardLabels := by
    unfold State.discardLabels
    exact samePlays_foldl (fun (st : State) (id : Nat) => st.discard id true) (fun _ _ => .of_eq rfl rfl) _ s
  unfold State.restartMarking
  exact SamePlays.after (t := s.discardLabels) (.of_eq rfl rfl) h

theorem counted_restart {s : State} (h : Sound s) (c : s.Counted) : s.restart.Counted := by
  have c4 := counted_inNestOrder (f := State.restartNest) (fun _ _ h => restartNest_ok h)
    (fun _ _ h c => counted_restartNest h c) h c
  exact SamePlays.counted (.of_eq rfl rfl) ((samePlays_restartMarking _).counted c4)

/-! ### A run that begins -/

/-- A nest that did not run now plays program `p`, and that program's count is raised. -/
structure StartsPlay (n : Nest) (p : Nat) (s t : State) : Prop where
  uses : t.recipe.useCount = s.recipe.useCount.set p (s.recipe.uses p + 1)
  others : ∀ m, m ≠ n → t.plays m = s.plays m
  started : t.plays n = some p

theorem StartsPlay.counted {n : Nest} {p : Nat} {s t : State} (h : StartsPlay n p s t)
    (hr : (s.nest n).state.running = false) (hp : p ≤ 7) (c : s.Counted) : t.Counted := by
  obtain ⟨hl, hu⟩ := c
  have change := State.playing_change h.others
  simp only [h.started, State.plays_resting hr] at change
  refine ⟨by rw [h.uses, List.length_set, hl], fun q => ?_⟩
  have eu : t.recipe.uses q = if q = p then s.recipe.uses p + 1 else s.recipe.uses q := by
    unfold Recipe.uses
    rw [h.uses]
    exact Recipe.getD_set _ _ _ _ (by omega)
  have c := change q
  have cq := hu q
  rw [if_neg (by simp)] at c
  rw [eu]
  by_cases hq : q = p
  · subst hq
    rw [if_pos rfl] at c
    rw [if_pos rfl]; omega
  · rw [if_neg (fun h => hq (Option.some.inj h).symm)] at c
    rw [if_neg hq]; omega

theorem openFirstGap_others (s : State) {n m : Nest} (hm : m ≠ n) : (s.openFirstGap n).nest m = s.nest m := by
  unfold State.openFirstGap
  dsimp only
  split
  · exact loadStep_nest_ne s hm
  · rw [openGap_nest_ne _ hm, loadStep_nest_ne s hm]

theorem samePrograms_openFirstGap (s : State) (n : Nest) : SamePrograms s (s.openFirstGap n) := by
  unfold State.openFirstGap
  dsimp only
  split
  · exact samePrograms_loadStep s n
  · exact (samePrograms_openGap _ n _).after (samePrograms_loadStep s n)

theorem openFirstGap_state {s : State} {n : Nest} {f : ProgramFields} (h : s.programFields n = some f) :
    ((s.openFirstGap n).nest n).state = .gap := by
  have hst : ((s.loadStep n).nest n).step = some (s.recipe.stepOf f (s.nest n).stepIndex).1 := by
    unfold State.loadStep
    rw [h]
    exact congrArg Sequencer.step (State.nest_modNest s n _)
  unfold State.openFirstGap
  dsimp only
  split
  · rename_i hn; rw [hst] at hn; cases hn
  · exact openGap_nest _ n _

theorem startsPlay_seat {s : State} {n : Nest} {id p : Nat} {c : Word} {f : ProgramFields}
    (hf : (s.recipe.entry p).fields = some f) : StartsPlay n p s (s.seat n id c p f) := by
  unfold State.seat
  dsimp only
  set s1 := s.setRecord id (.opened n c p s.link.frameIndex)
  set s2 : State := { s1 with recipe := { s1.recipe with useCount := s1.recipe.useCount.set p (s1.recipe.uses p + 1) } }
  set s3 := s2.modNest n (fun q => q.seat id p f)
  have seated : s3.nest n = (s.nest n).seat id p f := State.nest_modNest s2 n _
  have prog : s3.programFields n = some f := by
    unfold State.programFields; rw [seated]; exact hf
  have same := samePrograms_openFirstGap s3 n
  refine ⟨same.uses, fun m hm => ?_, ?_⟩
  · unfold State.plays
    rw [openFirstGap_others s3 hm, show s3.nest m = s.nest m from State.nest_modNest_ne s2 hm _]
  · rw [State.plays_running (by rw [openFirstGap_state prog]; rfl), same.program n, seated]
    rfl

theorem arriveCheck_program {bs : List Byte} {s : State} {n : Nest} (h : arriveCheck bs s = .ok n) :
    fieldAt bs 5 1 ≤ 7 := by
  unfold arriveCheck at h
  dsimp only at h
  split at h
  · cases h
  · split_ifs at h with hp
    omega

theorem counted_actArrive {s : State} (bs : List Byte) (c : s.Counted) : (actArrive bs s).1.Counted := by
  unfold actArrive
  dsimp only
  split
  · exact c
  · rename_i n hn
    split
    · rename_i id f _ hf
      exact (startsPlay_seat hf).counted (by rw [arriveCheck_idle hn]; rfl) (arriveCheck_program hn) c
    · exact c

end Sys2Proof.Machine
end

section
/-! The use counts over the label path, the guard, one frame and the loss of the link (for SoundStatesStepOn). -/

namespace Sys2Proof.Machine

variable (s : State)

/-! ### The label path -/

theorem samePlays_spend : SamePlays s s.spend := .of_eq rfl rfl

theorem samePlays_setSlot (i : SlotId) (x : Slot) : SamePlays s (s.setSlot i x) := .of_eq rfl rfl

theorem samePlays_fillSlots (fuel : Nat) : SamePlays s (s.fillSlots fuel) := by
  induction fuel generalizing s with
  | zero => exact .refl s
  | succ fuel ih =>
    unfold State.fillSlots
    split
    · exact (ih _).after (.of_eq rfl rfl)
    · exact .refl s

theorem samePlays_fillCheck : SamePlays s s.fillCheck := samePlays_fillSlots s 2

theorem samePlays_retire (id : Nat) (o : LabelOutcome) : SamePlays s (s.retire id o) := .of_eq rfl rfl

theorem samePlays_enqueueLabel (id : Nat) : SamePlays s (s.enqueueLabel id) :=
  (samePlays_fillCheck _).after (.of_eq rfl rfl)

theorem samePlays_retireSlot (i : SlotId) (o : LabelOutcome) : SamePlays s (s.retireSlot i o) := by
  unfold State.retireSlot
  dsimp only
  split
  · exact (samePlays_fillCheck _).after ((samePlays_setSlot _ i .free).after (samePlays_retire s _ o))
  · exact (samePlays_fillCheck _).after (samePlays_setSlot s i .free)

theorem samePlays_ackExpired (i : SlotId) : SamePlays s (s.ackExpired i) := by
  unfold State.ackExpired
  split
  · exact samePlays_retireSlot s i _
  · exact .refl s

theorem samePlays_ackFrame (i : SlotId) : SamePlays s (s.ackFrame i) :=
  (samePlays_ackExpired _ i).after (.of_eq rfl rfl)

theorem samePlays_ackFrames : SamePlays s s.ackFrames := by
  unfold State.ackFrames
  split <;> exact (samePlays_ackFrame _ _).after (samePlays_ackFrame s _)

theorem samePlays_completeReply (b : Bool) (i : SlotId) : SamePlays s (s.completeReply b i) := by
  unfold State.completeReply
  split
  · exact samePlays_retireSlot s i _
  · exact .of_eq rfl rfl

theorem samePlays_assembleReply (c : Byte) : SamePlays s (s.assembleReply c) := by
  unfold State.assembleReply
  split
  · split
    · exact .of_eq rfl rfl
    · split <;> exact .of_eq rfl rfl
  · split
    · exact .of_eq rfl rfl
    · split <;> exact .of_eq rfl rfl
  · split
    · exact (samePlays_completeReply _ _ _).after (.of_eq rfl rfl)
    · split
      · exact .of_eq rfl rfl
      · split <;> exact .of_eq rfl rfl

theorem samePlays_releaseUnit {n : Nest} (id : Nat) (label : Bool) (h : (s.nest n).state.running = false) :
    SamePlays s (s.releaseUnit n id label) := by
  unfold State.releaseUnit
  split
  · have k := samePlays_enqueueLabel s id
    have hn : (s.enqueueLabel id).nest n = s.nest n := by
      unfold State.enqueueLabel State.nest; dsimp only; rw [fillCheck_nests]; rfl
    exact (samePlays_emptyNest (by rw [hn]; exact h)).after k
  · exact (samePlays_emptyNest (s := s.retire id .notLabelled) h).after (samePlays_retire s id _)

/-! ### The guard -/

theorem samePlays_enterWindows {ns : List Nest} (h : ∀ n ∈ ns, (s.nest n).state.running = true) :
    SamePlays s (ns.foldl State.enterWindow s) := by
  induction ns generalizing s with
  | nil => exact .refl s
  | cons n ns ih =>
    have hn := h n List.mem_cons_self
    have keep : ∀ m, (s.nest m).state.running = true → ((s.enterWindow n).nest m).state.running = true := by
      intro m hm
      rw [enterWindow_nest]
      split
      · rfl
      · exact hm
    have first : SamePlays s (s.enterWindow n) :=
      (acts_enterWindow s n).samePlays (samePrograms_enterWindow s n) (by rw [keep n hn, hn])
    exact (ih _ (fun m hm => keep m (h m (List.mem_cons_of_mem _ hm)))).after first

theorem samePlays_becomeQuiet (c : GuardCauses) : SamePlays s (s.becomeQuiet c) := by
  unfold State.becomeQuiet
  dsimp only
  set s1 : State := { s with guard := { s.guard.clearHold with loud := false, holdDue := false } }
  have waiting : ∀ n ∈ s1.freeOrder s1.waitingForQuiet, (s1.nest n).state.running = true := fun n hn => by
    rw [mem_waitingForQuiet.1 hn]; rfl
  exact SamePlays.after (t := (s1.freeOrder s1.waitingForQuiet).foldl State.enterWindow s1) (.of_eq rfl rfl)
    ((samePlays_enterWindows s1 waiting).after (.of_eq rfl rfl))

theorem samePlays_guardHoldEnd : SamePlays s s.guardHoldEnd := by
  unfold State.guardHoldEnd
  split
  · exact samePlays_becomeQuiet s _
  · exact .refl s

theorem samePlays_setGuard (x : GuardSettings) : SamePlays s (s.setGuard x) := by
  unfold State.setGuard
  dsimp only
  split
  · exact .of_eq rfl rfl
  · split
    · exact (samePlays_spend _).after
        ((samePlays_becomeQuiet { s with guard := s.guard.withSettings x } _).after (.of_eq rfl rfl))
    · split <;> exact .of_eq rfl rfl

theorem samePlays_entryAt {t : Turn} (n : Nest) (h : TurnOk t) : SamePlays t.state (t.entryAt n).state := by
  unfold Turn.entryAt
  dsimp only
  split
  · exact .refl _
  · split
    · exact .refl _
    · split
      · rename_i hs
        split
        · exact (backToGuardWait_ok h.sound.1 (by rw [hs]; decide)).samePlays (samePrograms_backToGuardWait _ n)
            (by rw [hs]; rfl)
        · exact (spoil_ok _ h.sound.1 (by rw [hs]; rfl)).samePlays (samePrograms_spoil _ n _) (by rw [hs]; rfl)
      · rename_i hs
        split
        · exact (spoil_ok _ h.sound.1 (by rw [hs]; rfl)).samePlays (samePrograms_spoil _ n _) (by rw [hs]; rfl)
        · exact .refl _
      · exact .refl _

theorem samePlays_entries {t : Turn} (ns : List Nest) (h : TurnOk t) :
    SamePlays t.state (ns.foldl Turn.entryAt t).state := by
  induction ns generalizing t with
  | nil => exact .refl _
  | cons n ns ih => exact (ih (entryAt_ok n h)).after (samePlays_entryAt n h)

theorem samePlays_enterLoud {t : Turn} (c : GuardCauses) (l : Option Int) (h : TurnOk t) :
    SamePlays t.state (t.enterLoud c l).state := by
  unfold Turn.enterLoud
  dsimp only
  have h1 := h.same (s := { t.state with guard := { t.state.guard.clearHold with
    loud := true, loudEntries := count t.state.guard.loudEntries 1 } }) rfl rfl rfl rfl
  exact (samePlays_entries _ (t := { t with
    state := { t.state with guard := { t.state.guard.clearHold with loud := true, loudEntries := count t.state.guard.loudEntries 1 } }
    entered := true
    notice := some (.guard true t.state.link.frameIndex c (if c.block then l else none) (count t.state.guard.loudEntries 1)) })
    ⟨h1.sound, h1.ended, h1.before⟩).after (.of_eq rfl rfl)

theorem samePlays_judgeGuard {t : Turn} (l : Option Int) (h : TurnOk t) : SamePlays t.state (t.judgeGuard l).state := by
  unfold Turn.judgeGuard
  dsimp only
  split
  · exact .refl _
  · split
    · split
      · exact .of_eq rfl rfl
      · exact samePlays_enterLoud _ _ h
    · split
      · exact (samePlays_guardHoldEnd { t.state with guard := t.state.guard.holdFrame _ l }).after (.of_eq rfl rfl)
      · exact .refl _

theorem samePlays_guardBlockEnd {t : Turn} (h : TurnOk t) : SamePlays t.state t.guardBlockEnd.state := by
  unfold Turn.guardBlockEnd
  dsimp only
  have h1 := h.same (s := { t.state with guard := { t.state.guard with
    position := 0, sum := 0, lastLevel := some (blockLevel t.state.guard.sum) } }) rfl rfl rfl rfl
  exact (samePlays_judgeGuard _ h1).after (.of_eq rfl rfl)

theorem samePlays_guardFrame {t : Turn} (h : TurnOk t) : SamePlays t.state t.guardFrame.state := by
  have h1 := h.same (s := { t.state with guard := t.state.guard.take (t.state.link.current.samples.getD 4 0) })
    rfl rfl rfl rfl
  unfold Turn.guardFrame
  dsimp only
  split
  · exact (samePlays_guardBlockEnd h1).after (.of_eq rfl rfl)
  · exact (samePlays_judgeGuard _ h1).after (.of_eq rfl rfl)

/-! ### One nest takes the frame -/

/-- A nest that counts a frame in the state it began the turn in runs an operation that keeps the programs. -/
theorem samePlays_count {t : Turn} {n : Nest} (f : ToneFrame) (h : PoolBut none t.state)
    (hb : (t.before.get n).counts = true → (t.state.nest n).state = t.before.get n) :
    SamePlays t.state (t.count n f).state := by
  have now : ∀ q : NestState, t.before.get n = q → q.counts = true → (t.state.nest n).state = q := fun q hq hc =>
    (hb (by rw [hq]; exact hc)).trans hq
  have running : ∀ q : NestState, (t.state.nest n).state = q → q.running = true →
      (t.state.nest n).state.running = true := fun q hq hr => by rw [hq]; exact hr
  unfold Turn.count
  split
  · rename_i hq
    have e := now _ hq rfl
    exact (gapFrame_ok h e).samePlays (samePrograms_gapFrame _ n) (running _ e rfl)
  · rename_i hq
    have e := now _ hq rfl
    exact (settleFrame_ok h e).samePlays (samePrograms_settleFrame _ n) (running _ e rfl)
  · rename_i hq
    have e := now _ hq rfl
    exact (conditionFrame_ok _ h e).samePlays (samePrograms_conditionFrame _ n _) (running _ e rfl)
  · rename_i hq
    have e := now _ hq rfl
    exact (windowFrame_ok _ _ _ h e).samePlays (samePrograms_windowFrame _ n _ _ _) (running _ e rfl)
  · rename_i hq
    have e := now _ hq rfl
    exact (evaluateFrame_ok h e).samePlays (samePrograms_evaluateFrame _ n) (running _ e rfl)
  all_goals exact .refl _

theorem deadlineFrame_state (q : Sequencer) : q.deadlineFrame.state = q.state := by
  unfold Sequencer.deadlineFrame; split <;> rfl

theorem deadlineFrame_program (q : Sequencer) : q.deadlineFrame.program = q.program := by
  unfold Sequencer.deadlineFrame; split <;> rfl

theorem samePlays_nestFrame {t : Turn} {n : Nest} (f : ToneFrame) (h : TurnOk t) (hu : t.taken.get n = false) :
    SamePlays t.state (t.nestFrame n f).state := by
  set t1 : Turn := { t with state := t.state.modNest n Sequencer.deadlineFrame, taken := t.taken.set n true }
  have e1 : ∀ m, (t1.state.nest m).state = (t.state.nest m).state := by
    intro m
    by_cases hm : m = n
    · subst hm
      exact (congrArg Sequencer.state (State.nest_modNest _ m _)).trans (deadlineFrame_state _)
    · exact congrArg Sequencer.state (State.nest_modNest_ne _ hm _)
  have first : SamePlays t.state t1.state :=
    samePlays_modNest _ n _ (by rw [deadlineFrame_state]) (deadlineFrame_program _)
  have pool : PoolBut none t1.state := h.sound.1.congr rfl (fun _ => rfl) (fun m _ => e1 m)
  have now : (t.before.get n).counts = true → (t1.state.nest n).state = t.before.get n := fun hc =>
    (e1 n).trans (h.before n hu hc).1
  unfold Turn.nestFrame
  dsimp only
  split
  · rename_i hx
    have hb : t.before.get n = .evaluate := hx.1
    have e := (now (by rw [hb]; rfl)).trans hb
    exact ((timeOut_ok pool (by rw [e]; rfl)).samePlays (samePrograms_timeOut _ n) (by rw [e]; rfl)).after first
  · exact (samePlays_count (t := t1) f pool now).after first

theorem samePlays_consumers {t : Turn} (f : PerNest ToneFrame) (cs : List Consumer) (h : TurnOk t) (hd : cs.Nodup)
    (hu : ∀ n, Consumer.nest n ∈ cs → t.taken.get n = false) : SamePlays t.state (cs.foldl (Turn.consume f) t).state := by
  induction cs generalizing t with
  | nil => exact .refl _
  | cons c cs ih =>
    rw [List.nodup_cons] at hd
    cases c with
    | guard =>
      obtain ⟨h1, h2⟩ := guardFrame_ok h
      refine (ih h1 hd.2 (fun n hn => ?_)).after (samePlays_guardFrame h)
      show t.guardFrame.taken.get n = false
      rw [h2]; exact hu n (List.mem_cons_of_mem _ hn)
    | nest m =>
      have hm := hu m List.mem_cons_self
      obtain ⟨h1, h2⟩ := nestFrame_ok (f.get m) h hm
      refine (ih h1 hd.2 (fun n hn => ?_)).after (samePlays_nestFrame (f.get m) h hm)
      show (t.nestFrame m (f.get m)).taken.get n = false
      have hnm : n ≠ m := by rintro rfl; exact hd.1 hn
      rw [h2, PerNest.get_set_ne _ hnm]; exact hu n (List.mem_cons_of_mem _ hn)

/-! ### The end of a turn -/

variable {s}

theorem counted_judge {t : Turn} {n : Nest} (h : Sound s) (he : t.endings.get n ≠ none → s.spent n) (c : s.Counted) :
    (t.judge n s).Counted := by
  unfold Turn.judge
  split
  · rename_i e hh
    have spent := he (by rw [hh]; simp)
    exact counted_verdict e (counts_running spent.2) c
  · exact counted_expire h c

theorem counted_finish {t : Turn} (h : TurnOk t) (c : t.state.Counted) : t.finish.Counted := by
  have h1 := judge_ok (t := t) .n1 h.sound (h.ended .n1)
  have e2 := fun he => h1.2 .n2 (by decide) (h.ended .n2 he)
  have h2 := judge_ok (t := t) .n2 h1.1 e2
  have e3 := fun he => h2.2 .n3 (by decide) (h1.2 .n3 (by decide) (h.ended .n3 he))
  have h3 := judge_ok (t := t) .n3 h2.1 e3
  have e4 := fun he => h3.2 .n4 (by decide) (h2.2 .n4 (by decide) (h1.2 .n4 (by decide) (h.ended .n4 he)))
  have c4 : (inNestOrder (fun n s => t.judge n s) t.state).Counted :=
    counted_judge h3.1 e4 (counted_judge h2.1 e3 (counted_judge h1.1 e2 (counted_judge h.sound (h.ended .n1) c)))
  unfold Turn.finish
  dsimp only
  split
  · exact c4
  · exact SamePlays.counted (.of_eq rfl rfl) c4

theorem counted_consumeFrame (f : PerNest ToneFrame) (h : Sound s) (c : s.Counted) : (s.consumeFrame f).Counted := by
  have ready : ∀ n, Consumer.nest n ∈ s.consumers → (Turn.start s false).taken.get n = false := by
    intro n _; cases n <;> rfl
  exact counted_finish (consumers_ok f _ (start_ok false h) (consumers_nodup s) ready)
    ((samePlays_consumers f _ (start_ok false h) (consumers_nodup s) ready).counted c)

/-! ### What keeps a sound state sound keeps its use counts right -/

/-- From a sound state to a sound state, and right use counts stay right. -/
def Kept (s t : State) : Prop := Sound s → Sound t ∧ (s.Counted → t.Counted)

theorem Kept.refl (s : State) : Kept s s := fun h => ⟨h, id⟩

theorem Kept.trans {s t u : State} (h : Kept s t) (k : Kept t u) : Kept s u := fun hs => by
  obtain ⟨h1, c1⟩ := h hs
  obtain ⟨h2, c2⟩ := k h1
  exact ⟨h2, c2 ∘ c1⟩

theorem Kept.after {s t u : State} (k : Kept t u) (h : Kept s t) : Kept s u := h.trans k

/-- A change of nothing that either speaks of. -/
theorem Kept.same {s t : State} (hn : t.nests = s.nests) (ha : t.analyser = s.analyser) (hr : t.records = s.records)
    (hm : t.marking = s.marking) (hu : t.recipe.useCount = s.recipe.useCount) : Kept s t := fun h =>
  ⟨h.same hn ha hr hm, (SamePlays.of_eq hu hn).counted⟩

theorem Kept.plays {s t : State} (h : Sound s → Sound t) (p : SamePlays s t) : Kept s t := fun hs => ⟨h hs, p.counted⟩

theorem RunOk.kept {n : Nest} {r : State × Option Ending} (h : Sound s → RunOk n s r) (p : SamePrograms s r.1)
    (hr : (s.nest n).state.running = true) : Kept s (State.withVerdict n r) := fun hs =>
  ⟨(h hs).withVerdict hs.2 hr, (h hs).counted p hr⟩

variable (s)

theorem kept_spend : Kept s s.spend := .same rfl rfl rfl rfl rfl

theorem kept_ackFrames : Kept s s.ackFrames := .plays ackFrames_ok (samePlays_ackFrames s)

theorem kept_consumeWithAcks (c : State → State) (h : ∀ s, Kept s (c s)) : Kept s (s.consumeWithAcks c) := by
  unfold State.consumeWithAcks
  split
  · exact (h _).after (kept_ackFrames s)
  · exact (kept_ackFrames _).after (h s)

theorem kept_consumeFrame (f : PerNest ToneFrame) : Kept s (s.consumeFrame f) := fun h =>
  ⟨consumeFrame_ok f h, counted_consumeFrame f h⟩

theorem kept_frameUp : Kept s s.frameUp := by
  unfold State.frameUp
  dsimp only
  refine (kept_spend _).after ((kept_consumeWithAcks _ _ fun s => kept_consumeFrame s _).after ?_)
  refine Kept.same ?_ ?_ ?_ ?_ ?_ <;> rfl

theorem kept_guardTurn : Kept s ((Turn.start s true).guardFrame).finish := fun h => by
  have start := start_ok true h
  exact ⟨finish_ok (guardFrame_ok start).1,
    fun c => counted_finish (guardFrame_ok start).1 ((samePlays_guardFrame start).counted c)⟩

theorem kept_guardBlockEnd : Kept s ((Turn.start s true).guardBlockEnd).finish := fun h => by
  have start := start_ok true h
  exact ⟨finish_ok (guardBlockEnd_ok start).1,
    fun c => counted_finish (guardBlockEnd_ok start).1 ((samePlays_guardBlockEnd start).counted c)⟩

theorem kept_frameAcquiring : Kept s s.frameAcquiring := by
  unfold State.frameAcquiring
  refine (kept_spend _).after ((kept_consumeWithAcks _ _ kept_guardTurn).after ?_)
  refine Kept.same ?_ ?_ ?_ ?_ ?_ <;> rfl

/-- The nests that complete between two frames keep what the others of them are in. -/
theorem kept_completeFree {n : Nest} (hn : (s.nest n).state = .evaluate) : Kept s (s.completeFree n) := by
  unfold State.completeFree
  split
  · exact RunOk.kept (fun h => completeEvaluation_ok h.1 (by rw [hn]; rfl)) (samePrograms_completeEvaluation s n)
      (by rw [hn]; rfl)
  · exact .refl s

variable {s}

theorem completeFree_others {n m : Nest} (h : Sound s) (hn : (s.nest n).state = .evaluate) (hm : m ≠ n)
    (hs : (s.nest m).state = .evaluate) : ((s.completeFree n).nest m).state = .evaluate := by
  unfold State.completeFree
  split
  · have r := completeEvaluation_ok (n := n) h.1 (by rw [hn]; rfl)
    have e := (r.acts.others m hm).same (by rw [hs]; decide)
    unfold State.withVerdict State.deliver
    split
    · rw [e]; exact hs
    · rw [(judges_verdict _ n _).others m hm, e]; exact hs
  · exact hs

theorem kept_completions {ns : List Nest} (hd : ns.Nodup) (he : ∀ n ∈ ns, (s.nest n).state = .evaluate) :
    Kept s (ns.foldl State.completeFree s) := by
  induction ns generalizing s with
  | nil => exact .refl s
  | cons n ns ih =>
    rw [List.nodup_cons] at hd
    have hn := he n List.mem_cons_self
    intro h
    have others : ∀ m ∈ ns, ((s.completeFree n).nest m).state = .evaluate := fun m hm =>
      completeFree_others h hn (by rintro rfl; exact hd.1 hm) (he m (List.mem_cons_of_mem _ hm))
    exact (ih hd.2 others).after (kept_completeFree s hn) h

variable (s)

theorem kept_betweenFrames : Kept s s.betweenFrames := by
  unfold State.betweenFrames
  refine (kept_spend _).after (kept_completions
    ((permute_perm _ _).nodup_iff.2 (List.Nodup.filter _ (by decide))) (fun n hn => ?_))
  have hn' := (permute_perm _ _).mem_iff.1 hn
  unfold State.evaluatingNests at hn'
  rw [List.mem_filter, decide_eq_true_eq] at hn'
  exact hn'.2

/-! ### The link -/

theorem kept_withLink (l : Link) : Kept s (s.withLink l) := .same rfl rfl rfl rfl rfl

theorem kept_substitutes (d : Nat) : Kept s (State.substitutes d s) := by
  induction d generalizing s with
  | zero => exact .refl s
  | succ d ih =>
    exact (ih _).after ((kept_betweenFrames _).after ((kept_frameUp _).after (kept_withLink s s.link.produceSubstitute)))

theorem kept_endForLink (n : Nest) : Kept s (State.endForLink n s) := fun h => ⟨endForLink_ok h, counted_endForLink h⟩

theorem kept_inNestOrder {f : Nest → State → State} (h : ∀ n s, Kept s (f n s)) : Kept s (inNestOrder f s) :=
  (h .n4 _).after ((h .n3 _).after ((h .n2 _).after (h .n1 s)))

theorem kept_linkNotice : Kept s s.linkNotice := .same rfl rfl rfl rfl rfl

theorem kept_linkLoss : Kept s s.linkLoss := by
  unfold State.linkLoss
  dsimp only
  refine (kept_linkNotice _).after ((kept_inNestOrder _ fun n s => kept_endForLink s n).after ?_)
  refine Kept.same ?_ ?_ ?_ ?_ ?_ <;> rfl

theorem kept_badRunLimit : Kept s s.badRunLimit := by
  unfold State.badRunLimit
  split
  · exact kept_linkLoss s
  · exact .refl s

theorem kept_acquisitionEnd : Kept s s.acquisitionEnd := by
  unfold State.acquisitionEnd
  split
  · exact (kept_linkNotice _).after (kept_withLink s _)
  · exact .refl s

theorem kept_arriveDown (f : Option UpstreamFrame) : Kept s (s.arriveDown f) := by
  unfold State.arriveDown
  split
  · exact .refl s
  · exact (kept_frameAcquiring _).after (kept_withLink s _)

theorem kept_arriveAcquiring (f : Option UpstreamFrame) : Kept s (s.arriveAcquiring f) := by
  unfold State.arriveAcquiring
  split
  · exact .same rfl rfl rfl rfl rfl
  · split
    · exact (kept_acquisitionEnd _).after ((kept_frameAcquiring _).after (kept_withLink s _))
    · exact kept_withLink s _

theorem kept_arriveUp (f : Option UpstreamFrame) : Kept s (s.arriveUp f) := by
  unfold State.arriveUp
  split
  · dsimp only
    split
    · exact (kept_frameUp _).after (kept_withLink s _)
    · exact (kept_badRunLimit _).after (kept_withLink s _)
  · dsimp only
    split
    · exact kept_linkLoss s
    · exact (kept_frameUp _).after ((kept_withLink _ _).after ((kept_substitutes _ _).after (kept_withLink s _)))

end Sys2Proof.Machine
end

section
/-! Every command and event: the state stays sound and the use counts right (O59). -/

namespace Sys2Proof.Machine

variable (s : State)

/-! ### A command taken -/

theorem kept_answer (cell : CommandCell) (a : Answer) : Kept s (s.answer cell a) := by
  unfold State.answer
  split
  · exact .same rfl rfl rfl rfl rfl
  · exact .same rfl rfl rfl rfl rfl
  · exact .refl s

/-- A command whose own rule keeps what is to be kept. -/
theorem kept_takeCommand {code : Byte} {fits : List Byte → Bool} {act : List Byte → State → State × Answer}
    (h : ∀ bs t, Kept t (act bs t).1) : Kept s (takeCommand code fits act s) := by
  have pop : Kept s s.popCommand := .same rfl rfl rfl rfl rfl
  exact takeCommand_keeps (Kept s) (.refl s) (fun cell _ _ => (kept_answer _ cell _).after pop)
    (fun cell _ => (kept_answer _ cell _).after ((h _ _).after pop))

/-! ### The recipe and the settings -/

theorem kept_setEntry (e : Nat) (d : DirEntry) : Kept s (s.setEntry e d) := .same rfl rfl rfl rfl rfl

theorem kept_actWriteRows (bs : List Byte) : Kept s (actWriteRows bs s).1 := by
  unfold actWriteRows
  dsimp only
  split
  · exact .refl s
  · split
    · exact .refl s
    · exact .same rfl rfl rfl rfl rfl

theorem kept_actReadRows (bs : List Byte) : Kept s (actReadRows bs s).1 := by
  unfold actReadRows
  dsimp only
  split <;> exact .refl s

theorem kept_actWriteDirectory (bs : List Byte) : Kept s (actWriteDirectory bs s).1 := by
  unfold actWriteDirectory
  dsimp only
  split
  · exact .refl s
  · split
    · exact .refl s
    · split
      · exact kept_setEntry s _ _
      · split
        · exact .refl s
        · exact kept_setEntry s _ _

theorem kept_actReadDirectory (bs : List Byte) : Kept s (actReadDirectory bs s).1 := by
  unfold actReadDirectory
  dsimp only
  split <;> exact .refl s

theorem kept_actActivate (bs : List Byte) : Kept s (actActivate bs s).1 := by
  unfold actActivate
  dsimp only
  split
  · exact .refl s
  · split
    · exact .refl s
    · exact .refl s
    · split
      · exact .refl s
      · exact kept_setEntry s _ _

theorem kept_actDeactivate (bs : List Byte) : Kept s (actDeactivate bs s).1 := by
  unfold actDeactivate
  dsimp only
  split
  · exact .refl s
  · split
    · exact .refl s
    · split <;> exact .refl s
    · split
      · exact .refl s
      · exact kept_setEntry s _ _

theorem kept_actWriteBins (bs : List Byte) : Kept s (actWriteBins bs s).1 := by
  unfold actWriteBins
  dsimp only
  split
  · exact .refl s
  · split
    · exact .refl s
    · split
      · exact .refl s
      · exact .same rfl rfl rfl rfl rfl

theorem kept_calibration (c : PerNest Int) : Kept s { s with analyser := { s.analyser with calibration := c } } :=
  .plays (fun h => ⟨h.1.congr rfl (fun _ => rfl) (fun _ _ => rfl),
    h.2.labels (fun _ => rfl) rfl (.refl _) h.2.tidy (fun _ => Iff.rfl)⟩) (.of_eq rfl rfl)

theorem kept_actSetCalibration (bs : List Byte) : Kept s (actSetCalibration bs s).1 := by
  unfold actSetCalibration
  dsimp only
  split
  · exact .refl s
  · split
    · exact .refl s
    · exact kept_calibration s _

theorem kept_actSetGuard (bs : List Byte) : Kept s (actSetGuard bs s).1 := by
  unfold actSetGuard
  split
  · exact .refl s
  · exact .plays (setGuard_ok _) (samePlays_setGuard s _)

theorem kept_actReadUnit (bs : List Byte) : Kept s (actReadUnit bs s).1 := by
  unfold actReadUnit
  dsimp only
  split
  · exact .refl s
  · split <;> exact .refl s

/-! ### Marking and yield -/

/-- A change of the label path's settings, counters or transmitter. -/
theorem kept_marking (m : Marking) (hq : m.queue = s.marking.queue) (ha : m.slotA = s.marking.slotA)
    (hb : m.slotB = s.marking.slotB) : Kept s { s with marking := m } := by
  have slots : ∀ i, m.slot i = s.marking.slot i := by
    intro i
    cases i
    · exact ha
    · exact hb
  exact .plays (fun h => h.marking hq (fun i => by rw [slots]) (fun i => by rw [slots]; exact id)) (.of_eq rfl rfl)

theorem kept_actSetMarking (bs : List Byte) : Kept s (actSetMarking bs s).1 := by
  unfold actSetMarking
  dsimp only
  split
  · exact .refl s
  · exact kept_marking s _ rfl rfl rfl

theorem kept_actReadMarking (bs : List Byte) : Kept s (actReadMarking bs s).1 :=
  .plays (actReadMarking_ok bs) (.of_eq rfl rfl)

theorem kept_actClearCounts (bs : List Byte) : Kept s (actClearCounts bs s).1 :=
  (kept_marking { s with yield := { s.yield with counts := .zero } } { s.marking with charErrors := 0, strayAcks := 0 }
    rfl rfl rfl).after (.same rfl rfl rfl rfl rfl)

theorem kept_actResumeLine (bs : List Byte) : Kept s (actResumeLine bs s).1 := by
  unfold actResumeLine
  split
  · exact .refl s
  · exact .same rfl rfl rfl rfl rfl

theorem kept_actEnableNest (bs : List Byte) : Kept s (actEnableNest bs s).1 := by
  unfold actEnableNest
  split
  · exact .refl s
  · split
    · exact .refl s
    · exact .same rfl rfl rfl rfl rfl

theorem kept_actSetYield (bs : List Byte) : Kept s (actSetYield bs s).1 := by
  unfold actSetYield
  dsimp only
  split
  · exact .refl s
  · split
    · exact .refl s
    · exact .same rfl rfl rfl rfl rfl

/-! ### The capture read-out -/

theorem kept_withHead {act : CaptureRecord → State → State × Answer} (h : ∀ r t, Kept t (act r t).1) :
    Kept s (s.withHead act).1 := by
  unfold State.withHead
  split
  · exact .refl s
  · split
    · exact .refl s
    · exact (h _ _).after (.same rfl rfl rfl rfl rfl)
    · exact .refl s

theorem kept_actCaptureHead (bs : List Byte) : Kept s (actCaptureHead bs s).1 := kept_withHead s fun _ t => .refl t

theorem kept_actCaptureRead (bs : List Byte) : Kept s (actCaptureRead bs s).1 := by
  unfold actCaptureRead
  dsimp only
  split
  · exact .refl s
  · split
    · exact .refl s
    · refine kept_withHead s fun r t => ?_
      split
      · exact .refl t
      · split <;> exact .same rfl rfl rfl rfl rfl

theorem kept_actCaptureDrop (bs : List Byte) : Kept s (actCaptureDrop bs s).1 :=
  kept_withHead s fun _ _ => .same rfl rfl rfl rfl rfl

/-! ### The port -/

theorem kept_port (p : Port) : Kept s { s with port := p } := .same rfl rfl rfl rfl rfl

theorem kept_actSetTap (bs : List Byte) : Kept s (actSetTap bs s).1 := by
  unfold actSetTap
  dsimp only
  split
  · exact .refl s
  · exact kept_port s _

theorem kept_actConfigRead (bs : List Byte) : Kept s (actConfigRead bs s).1 := by
  unfold actConfigRead
  dsimp only
  split <;> exact .refl s

theorem kept_actConfigWrite (tag : Byte) (bs : List Byte) : Kept s (actConfigWrite tag bs s).1 := by
  unfold actConfigWrite
  dsimp only
  split
  · exact .refl s
  · exact kept_port s _

/-! ### Units -/

theorem kept_actArrive (bs : List Byte) : Kept s (actArrive bs s).1 := fun h => ⟨actArrive_ok bs h, counted_actArrive bs⟩

theorem kept_actRelease (bs : List Byte) : Kept s (actRelease bs s).1 := by
  refine .plays (actRelease_ok bs) ?_
  unfold actRelease
  split
  · exact .refl s
  · split
    · exact .refl s
    · split
      · exact .refl s
      · rename_i hj
        split
        · exact .refl s
        · split
          · exact .refl s
          · refine samePlays_releaseUnit s _ _ ?_
            rw [not_not.1 hj]; rfl

/-- A nest with a unit that is not JUDGED runs. -/
theorem NestState.running_of_busy {q : NestState} (h : ¬ (q = .idle ∨ q = .reserved)) (hj : ¬ q = .judged) :
    q.running = true := by
  revert h hj
  cases q <;> simp [NestState.running]

theorem kept_actAbort (bs : List Byte) : Kept s (actAbort bs s).1 := fun h => by
  refine ⟨actAbort_ok bs h, fun c => ?_⟩
  unfold actAbort
  split
  · exact c
  · rename_i n _
    split
    · exact c
    · rename_i busy
      split
      · rename_i hj
        exact (samePlays_discardJudged false (by rw [hj]; rfl)).counted c
      · rename_i hj
        exact counted_abortRunning h (NestState.running_of_busy busy hj) c

theorem kept_stopAll : Kept s s.stopAll := fun h => ⟨stopAll_ok h, counted_stopAll h⟩

theorem kept_actReserveStream (bs : List Byte) : Kept s (actReserveStream bs s).1 := by
  refine .plays (actReserveStream_ok bs) ?_
  unfold actReserveStream
  split
  · exact .refl s
  · rename_i n _
    split
    · exact .refl s
    · split
      · exact .refl s
      · rename_i hi
        exact SamePlays.after (.of_eq (s := State.modNest { s with port := s.port.emptyStream n } n
          (fun q => { q with state := .reserved })) rfl rfl) ((samePlays_rest _ n _ (by show (s.nest n).state.running = false; rw [not_not.1 hi]; rfl) rfl).after
            (.of_eq rfl rfl))

theorem kept_actReleaseStream (bs : List Byte) : Kept s (actReleaseStream bs s).1 := by
  refine .plays (actReleaseStream_ok bs) ?_
  unfold actReleaseStream
  split
  · exact .refl s
  · rename_i n _
    split
    · exact .refl s
    · rename_i hi
      exact (samePlays_rest { s with port := s.port.emptyStream n } n (fun q => { q with state := .idle })
        (by show (s.nest n).state.running = false; rw [not_not.1 hi]; rfl) rfl).after (.of_eq rfl rfl)

theorem kept_actRestart (bs : List Byte) : Kept s (actRestart bs s).1 := fun h => ⟨restart_ok h, counted_restart h⟩

/-! ### POWER ON and the start-up load -/

theorem kept_powerOn : Kept s s.powerOn := fun _ =>
  ⟨((sound_iff _).2 reset_sound).same rfl rfl rfl rfl,
    fun _ => SamePlays.counted (s := .reset) (.of_eq rfl rfl) ⟨rfl, reset_usesOk⟩⟩

theorem samePlays_groupResult {o : Option State} (h : ∀ t, o = some t → SamePlays s t) : SamePlays s (groupResult s o).1 := by
  unfold groupResult
  split
  · exact .refl s
  · exact h _ rfl

theorem samePlays_loadGroup (control i : Nat) {load : State → State × GroupResult} (h : SamePlays s (load s).1) :
    SamePlays s (loadGroup control i load s).1 := by
  unfold loadGroup
  split
  · exact h
  · exact .refl s

theorem samePlays_loadCal : SamePlays s (loadCal s).1 := by
  refine samePlays_groupResult s fun t ht => ?_
  split at ht
  · cases ht; exact .of_eq rfl rfl
  · cases ht

theorem samePlays_loadGuard : SamePlays s (loadGuard s).1 := by
  refine samePlays_groupResult s fun t ht => ?_
  split at ht
  · cases ht
  · cases ht; exact .of_eq rfl rfl

theorem samePlays_loadYield : SamePlays s (loadYield s).1 := by
  refine samePlays_groupResult s fun t ht => ?_
  split at ht
  · cases ht
  · cases ht; exact .of_eq rfl rfl

theorem samePlays_loadMarking : SamePlays s (loadMarking s).1 := by
  refine samePlays_groupResult s fun t ht => ?_
  split at ht
  · cases ht; exact .of_eq rfl rfl
  · cases ht

theorem samePlays_loadBins : SamePlays s (loadBins s).1 := by
  refine samePlays_groupResult s fun t ht => ?_
  split at ht
  · cases ht
  · cases ht; exact .of_eq rfl rfl

theorem samePlays_loadNotices : SamePlays s (loadNotices s).1 := .of_eq rfl rfl

theorem takeEntry_useCount (image : List Byte) (x : Recipe × List FailedEntry) (e : Nat) :
    (takeEntry image x e).1.useCount = x.1.useCount := by
  unfold takeEntry
  dsimp only
  split
  · rfl
  · split
    · rfl
    · split
      · rfl
      · split
        · rfl
        · split <;> rfl

theorem takeRecipe_useCount (r : Recipe) (image rows : List Byte) : (takeRecipe r image rows).1.useCount = r.useCount := by
  have key : ∀ (es : List Nat) (x : Recipe × List FailedEntry),
      (es.foldl (takeEntry image) x).1.useCount = x.1.useCount := by
    intro es
    induction es with
    | nil => exact fun _ => rfl
    | cons e es ih => exact fun x => (ih _).trans (takeEntry_useCount image x e)
  exact key _ _

theorem samePlays_loadRecipe : SamePlays s (loadRecipe s).1.1 := by
  unfold loadRecipe
  dsimp only
  split
  · exact .of_eq (takeRecipe_useCount _ _ _) rfl
  · exact .refl s

theorem samePlays_endLoad : SamePlays s s.endLoad := by
  have loaded : SamePlays s s.startupLoad.1 := by
    unfold State.startupLoad
    split
    · unfold State.loadGroups
      dsimp only
      generalize fieldAt (s.port.configBytes 6 2) 0 2 = control
      refine (samePlays_loadGroup _ control 6 (samePlays_loadNotices _)).after ?_
      have bins := (samePlays_loadGroup _ control 4 (samePlays_loadBins _)).after
        ((samePlays_loadGroup _ control 3 (samePlays_loadMarking _)).after
          ((samePlays_loadGroup _ control 2 (samePlays_loadYield _)).after
            ((samePlays_loadGroup _ control 1 (samePlays_loadGuard _)).after
              (samePlays_loadGroup s control 0 (samePlays_loadCal s)))))
      split
      · exact (samePlays_loadRecipe _).after bins
      · exact bins
    · exact .refl s
  exact SamePlays.after (t := s.startupLoad.1) (.of_eq rfl rfl) loaded

theorem kept_endLoad : Kept s s.endLoad := .plays endLoad_ok (samePlays_endLoad s)

/-! ### Events -/

/-- A command or event that completes from a state on, and keeps what is to be kept. -/
def Completes (c : Instr) (s : State) : Prop := ∃ t, exec c s = .next t ∧ Kept s t

variable (n : Nest)

theorem completes_gapPhaseEnd : Completes (.gapPhaseEnd n) s := by
  refine ⟨_, rfl, ?_⟩
  split
  · rename_i hg
    have counts : (s.nest n).state.counts = true := by rw [hg.1]; rfl
    exact RunOk.kept (fun h => gapPhaseEnd_ok (h.1.free (counts_wait counts) (by rw [hg.1]; rfl)) counts)
      (samePrograms_gapPhaseEnd s n) (counts_running counts)
  · exact .refl s

theorem Sequencer.settle_of_test {q : Sequencer} (h : q.settleTest ≠ .wait) : q.state = .settle := by
  unfold Sequencer.settleTest at h
  split at h
  · assumption
  · exact absurd rfl h

theorem completes_settleTimeElapsed : Completes (.settleTimeElapsed n) s := by
  refine ⟨_, rfl, ?_⟩
  split
  · rename_i ht
    have settle := Sequencer.settle_of_test (q := s.nest n) (by rw [ht.2]; decide)
    have wait : (s.nest n).state ≠ .waitLanes := by rw [settle]; decide
    have running : (s.nest n).state.running = true := by rw [settle]; rfl
    refine RunOk.kept (r := (s.requestLanes n, none)) (fun h => ?_) (samePrograms_requestLanes s n) running
    obtain ⟨p, a, r⟩ := requestLanes_ok (h.1.free wait (by rw [settle]; rfl)) wait running
    exact .stay p a r
  · exact .refl s

theorem completes_settleBlockEnd : Completes (.settleBlockEnd n) s := by
  refine ⟨_, rfl, ?_⟩
  split
  · rename_i hs
    have counts : (s.nest n).state.counts = true := by rw [hs.1]; rfl
    refine RunOk.kept (fun h => ?_) ((samePrograms_testSettle _ n).after (samePrograms_settleBlockEnd s n))
      (counts_running counts)
    obtain ⟨p, a, e⟩ := settleBlockEnd_ok (h.1.free (counts_wait counts) (by rw [hs.1]; rfl))
    exact (testSettle_ok p (by rw [e]; exact counts)).after a
  · exact .refl s

theorem completes_settleCapReached : Completes (.settleCapReached n) s := by
  refine ⟨_, rfl, ?_⟩
  split
  · rename_i ht
    have settle := Sequencer.settle_of_test (q := s.nest n) (by rw [ht]; decide)
    have counts : (s.nest n).state.counts = true := by rw [settle]; rfl
    refine RunOk.kept (fun h => ?_) ((samePrograms_finishStep _ n true).after (samePrograms_unsettle s n))
      (counts_running counts)
    have p := unsettle_pool (h.1.free (counts_wait counts) (by rw [settle]; rfl))
    exact (finishStep_ok true p (by rw [unsettle_nest]; exact counts)).after (acts_unsettle s n)
  · exact .refl s

/-- Grants move no program, and the nests granted their lanes run as before. -/
theorem samePlays_grantCheck (h : PoolBut none s) : SamePlays s s.grantCheck := by
  have g := grants_grantCheck h
  refine (g.acts' .n1).samePlays (samePrograms_grantCheck s) ?_
  rcases (g.nests .n1).state with e | ⟨e, e' | e'⟩
  · rw [e]
  · rw [e, e']; rfl
  · rw [e, e']; rfl

theorem kept_grantCheck : Kept s s.grantCheck := fun h => by
  have g := grants_grantCheck h.1
  exact ⟨⟨g.pool, h.2.acts (g.acts' .n1) (g.nests .n1).holdsUnit⟩, (samePlays_grantCheck s h.1).counted⟩

theorem completes_windowComplete : Completes (.windowComplete n) s := by
  refine ⟨_, rfl, ?_⟩
  split
  · rename_i hw
    exact RunOk.kept (r := (s.windowComplete n, none)) (fun h => windowComplete_ok h.1 (by rw [hw.1]; decide))
      (samePrograms_windowComplete s n) (by rw [hw.1]; rfl)
  · exact .refl s

theorem completes_evaluationComplete : Completes (.evaluationComplete n) s := by
  refine ⟨_, rfl, ?_⟩
  split
  · rename_i he
    exact RunOk.kept (fun h => completeEvaluation_ok h.1 (by rw [he.1]; rfl)) (samePrograms_completeEvaluation s n)
      (by rw [he.1]; rfl)
  · exact .refl s

theorem completes_burstCountEnd : Completes (.burstCountEnd n) s := by
  refine ⟨_, rfl, ?_⟩
  split
  · rename_i hb
    have counts : (s.nest n).state.counts = true := by rw [hb.1]; rfl
    exact RunOk.kept (fun h => burstPhaseEnd_ok (h.1.free (counts_wait counts) (by rw [hb.1]; rfl)) counts)
      (samePrograms_burstPhaseEnd s n) (counts_running counts)
  · exact .refl s

theorem guardHoldEnd_ok {s : State} (h : Sound s) : Sound s.guardHoldEnd := by
  unfold State.guardHoldEnd
  split
  · exact (becomeQuiet_ok _ h).1
  · exact h

theorem kept_fillCheck : Kept s s.fillCheck :=
  .plays (fun h => ⟨h.1.same (fillCheck_analyser s) (fillCheck_nests s), fillCheck_ok h.2⟩) (samePlays_fillCheck s)

theorem kept_expire : Kept s (s.expire n) := fun h => ⟨expire_ok h, counted_expire h⟩

theorem kept_setTone (t : Tone) : Kept s (s.setTone n t) := .same rfl rfl rfl rfl rfl

theorem completes_stopLineAssert : Completes .stopLineAssert s := by
  refine ⟨_, rfl, ?_⟩
  split
  · exact .refl s
  · exact Kept.after (t := s.stopAll) (.same rfl rfl rfl rfl rfl) (kept_stopAll s)

theorem completes_silenceTimeout : Completes .silenceTimeout s := by
  refine ⟨_, rfl, ?_⟩
  split
  · split
    · exact .refl s
    · exact kept_withLink s _
    · exact kept_linkLoss s
  · exact .refl s

theorem completes_frameArrival (bs : List Byte) : Completes (.frameArrival bs) s := by
  refine ⟨_, rfl, ?_⟩
  have cleared : Kept s { s with out := { s.out with downstream := [] } } := .same rfl rfl rfl rfl rfl
  split
  · exact (kept_arriveDown _ _).after cleared
  · exact (kept_arriveAcquiring _ _).after cleared
  · exact (kept_arriveUp _ _).after cleared

theorem completes_tapCellFormed (c : Nat) : Completes (.tapCellFormed c) s := by
  refine ⟨_, rfl, ?_⟩
  split
  · exact kept_port s _
  · exact .refl s

theorem completes_guardBlockEnd : Completes .guardBlockEnd s := by
  refine ⟨_, rfl, ?_⟩
  split
  · exact kept_guardBlockEnd s
  · exact .refl s

theorem completes_startupLoadEnd : Completes .startupLoadEnd s := by
  refine ⟨_, rfl, ?_⟩
  split
  · exact kept_endLoad s
  · exact .refl s

theorem completes_arbiterSlot : Completes .arbiterSlot s := by
  refine ⟨_, rfl, ?_⟩
  have sent : Kept s { s with port := s.port.slot.2, out := { s.out with upstream := s.port.slot.1 } } :=
    .same rfl rfl rfl rfl rfl
  split
  · exact (kept_powerOn _).after sent
  · exact sent

theorem completes_markingCharacter (data : Byte) (parity stop : Bool) : Completes (.markingCharacter data parity stop) s := by
  refine ⟨_, rfl, ?_⟩
  split
  · exact .plays (assembleReply_ok data) (samePlays_assembleReply s data)
  · exact .plays (fun h => setReceiver_ok _ (countCharError_ok h)) (.of_eq rfl rfl)

theorem completes_configWriteComplete : Completes .configWriteComplete s := by
  refine ⟨_, rfl, ?_⟩
  split
  · exact .same rfl rfl rfl rfl rfl
  · exact .refl s
  · exact .refl s

theorem completes_unknownCommand : Completes .unknownCommand s := by
  refine ⟨_, rfl, ?_⟩
  split
  · exact .refl s
  · split
    · exact (kept_answer _ _ _).after (kept_port s _)
    · exact .refl s

/-- In a sound state an ARRIVE that passes its checks finds a FREE record (R126, log 26). -/
theorem arriveStuck_of_sound {s : State} (h : Sound s) : s.arriveStuck = false := by
  unfold State.arriveStuck
  split
  · rfl
  · rename_i cell _
    cases hc : arriveCheck cell.payload.tail s with
    | error => simp
    | ok n =>
      obtain ⟨id, hid⟩ := Option.ne_none_iff_exists'.1 (lowestFree_of_idle h (arriveCheck_idle hc))
      simp [hid]

theorem completes_arrive {s : State} (h : Sound s) : Completes .arrive s :=
  ⟨_, if_neg (by rw [arriveStuck_of_sound h]; decide), kept_takeCommand s fun bs t => kept_actArrive t bs⟩

/-! ### Every command and event -/

/-- A command taken from the queue. -/
theorem completes_command {c : Instr} {code : Byte} {fits : List Byte → Bool} {act : List Byte → State → State × Answer}
    (hc : exec c s = .next (takeCommand code fits act s)) (h : ∀ bs t, Kept t (act bs t).1) : Completes c s :=
  ⟨_, hc, kept_takeCommand s h⟩

/-- A command that reads and changes nothing. -/
theorem completes_read {c : Instr} {code : Byte} {fits : List Byte → Bool} {data : State → List Byte}
    (hc : exec c s = .next (takeCommand code fits (fun _ t => answerOnly (data t) t) s)) : Completes c s :=
  completes_command s hc fun _ t => .refl t

theorem completes_of_sound (c : Instr) {s : State} (h : Sound s) : Completes c s := by
  cases c with
  | powerOnReset => exact ⟨_, rfl, kept_powerOn s⟩
  | startupLoadEnd => exact completes_startupLoadEnd s
  | frameArrival bs => exact completes_frameArrival s bs
  | acquisitionComplete => exact ⟨_, rfl, kept_acquisitionEnd s⟩
  | badRunLimit => exact ⟨_, rfl, kept_badRunLimit s⟩
  | silenceTimeout => exact completes_silenceTimeout s
  | tapCellFormed c => exact completes_tapCellFormed s c
  | guardBlockEnd => exact completes_guardBlockEnd s
  | guardHoldEnd => exact ⟨_, rfl, .plays (fun h => guardHoldEnd_ok h) (samePlays_guardHoldEnd s)⟩
  | gapPhaseEnd n => exact completes_gapPhaseEnd s n
  | settleTimeElapsed n => exact completes_settleTimeElapsed s n
  | settleBlockEnd n => exact completes_settleBlockEnd s n
  | settleCapReached n => exact completes_settleCapReached s n
  | laneGrant => exact ⟨_, rfl, kept_grantCheck s⟩
  | windowComplete n => exact completes_windowComplete s n
  | evaluationComplete n => exact completes_evaluationComplete s n
  | burstCountEnd n => exact completes_burstCountEnd s n
  | glideEnd n => exact ⟨_, rfl, kept_setTone s n _⟩
  | rampEnd n => exact ⟨_, rfl, kept_setTone s n _⟩
  | deadlineExpiry n => exact ⟨_, rfl, kept_expire s n⟩
  | stopLineAssert => exact completes_stopLineAssert s
  | stopLineRelease => exact ⟨_, rfl, .same rfl rfl rfl rfl rfl⟩
  | cellArrival bs => exact ⟨_, rfl, kept_port s _⟩
  | arbiterSlot => exact completes_arbiterSlot s
  | slotFill => exact ⟨_, rfl, kept_fillCheck s⟩
  | messageStart => exact ⟨_, rfl, .plays startMessage_ok (.of_eq rfl rfl)⟩
  | labelMessageSent => exact ⟨_, rfl, .plays messageSent_ok (.of_eq rfl rfl)⟩
  | markingCharacter data parity stop => exact completes_markingCharacter s data parity stop
  | ackTimeout i => exact ⟨_, rfl, .plays (ackExpired_ok i) (samePlays_ackExpired s i)⟩
  | configWriteComplete => exact completes_configWriteComplete s
  | writeRows => exact completes_command s rfl fun bs t => kept_actWriteRows t bs
  | readRows => exact completes_command s rfl fun bs t => kept_actReadRows t bs
  | writeDirectory => exact completes_command s rfl fun bs t => kept_actWriteDirectory t bs
  | readDirectory => exact completes_command s rfl fun bs t => kept_actReadDirectory t bs
  | activate => exact completes_command s rfl fun bs t => kept_actActivate t bs
  | deactivate => exact completes_command s rfl fun bs t => kept_actDeactivate t bs
  | writeBins => exact completes_command s rfl fun bs t => kept_actWriteBins t bs
  | readBins => exact completes_read s rfl
  | arrive => exact completes_arrive h
  | release => exact completes_command s rfl fun bs t => kept_actRelease t bs
  | abort => exact completes_command s rfl fun bs t => kept_actAbort t bs
  | stop => exact completes_command s rfl fun _ t => kept_stopAll t
  | reserveStream => exact completes_command s rfl fun bs t => kept_actReserveStream t bs
  | releaseStream => exact completes_command s rfl fun bs t => kept_actReleaseStream t bs
  | setCalibration => exact completes_command s rfl fun bs t => kept_actSetCalibration t bs
  | readCalibration => exact completes_read s rfl
  | readLanes => exact completes_read s rfl
  | setGuard => exact completes_command s rfl fun bs t => kept_actSetGuard t bs
  | readGuard => exact completes_read s rfl
  | readUnit => exact completes_command s rfl fun bs t => kept_actReadUnit t bs
  | setMarking => exact completes_command s rfl fun bs t => kept_actSetMarking t bs
  | readMarking => exact completes_command s rfl fun bs t => kept_actReadMarking t bs
  | readCounts => exact completes_read s rfl
  | clearCounts => exact completes_command s rfl fun bs t => kept_actClearCounts t bs
  | resumeLine => exact completes_command s rfl fun bs t => kept_actResumeLine t bs
  | enableNest => exact completes_command s rfl fun bs t => kept_actEnableNest t bs
  | setYield => exact completes_command s rfl fun bs t => kept_actSetYield t bs
  | readYield => exact completes_read s rfl
  | captureHead => exact completes_command s rfl fun bs t => kept_actCaptureHead t bs
  | captureRead => exact completes_command s rfl fun bs t => kept_actCaptureRead t bs
  | captureDrop => exact completes_command s rfl fun bs t => kept_actCaptureDrop t bs
  | readCapture => exact completes_read s rfl
  | status => exact completes_command s rfl fun _ t => kept_port t _
  | setNotices => exact completes_command s rfl fun _ t => kept_port t _
  | setTap => exact completes_command s rfl fun bs t => kept_actSetTap t bs
  | restart => exact completes_command s rfl fun bs t => kept_actRestart t bs
  | reboot => exact completes_command s rfl fun _ t => kept_port t _
  | configRead => exact completes_command s rfl fun bs t => kept_actConfigRead t bs
  | configWrite => exact completes_command s rfl fun bs t => kept_actConfigWrite t _ bs
  | unknownCommand => exact completes_unknownCommand s
  | transmitterStopped => exact ⟨_, rfl, .plays transmitterStopped_ok (.of_eq rfl rfl)⟩

/-- A step from a sound state completes: there is nothing to do, or the front command completes. -/
theorem step_kept {s : State} (h : Sound s) : ∃ t, step s = .next t ∧ Kept s t := by
  cases hp : s.pending with
  | nil => exact ⟨s, by unfold step; rw [hp], .refl s⟩
  | cons c rest =>
    have popped : Kept s { s with pending := rest } := .same rfl rfl rfl rfl rfl
    obtain ⟨t, ht, kept⟩ := completes_of_sound c (popped h).1
    exact ⟨t, by unfold step; rw [hp]; exact ht, kept.after popped⟩

/-- Settles O59: every step keeps the state sound and the use counts equal to the numbers of running units. -/
theorem soundStatesStepOn : Obligations.SoundStatesStepOn := by
  intro s h
  have sound : Sound s := (sound_iff s).2 h
  obtain ⟨t, ht, kept⟩ := step_kept sound
  obtain ⟨sound', counted⟩ := kept sound
  refine ⟨t, ht, (sound_iff t).1 sound', fun tables uses => ?_⟩
  exact (counted ((counted_iff tables).2 uses)).2

end Sys2Proof.Machine
end

section
/-! What giving back a nest's lanes changes: nests, analyser, capture ring, and how many captures the granted units
skipped (for RESTART, O52). -/

namespace Sys2Proof.Machine

/-- Lanes handed on: the nests that asked for them may enter their windows, and their units may skip a capture. -/
structure HandsOn (s t : State) : Prop where
  rest : t = { s with nests := t.nests, analyser := t.analyser, records := t.records, capture := t.capture }
  calibration : t.analyser.calibration = s.analyser.calibration
  skips : ∀ id, t.record id = { s.record id with capturesSkipped := (t.record id).capturesSkipped }

theorem HandsOn.refl (s : State) : HandsOn s s := ⟨rfl, rfl, fun _ => rfl⟩

theorem HandsOn.trans {s t u : State} (h : HandsOn s t) (k : HandsOn t u) : HandsOn s u where
  rest := k.rest.trans (congrArg
    (fun x : State => { x with nests := u.nests, analyser := u.analyser, records := u.records, capture := u.capture }) h.rest)
  calibration := k.calibration.trans h.calibration
  skips id := by rw [k.skips id, h.skips id]

theorem HandsOn.after {s t u : State} (k : HandsOn t u) (h : HandsOn s t) : HandsOn s u := h.trans k

/-- An operation on nests, analyser and ring. -/
theorem HandsOn.of_eq {s t : State}
    (rest : t = { s with nests := t.nests, analyser := t.analyser, capture := t.capture })
    (calibration : t.analyser.calibration = s.analyser.calibration) : HandsOn s t := by
  have records : t.records = s.records := by rw [rest]
  refine ⟨by rw [records]; exact rest, calibration, fun id => ?_⟩
  have e : t.record id = s.record id := by unfold State.record; rw [records]
  rw [e]

variable (s : State)

/-- A capture reserved, or skipped, by one nest's unit. -/
theorem handsOn_reserveCapture (n : Nest) :
    HandsOn s (s.reserveCapture n) ∧
      ∀ id, (s.nest n).record ≠ some id → (s.reserveCapture n).record id = s.record id := by
  unfold State.reserveCapture
  split
  · rename_i own st hr _
    split
    · exact ⟨.refl s, fun _ _ => rfl⟩
    · dsimp only
      split
      · exact ⟨.refl s, fun _ _ => rfl⟩
      · split
        · refine ⟨⟨rfl, rfl, fun id => ?_⟩, fun id hid => ?_⟩
          · rw [record_setRecord_eq]
            split
            · rename_i h; rw [h.1]
            · rfl
          · rw [State.record_setRecord_ne]
            · rfl
            · rintro rfl; exact hid hr
        · exact ⟨.of_eq rfl rfl, fun _ _ => rfl⟩
  · exact ⟨.refl s, fun _ _ => rfl⟩

theorem handsOn_enterWindow (n : Nest) :
    HandsOn s (s.enterWindow n) ∧
      ∀ id, (s.nest n).record ≠ some id → (s.enterWindow n).record id = s.record id := by
  unfold State.enterWindow
  set s1 := (s.modNest n (fun q => { q with state := .window, windowCount := 0 })).modAnalyser (fun a => a.startWindow n)
  obtain ⟨h, hr⟩ := handsOn_reserveCapture s1 n
  have own : (s1.nest n).record = (s.nest n).record := by simp [s1]
  exact ⟨h.after (.of_eq rfl rfl), fun id hid => hr id (by rw [own]; exact hid)⟩

theorem handsOn_grant (r : LaneRequest) (rest : List LaneRequest) :
    HandsOn s (s.grant r rest) ∧
      ∀ id, (s.nest r.nest).record ≠ some id → (s.grant r rest).record id = s.record id := by
  unfold State.grant
  dsimp only
  split
  · exact ⟨.of_eq rfl rfl, fun _ _ => rfl⟩
  · set s1 := s.modAnalyser (fun a =>
      ({ a with lanes := assignLanes r.nest r.plan a.lanes, queue := rest } : Analyser).setOverload r.nest false)
    obtain ⟨h, hr⟩ := handsOn_enterWindow s1 r.nest
    exact ⟨h.after (.of_eq rfl rfl), hr⟩

theorem grant_record (r : LaneRequest) (rest : List LaneRequest) (m : Nest) :
    ((s.grant r rest).nest m).record = (s.nest m).record := by
  rw [grant_nest]
  split
  · rename_i hm; subst hm; split <;> rfl
  · rfl

/-- The grants from the head of the queue on touch no record but those of the nests in the queue. -/
theorem handsOn_grantHeads (fuel : Nat) :
    HandsOn s (s.grantHeads fuel) ∧
      ∀ id, (∀ r ∈ s.analyser.queue, (s.nest r.nest).record ≠ some id) → (s.grantHeads fuel).record id = s.record id := by
  induction fuel generalizing s with
  | zero => exact ⟨.refl s, fun _ _ => rfl⟩
  | succ fuel ih =>
    unfold State.grantHeads
    split
    · exact ⟨.refl s, fun _ _ => rfl⟩
    · rename_i r rest hq
      split
      · obtain ⟨first, firstRecord⟩ := handsOn_grant s r rest
        obtain ⟨later, laterRecord⟩ := ih (s.grant r rest)
        refine ⟨later.after first, fun id hid => ?_⟩
        rw [laterRecord id, firstRecord id]
        · exact hid r (by rw [hq]; exact List.mem_cons_self)
        · intro q hm
          rw [grant_queue] at hm
          rw [grant_record]
          exact hid q (by rw [hq]; exact List.mem_cons_of_mem _ hm)
      · exact ⟨.refl s, fun _ _ => rfl⟩

variable {s}

/-- A nest with a request waits. -/
theorem waits_of_request {r : LaneRequest} (h : PoolBut none s) (hr : r ∈ s.analyser.queue) :
    (s.nest r.nest).state = .waitLanes := by
  by_contra hw
  have none := h.requests r.nest (by simp)
  rw [if_neg hw] at none
  have := List.countP_eq_zero.1 none r hr
  simp at this

/-- What `giveBack` of one nest leaves: only the records of other nests that wait can change, in what they skipped. -/
theorem handsOn_giveBack (n : Nest) (h : PoolBut none s) :
    HandsOn s (s.giveBack n) ∧
      ∀ id, (∀ m, m ≠ n → (s.nest m).state = .waitLanes → (s.nest m).record ≠ some id) →
        (s.giveBack n).record id = s.record id := by
  have released (hw : (s.nest n).state ≠ .waitLanes) : HandsOn s (s.releaseLanes n) ∧
      ∀ id, (∀ m, m ≠ n → (s.nest m).state = .waitLanes → (s.nest m).record ≠ some id) →
        (s.releaseLanes n).record id = s.record id := by
    obtain ⟨g, gr⟩ := handsOn_grantHeads (s.modAnalyser (fun a => a.release n))
      (s.modAnalyser (fun a => a.release n)).analyser.queue.length
    refine ⟨g.after (.of_eq rfl rfl), fun id hid => gr id fun r hr => hid r.nest ?_ (waits_of_request h hr)⟩
    rintro e
    exact hw (e ▸ waits_of_request h hr)
  have withdrawn : HandsOn s (s.withdraw n) ∧
      ∀ id, (∀ m, m ≠ n → (s.nest m).state = .waitLanes → (s.nest m).record ≠ some id) →
        (s.withdraw n).record id = s.record id := by
    set s1 := s.modAnalyser (fun a => { a with queue := a.queue.filter (fun r => decide (r.nest ≠ n)) })
    obtain ⟨g, gr⟩ := handsOn_grantHeads s1 s1.analyser.queue.length
    refine ⟨g.after (.of_eq rfl rfl), fun id hid => gr id fun r hr => ?_⟩
    obtain ⟨mem, ne⟩ := List.mem_filter.1 hr
    exact hid r.nest (of_decide_eq_true ne) (waits_of_request h mem)
  unfold State.giveBack
  split
  all_goals rename_i hs
  · exact withdrawn
  · exact released (by rw [hs]; decide)
  · obtain ⟨g, gr⟩ := released (by rw [hs]; decide)
    exact ⟨HandsOn.after (.of_eq rfl rfl) g, gr⟩
  · obtain ⟨g, gr⟩ := released (by rw [hs]; decide)
    exact ⟨HandsOn.after (.of_eq rfl rfl) g, gr⟩
  all_goals exact ⟨.refl s, fun _ _ => rfl⟩

end Sys2Proof.Machine
end

section
/-! What RESTART does to one nest: its unit ended and its record freed, its tone silent, its stream buffer flushed (for
O52). -/

namespace Sys2Proof.Machine

/-! ### The words of the statement -/

/-- What RESTART's notices say of one nest. -/
def State.endNotices (s : State) (skipped : Nest → Nat) (n : Nest) : List Notice :=
  match (s.nest n).record with
  | none => []
  | some id =>
    if (s.nest n).state.running then
      [.verdict id { s.record id with retriesUsed := (s.nest n).retries, capturesSkipped := skipped n } true
        s.link.frameIndex]
    else if (s.nest n).state = .judged then [.discard id (s.record id) true]
    else []

theorem State.restartNotices_eq (s : State) (skipped : Nest → Nat) :
    s.restartNotices skipped =
      Nest.order.flatMap (s.endNotices skipped) ++ s.labelIds.map (fun id => .discard id (s.record id) true) := rfl

theorem State.endNotices_none {s : State} {n : Nest} (k : Nest → Nat) (h : (s.nest n).record = none) :
    s.endNotices k n = [] := by
  unfold State.endNotices; rw [h]

theorem State.endNotices_running {s : State} {n : Nest} {id : Nat} (k : Nest → Nat) (h : (s.nest n).record = some id)
    (hr : (s.nest n).state.running = true) :
    s.endNotices k n =
      [.verdict id { s.record id with retriesUsed := (s.nest n).retries, capturesSkipped := k n } true
        s.link.frameIndex] := by
  unfold State.endNotices; rw [h]; exact if_pos hr

theorem State.endNotices_judged {s : State} {n : Nest} {id : Nat} (k : Nest → Nat) (h : (s.nest n).record = some id)
    (hj : (s.nest n).state = .judged) : s.endNotices k n = [.discard id (s.record id) true] := by
  unfold State.endNotices; rw [h, hj]; rfl

/-- How many captures the nest's unit has skipped. -/
def State.skips (s : State) (n : Nest) : Nat := ((s.nest n).record.map (fun id => (s.record id).capturesSkipped)).getD 0

theorem State.skips_of_record {s : State} {n : Nest} {id : Nat} (h : (s.nest n).record = some id) :
    s.skips n = (s.record id).capturesSkipped := by
  unfold State.skips; rw [h]; rfl

/-- The yield block after `a` units aborted and `d` discarded. -/
def Yield.ended (y : Yield) (a d : Nat) : Yield :=
  { y with counts := { y.counts with aborted := counterAfter y.counts.aborted a
                                     discarded := counterAfter y.counts.discarded d } }

theorem counterAfter_add (c a b : Nat) : counterAfter (counterAfter c a) b = counterAfter c (a + b) := by
  unfold counterAfter count
  split_ifs <;> omega

theorem Yield.ended_ended (y : Yield) (a b c d : Nat) : (y.ended a b).ended c d = y.ended (a + c) (b + d) := by
  simp only [Yield.ended, counterAfter_add]

/-! ### One nest -/

/-- What the end of a nest's unit by RESTART changes, the sequencer itself apart. -/
structure Ends (n : Nest) (s t : State) : Prop where
  guard : t.guard = s.guard
  marking : t.marking = s.marking
  calibration : t.analyser.calibration = s.analyser.calibration
  others : ∀ m, m ≠ n → GrantedOrSame (s.nest m) (t.nest m)
  silent : (t.tone n).silence = (s.tone n).silence
  tones : ∀ m, m ≠ n → t.tone m = s.tone m
  freed : ∀ id, (s.nest n).record = some id → t.record id = .free
  skipped : ∀ id, (s.nest n).record ≠ some id →
    t.record id = { s.record id with capturesSkipped := (t.record id).capturesSkipped }
  kept : ∀ id, (s.nest n).record ≠ some id →
    (∀ m, m ≠ n → (s.nest m).state = .waitLanes → (s.nest m).record ≠ some id) → t.record id = s.record id
  yield : t.yield =
    s.yield.ended (if (s.nest n).state.running then 1 else 0) (if (s.nest n).state = .judged then 1 else 0)
  uses : ∀ p, t.recipe.uses p = s.recipe.uses p - (if s.plays n = some p then 1 else 0)
  port : t.port =
    if (s.nest n).state = .reserved then s.port.emptyStream n
    else (s.endNotices s.skips n).foldl Port.notice s.port

/-! ### A running unit -/

/-- The state in which a running unit's record is closed: its lanes given back, its program's count lowered. -/
def State.letGo (s : State) (n : Nest) : State :=
  (((s.giveBack n).modNest n (fun q => { q with deadlineRunning := false })).lowerUse n).setDetector n .stopped

theorem abortRunning_eq (s : State) (n : Nest) : s.abortRunning n = ((s.letGo n).recordAborted n).emptyNest n := rfl

theorem lowerUse_eq (s : State) (n : Nest) :
    s.lowerUse n = { s with recipe := { s.recipe with useCount := s.recipe.lowered (s.nest n).program } } := by
  unfold State.lowerUse
  split
  · rename_i h; rw [h]; rfl
  · rename_i h; rw [h]; rfl

/-- The blocks that `letGo` leaves as they are. -/
theorem letGo_rest {s : State} {n : Nest} (h : PoolBut none s) :
    s.letGo n = { s with nests := (s.letGo n).nests, analyser := (s.letGo n).analyser, records := (s.letGo n).records
                         capture := (s.letGo n).capture
                         recipe := { s.recipe with useCount := s.recipe.lowered (s.nest n).program } } := by
  obtain ⟨hands, -⟩ := handsOn_giveBack n h
  have own : (s.giveBack n).nest n = s.nest n := (grants_giveBack (n := n) h).out n rfl
  unfold State.letGo
  rw [lowerUse_eq, State.nest_modNest, own]
  set g := s.giveBack n
  have e := hands.rest
  have er : g.recipe = s.recipe := by rw [e]
  show { g with nests := _, analyser := _, recipe := { g.recipe with useCount := g.recipe.lowered (s.nest n).program } } = _
  rw [er]
  exact (congrArg (fun x : State => ({ x with
    nests := (g.modNest n (fun q => { q with deadlineRunning := false })).nests
    analyser := g.analyser.setDetector n .stopped
    records := g.records
    capture := g.capture
    recipe := { s.recipe with useCount := s.recipe.lowered (s.nest n).program } } : State)) e :)

theorem letGo_nest_eq (s : State) (n m : Nest) :
    (s.letGo n).nest m = ((s.giveBack n).modNest n (fun q => { q with deadlineRunning := false })).nest m := by
  obtain ⟨nests, -, -, -⟩ := lowerUse_rest ((s.giveBack n).modNest n (fun q => { q with deadlineRunning := false })) n
  exact congrArg (fun x => PerNest.get x m) nests

theorem letGo_nest {s : State} {n : Nest} (h : PoolBut none s) :
    (s.letGo n).nest n = { s.nest n with deadlineRunning := false } := by
  rw [letGo_nest_eq, State.nest_modNest, (grants_giveBack (n := n) h).out n rfl]

theorem letGo_others {s : State} {n m : Nest} (hm : m ≠ n) : (s.letGo n).nest m = (s.giveBack n).nest m := by
  rw [letGo_nest_eq, State.nest_modNest_ne _ hm]

theorem letGo_record (s : State) (n : Nest) (id : Nat) : (s.letGo n).record id = (s.giveBack n).record id := by
  obtain ⟨-, -, -, records⟩ := lowerUse_rest ((s.giveBack n).modNest n (fun q => { q with deadlineRunning := false })) n
  exact congrArg (fun r => List.getD r id .free) records

theorem letGo_calibration (s : State) (n : Nest) :
    (s.letGo n).analyser.calibration = (s.giveBack n).analyser.calibration := by
  obtain ⟨-, analyser, -, -⟩ := lowerUse_rest ((s.giveBack n).modNest n (fun q => { q with deadlineRunning := false })) n
  exact (congrArg Analyser.calibration analyser :)

theorem recordAborted_eq {s : State} {n : Nest} {id : Nat} (h : (s.nest n).record = some id) :
    s.recordAborted n =
      { s with
          records := (s.recordAborted n).records
          port := s.port.notice (.verdict id { s.record id with retriesUsed := (s.nest n).retries } true s.link.frameIndex)
          yield := s.yield.ended 1 0 } := by
  unfold State.recordAborted
  rw [h]
  rfl

/-- One unit fewer of the program that the nest plays. -/
theorem uses_lowered (r : Recipe) (a : Option Nat) (p : Nat) :
    (r.lowered a).getD p 0 = r.uses p - (if a = some p then 1 else 0) := by
  cases a with
  | none => rfl
  | some q =>
    by_cases hq : q < r.useCount.length
    · refine (Recipe.getD_set _ q p _ hq).trans ?_
      by_cases e : p = q
      · subst e; rw [if_pos rfl, if_pos rfl]
      · rw [if_neg e, if_neg (fun h => e (Option.some.inj h).symm)]; rfl
    · have out : r.lowered (some q) = r.useCount := List.set_eq_of_length_le (by omega)
      rw [out]
      show r.uses p = _
      split
      · rename_i e
        cases e
        have : r.uses p = 0 := List.getD_eq_default _ _ (by omega)
        omega
      · rfl

theorem record_of_holdsUnit {s : State} {n : Nest} (h : Sound s) (hu : (s.nest n).state.holdsUnit = true) :
    ∃ id, (s.nest n).record = some id :=
  Option.isSome_iff_exists.1 ((h.2.nests n (by simp)).trans hu)

theorem record_of_rest {s : State} {n : Nest} (h : Sound s) (hu : (s.nest n).state.holdsUnit = false) :
    (s.nest n).record = none :=
  Option.isSome_eq_false_iff.1 ((h.2.nests n (by simp)).trans hu) |> Option.isNone_iff_eq_none.1

/-- Two nests hold two records. -/
theorem record_ne {s : State} {n m : Nest} {id : Nat} (h : Sound s) (hm : m ≠ n) (hn : (s.nest n).record = some id) :
    (s.nest m).record ≠ some id := by
  intro hid
  have nd := (holdersBut_perm s n).nodup_iff.1 h.2.nodup
  rw [hn] at nd
  refine (List.nodup_cons.1 nd).1 ?_
  rw [holdersBut_eq]
  have inOrder : m ∈ Nest.order := by cases m <;> decide
  refine List.mem_append_right _ (List.mem_append_left _ (List.mem_flatMap.2 ⟨m, inOrder, ?_⟩))
  rw [if_neg (by simpa using hm), hid]
  exact List.mem_singleton.2 rfl

theorem tone_modTone_ne (s : State) {n m : Nest} (hm : m ≠ n) (f : Tone → Tone) : (s.modTone n f).tone m = s.tone m :=
  PerNest.get_set_ne _ hm _

theorem emptyNest_tone (s : State) (n m : Nest) :
    (s.emptyNest n).tone m = if m = n then (s.tone n).silence else s.tone m := by
  unfold State.emptyNest
  by_cases hm : m = n
  · subst hm; rw [if_pos rfl, State.tone_modTone]; rfl
  · rw [if_neg hm, tone_modTone_ne _ hm]; rfl

theorem ends_abortRunning {s : State} {n : Nest} (h : Sound s) (hr : (s.nest n).state.running = true) :
    Ends n s (s.abortRunning n) := by
  obtain ⟨id, hid⟩ := record_of_holdsUnit h (holdsUnit_of_running hr)
  obtain ⟨hands, own⟩ := handsOn_giveBack n h.1
  have g := grants_giveBack (n := n) h.1
  have rest := letGo_rest (n := n) h.1
  have nest := letGo_nest (n := n) h.1
  have record : ((s.letGo n).nest n).record = some id := by rw [nest]; exact hid
  have unchanged : (s.letGo n).record id = s.record id := by
    rw [letGo_record, own id fun m hm _ => record_ne h hm hid]
  obtain ⟨nests, analyser, marking, -, others, freed⟩ := recordAborted_rest (s.letGo n) n
  have closed := recordAborted_eq record
  have records (k : Nat) (hk : (s.nest n).record ≠ some k) : (s.abortRunning n).record k = (s.giveBack n).record k := by
    refine (others k (by rw [record, ← hid]; exact hk)).trans (letGo_record s n k)
  have tone (m : Nest) : ((s.letGo n).recordAborted n).tone m = s.tone m := by
    unfold State.tone; rw [closed, rest]
  refine
    { guard := ?_, marking := ?_, calibration := ?_, others := fun m hm => ?_, silent := ?_, tones := fun m hm => ?_
      freed := fun k hk => freed k (by rw [record, ← hid]; exact hk)
      skipped := fun k hk => by rw [records k hk]; exact hands.skips k
      kept := fun k hk hw => by rw [records k hk]; exact own k hw
      yield := ?_, uses := fun p => ?_, port := ?_ }
  · show ((s.letGo n).recordAborted n).guard = _
    rw [closed, rest]
  · exact marking.trans (by rw [rest])
  · show ((s.letGo n).recordAborted n).analyser.calibration = _
    rw [analyser, letGo_calibration]; exact hands.calibration
  · rw [abortRunning_eq, emptyNest_nest, if_neg hm]
    have : ((s.letGo n).recordAborted n).nest m = (s.giveBack n).nest m := by
      unfold State.nest; rw [nests]; exact letGo_others hm
    rw [this]; exact g.nests m
  · rw [abortRunning_eq, emptyNest_tone, if_pos rfl, tone]; rfl
  · rw [abortRunning_eq, emptyNest_tone, if_neg hm, tone]
  · have judged : (s.nest n).state ≠ .judged := by intro e; rw [e] at hr; cases hr
    rw [if_pos hr, if_neg judged]
    show ((s.letGo n).recordAborted n).yield = _
    rw [closed, rest]
  · show ((s.letGo n).recordAborted n).recipe.useCount.getD p 0 = _
    rw [recordAborted_recipe, rest, State.plays_running hr]
    exact uses_lowered s.recipe _ p
  · have reserved : (s.nest n).state ≠ .reserved := by intro e; rw [e] at hr; cases hr
    rw [if_neg reserved, State.endNotices_running _ hid hr, State.skips_of_record hid]
    show ((s.letGo n).recordAborted n).port = s.port.notice _
    rw [closed, unchanged, nest]
    show (s.letGo n).port.notice _ = _
    rw [rest]

/-! ### A JUDGED unit, a RESERVED nest, an IDLE one -/

theorem ends_discardJudged {s : State} {n : Nest} (h : Sound s) (hj : (s.nest n).state = .judged) :
    Ends n s (s.discardJudged n true) := by
  obtain ⟨id, hid⟩ := record_of_holdsUnit h (by rw [hj]; rfl : (s.nest n).state.holdsUnit = true)
  have e : s.discardJudged n true = (s.discard id true).emptyNest n := by unfold State.discardJudged; rw [hid]
  have record (k : Nat) : (s.discardJudged n true).record k = if k = id then .free else s.record k := by
    rw [e]; exact discard_record s id k true
  have same (k : Nat) (hk : (s.nest n).record ≠ some k) : (s.discardJudged n true).record k = s.record k := by
    rw [record, if_neg (by rintro rfl; exact hk hid)]
  have rests : (s.nest n).state.running = false := by rw [hj]; rfl
  refine
    { guard := by rw [e]; rfl, marking := by rw [e]; rfl, calibration := by rw [e]; rfl, others := fun m hm => ?_
      silent := ?_, tones := fun m hm => ?_
      freed := fun k hk => by rw [record, if_pos (Option.some.inj (hk.symm.trans hid))]
      skipped := fun k hk => by rw [same k hk]
      kept := fun k hk _ => same k hk
      yield := ?_, uses := fun p => ?_, port := ?_ }
  · rw [e, emptyNest_nest, if_neg hm]; exact .refl _
  · rw [e, emptyNest_tone, if_pos rfl]; rfl
  · rw [e, emptyNest_tone, if_neg hm]; rfl
  · rw [e, rests, hj]; rfl
  · rw [e, State.plays_resting rests]; rfl
  · rw [if_neg (by rw [hj]; decide), State.endNotices_judged _ hid hj, e]; rfl

/-- A nest without a unit, with at most its stream buffer flushed. -/
theorem ends_rest {s : State} {n : Nest} {p : Port} (h : Sound s) (hu : (s.nest n).state.holdsUnit = false)
    (hp : p = if (s.nest n).state = .reserved then s.port.emptyStream n else s.port) : Ends n s { s with port := p } := by
  have none := record_of_rest h hu
  have rests : (s.nest n).state.running = false ∧ (s.nest n).state ≠ .judged := by
    revert hu; cases (s.nest n).state <;> simp [NestState.holdsUnit, NestState.running]
  refine
    { guard := rfl, marking := rfl, calibration := rfl, others := fun m _ => .refl _, silent := rfl, tones := fun _ _ => rfl
      freed := fun k hk => by rw [none] at hk; cases hk
      skipped := fun _ _ => rfl, kept := fun _ _ _ => rfl
      yield := ?_, uses := fun q => ?_, port := ?_ }
  · rw [rests.1, if_neg rests.2]; rfl
  · rw [State.plays_resting rests.1]; rfl
  · rw [State.endNotices_none _ none]; exact hp

/-! ### The nest as RESTART leaves it -/

/-- What RESTART does to one nest and to the others for it. -/
structure Restarts (n : Nest) (s t : State) : Prop extends Ends n s t where
  own : t.nest n = .reset
  tone : t.tone n = (s.tone n).silence

theorem Ends.restarts {n : Nest} {s t : State} (h : Ends n s t) : Restarts n s ((t.setNest n .reset).modTone n Tone.silence) where
  guard := h.guard
  marking := h.marking
  calibration := h.calibration
  others m hm := by
    have : ((t.setNest n .reset).modTone n Tone.silence).nest m = t.nest m := State.nest_setNest_ne t hm _
    rw [this]; exact h.others m hm
  silent := by rw [State.tone_modTone]; exact h.silent
  tones m hm := by rw [tone_modTone_ne _ hm]; exact h.tones m hm
  freed := h.freed
  skipped := h.skipped
  kept := h.kept
  yield := h.yield
  uses := h.uses
  port := h.port
  own := by simp
  tone := by rw [State.tone_modTone]; exact h.silent

theorem restarts_restartNest {s : State} (n : Nest) (h : Sound s) : Restarts n s (State.restartNest n s) := by
  unfold State.restartNest
  dsimp only
  split
  · rename_i hr
    exact (ends_abortRunning h hr).restarts
  · rename_i hr
    split
    · rename_i hj
      exact (ends_discardJudged h hj).restarts
    · rename_i hj
      have hu : (s.nest n).state.holdsUnit = false := by unfold NestState.holdsUnit; simp [hr, hj]
      split
      · rename_i hv
        exact (ends_rest h hu (by rw [if_pos hv])).restarts
      · rename_i hv
        exact (ends_rest (p := s.port) h hu (by rw [if_neg hv])).restarts

end Sys2Proof.Machine
end

section
/-! RESTART over the four nests and the label path, and REBOOT (O52). -/

namespace Sys2Proof.Machine

/-! ### Notices and stream buffers of the port -/

/-- The same notice queue, enables and drop counter. -/
structure SameNotices (p q : Port) : Prop where
  enables : q.enables = p.enables
  notices : q.notices = p.notices
  drops : q.noticeDrops = p.noticeDrops

theorem SameNotices.refl (p : Port) : SameNotices p p := ⟨rfl, rfl, rfl⟩

theorem SameNotices.trans {p q r : Port} (h : SameNotices p q) (k : SameNotices q r) : SameNotices p r :=
  ⟨k.enables.trans h.enables, k.notices.trans h.notices, k.drops.trans h.drops⟩

theorem SameNotices.notice {p q : Port} (h : SameNotices p q) (x : Notice) : SameNotices (p.notice x) (q.notice x) := by
  obtain ⟨he, hn, hd⟩ := h
  unfold Port.notice
  rw [he, hn, hd]
  split
  · split
    · exact ⟨rfl, rfl, rfl⟩
    · exact ⟨rfl, rfl, rfl⟩
  · exact ⟨he, hn, hd⟩

theorem SameNotices.foldl {p q : Port} (h : SameNotices p q) (xs : List Notice) :
    SameNotices (xs.foldl Port.notice p) (xs.foldl Port.notice q) := by
  induction xs generalizing p q with
  | nil => exact h
  | cons x xs ih => exact ih (h.notice x)

theorem sameNotices_emptyStream (p : Port) (n : Nest) : SameNotices p (p.emptyStream n) := ⟨rfl, rfl, rfl⟩

theorem notice_streams (p : Port) (x : Notice) : (p.notice x).streams = p.streams ∧ (p.notice x).pace = p.pace := by
  unfold Port.notice
  split
  · split <;> exact ⟨rfl, rfl⟩
  · exact ⟨rfl, rfl⟩

theorem notices_streams (p : Port) (xs : List Notice) :
    (xs.foldl Port.notice p).streams = p.streams ∧ (xs.foldl Port.notice p).pace = p.pace := by
  induction xs generalizing p with
  | nil => exact ⟨rfl, rfl⟩
  | cons x xs ih =>
    obtain ⟨h1, h2⟩ := ih (p.notice x)
    obtain ⟨k1, k2⟩ := notice_streams p x
    exact ⟨h1.trans k1, h2.trans k2⟩

/-! ### A nest granted its lanes meanwhile -/

theorem GrantedOrSame.running {q r : Sequencer} (h : GrantedOrSame q r) : r.state.running = q.state.running := by
  rcases h.state with e | ⟨e, e' | e'⟩
  · rw [e]
  · rw [e, e']; rfl
  · rw [e, e']; rfl

/-- It is in a state that no grant leads to or from exactly when it was. -/
theorem GrantedOrSame.state_iff {q r : Sequencer} (h : GrantedOrSame q r) {x : NestState} (hw : x ≠ .waitLanes)
    (hg : x ≠ .guardWait) (hn : x ≠ .window) : r.state = x ↔ q.state = x := by
  rcases h.state with e | ⟨e, e' | e'⟩
  · rw [e]
  · rw [e, e']; exact ⟨fun k => absurd k.symm hg, fun k => absurd k.symm hw⟩
  · rw [e, e']; exact ⟨fun k => absurd k.symm hn, fun k => absurd k.symm hw⟩

theorem GrantedOrSame.waits {q r : Sequencer} (h : GrantedOrSame q r) (hr : r.state = .waitLanes) :
    q.state = .waitLanes := by
  rcases h.state with e | ⟨e, -⟩
  · rw [← e, hr]
  · exact e

theorem GrantedOrSame.program {q r : Sequencer} (h : GrantedOrSame q r) : r.program = q.program := by
  rcases h with rfl | ⟨-, rfl | rfl⟩ <;> rfl

theorem GrantedOrSame.retries {q r : Sequencer} (h : GrantedOrSame q r) : r.retries = q.retries := by
  rcases h with rfl | ⟨-, rfl | rfl⟩ <;> rfl

/-! ### Nests in turn -/

/-- What RESTART of the listed nests in turn changes. -/
structure RestartsAll (ns : List Nest) (s t : State) : Prop where
  guard : t.guard = s.guard
  marking : t.marking = s.marking
  calibration : t.analyser.calibration = s.analyser.calibration
  own : ∀ n ∈ ns, t.nest n = .reset
  others : ∀ n, n ∉ ns → GrantedOrSame (s.nest n) (t.nest n)
  tone : ∀ n ∈ ns, t.tone n = (s.tone n).silence
  tones : ∀ n, n ∉ ns → t.tone n = s.tone n
  freed : ∀ n ∈ ns, ∀ id, (s.nest n).record = some id → t.record id = .free
  kept : ∀ id, (∀ n ∈ ns, (s.nest n).record ≠ some id) →
    (∀ m, (s.nest m).state = .waitLanes → (s.nest m).record ≠ some id) → t.record id = s.record id
  yield : t.yield = s.yield.ended (ns.countP (fun n => (s.nest n).state.running))
    (ns.countP (fun n => decide ((s.nest n).state = .judged)))
  uses : ∀ p, t.recipe.uses p = s.recipe.uses p - ns.countP (fun n => decide (s.plays n = some p))
  notices : ∃ skipped : Nest → Nat,
    (∀ n id, (s.nest n).record = some id → (s.nest n).state ≠ .waitLanes → skipped n = (s.record id).capturesSkipped) ∧
    SameNotices ((ns.flatMap (s.endNotices skipped)).foldl Port.notice s.port) t.port
  flushed : ∀ n ∈ ns, (s.nest n).state = .reserved →
    t.port.streams.get n = [] ∧ t.port.pace.get n = (s.port.pace.get n).afterRemoval 0
  streams : ∀ n, (n ∉ ns ∨ (s.nest n).state ≠ .reserved) →
    t.port.streams.get n = s.port.streams.get n ∧ t.port.pace.get n = s.port.pace.get n

theorem restartsAll_nil (s : State) : RestartsAll [] s s where
  guard := rfl
  marking := rfl
  calibration := rfl
  own _ h := absurd h List.not_mem_nil
  others _ _ := .refl _
  tone _ h := absurd h List.not_mem_nil
  tones _ _ := rfl
  freed _ h := absurd h List.not_mem_nil
  kept _ _ _ := rfl
  yield := rfl
  uses _ := rfl
  notices := ⟨s.skips, fun _ _ h _ => State.skips_of_record h, .refl _⟩
  flushed _ h := absurd h List.not_mem_nil
  streams _ _ := ⟨rfl, rfl⟩

section Cons
variable {n : Nest} {ns : List Nest} {s s1 t : State}

theorem Restarts.plays (r : Restarts n s s1) {m : Nest} (hm : m ≠ n) : s1.plays m = s.plays m := by
  have g := r.others m hm
  unfold State.plays
  rw [g.running, g.program]

/-- The record of another nest that does not wait is kept. -/
theorem Restarts.kept_other (h : Sound s) (r : Restarts n s s1) {m : Nest} (hm : m ≠ n) {id : Nat}
    (hid : (s.nest m).record = some id) (hw : (s.nest m).state ≠ .waitLanes) : s1.record id = s.record id := by
  refine r.kept id (record_ne h hm.symm hid) fun k _ wk => ?_
  refine record_ne h ?_ hid
  rintro rfl
  exact hw wk

theorem State.endNotices_congr {k k' : Nest → Nat} (h : k n = k' n) : s.endNotices k n = s.endNotices k' n := by
  unfold State.endNotices
  rw [h]

/-- The notices of a nest whose turn is still to come are those that the first state tells. -/
theorem Restarts.endNotices_later (h : Sound s) (r : Restarts n s s1) (hl : s1.link = s.link) {m : Nest} (hm : m ≠ n)
    {k k' : Nest → Nat} (hk : k m = k' m) : s1.endNotices k m = s.endNotices k' m := by
  have g := r.others m hm
  cases hid : (s.nest m).record with
  | none => rw [State.endNotices_none _ hid, State.endNotices_none _ (g.record.trans hid)]
  | some id =>
    have hid' := g.record.trans hid
    by_cases hr : (s.nest m).state.running = true
    · rw [State.endNotices_running _ hid hr, State.endNotices_running _ hid' (g.running.trans hr), hk, hl, g.retries,
        r.skipped id (record_ne h hm.symm hid)]
    · have hj : (s.nest m).state = .judged := by
        have hu : (s.nest m).state.holdsUnit = true := by rw [← h.2.nests m (by simp), hid]; rfl
        unfold NestState.holdsUnit at hu
        simpa [hr] using hu
      have hj' := (g.state_iff (x := .judged) (by decide) (by decide) (by decide)).2 hj
      rw [State.endNotices_judged _ hid hj, State.endNotices_judged _ hid' hj',
        r.kept_other h hm hid (by rw [hj]; decide)]

/-- The port's notices after one nest's turn. -/
theorem Restarts.sameNotices (h : Sound s) (r : Restarts n s s1) :
    SameNotices ((s.endNotices s.skips n).foldl Port.notice s.port) s1.port := by
  rw [r.port]
  split
  · rename_i hv
    rw [State.endNotices_none _ (record_of_rest h (by rw [hv]; rfl))]
    exact sameNotices_emptyStream _ n
  · exact .refl _

/-- The stream buffers after one nest's turn. -/
theorem Restarts.streams (r : Restarts n s s1) (m : Nest) :
    (m = n ∧ (s.nest n).state = .reserved →
      s1.port.streams.get m = [] ∧ s1.port.pace.get m = (s.port.pace.get m).afterRemoval 0) ∧
    (¬ (m = n ∧ (s.nest n).state = .reserved) →
      s1.port.streams.get m = s.port.streams.get m ∧ s1.port.pace.get m = s.port.pace.get m) := by
  rw [r.port]
  split
  · rename_i hv
    refine ⟨?_, fun hm => ?_⟩
    · rintro ⟨rfl, -⟩
      simp [Port.emptyStream]
    · have hm' : m ≠ n := fun e => hm ⟨e, hv⟩
      exact ⟨PerNest.get_set_ne _ hm' _, PerNest.get_set_ne _ hm' _⟩
  · rename_i hv
    obtain ⟨e1, e2⟩ := notices_streams s.port (s.endNotices s.skips n)
    exact ⟨fun hm => absurd hm.2 hv, fun _ => by rw [e1, e2]; exact ⟨rfl, rfl⟩⟩

/-- One nest's turn, and then the others'. -/
theorem Restarts.cons (h : Sound s) (r : Restarts n s s1) (hl : s1.link = s.link) (hn : n ∉ ns)
    (k : RestartsAll ns s1 t) : RestartsAll (n :: ns) s t := by
  have later : ∀ m ∈ ns, m ≠ n := fun m hm e => hn (e ▸ hm)
  have runs : ns.countP (fun m => (s1.nest m).state.running) = ns.countP (fun m => (s.nest m).state.running) :=
    List.countP_congr fun m hm => by rw [(r.others m (later m hm)).running]
  have judged : ns.countP (fun m => decide ((s1.nest m).state = .judged)) =
      ns.countP (fun m => decide ((s.nest m).state = .judged)) :=
    List.countP_congr fun m hm => by
      simp only [decide_eq_true_eq, (r.others m (later m hm)).state_iff (x := .judged) (by decide) (by decide) (by decide)]
  have plays (p : Nat) : ns.countP (fun m => decide (s1.plays m = some p)) = ns.countP (fun m => decide (s.plays m = some p)) :=
    List.countP_congr fun m hm => by rw [r.plays (later m hm)]
  have reserved (m : Nest) (hm : m ≠ n) : (s1.nest m).state = .reserved ↔ (s.nest m).state = .reserved :=
    (r.others m hm).state_iff (by decide) (by decide) (by decide)
  refine
    { guard := k.guard.trans r.guard, marking := k.marking.trans r.marking
      calibration := k.calibration.trans r.calibration
      own := fun m hm => ?_, others := fun m hm => ?_, tone := fun m hm => ?_, tones := fun m hm => ?_, freed := fun m hm id hid => ?_
      kept := fun id hid hw => ?_, yield := ?_, uses := fun p => ?_, notices := ?_, flushed := fun m hm hv => ?_
      streams := fun m hm => ?_ }
  · rcases List.mem_cons.1 hm with rfl | hm
    · rw [(k.others m hn).same (by rw [r.own]; decide), r.own]
    · exact k.own m hm
  · obtain ⟨hmn, hm⟩ := not_or.1 (fun e => hm (List.mem_cons.2 e))
    exact (r.others m hmn).trans (k.others m hm)
  · rcases List.mem_cons.1 hm with rfl | hm
    · rw [k.tones m hn, r.tone]
    · rw [k.tone m hm, r.tones m (later m hm)]
  · obtain ⟨hmn, hm⟩ := not_or.1 (fun e => hm (List.mem_cons.2 e))
    rw [k.tones m hm, r.tones m hmn]
  · rcases List.mem_cons.1 hm with rfl | hm
    · have unheld (q : Nest) : (s1.nest q).record ≠ some id := by
        by_cases hq : q = m
        · subst hq; rw [r.own]; exact nofun
        · rw [(r.others q hq).record]; exact record_ne h hq hid
      rw [k.kept id (fun q _ => unheld q) (fun q _ => unheld q), r.freed id hid]
    · exact k.freed m hm id ((r.others m (later m hm)).record.trans hid)
  · have first := r.kept id (hid n List.mem_cons_self) fun m _ wm => hw m wm
    refine (k.kept id (fun m hm => ?_) fun m wm => ?_).trans first
    · rw [(r.others m (later m hm)).record]; exact hid m (List.mem_cons_of_mem _ hm)
    · by_cases hm : m = n
      · subst hm; rw [r.own] at wm; cases wm
      · have g := r.others m hm
        rw [g.record]; exact hw m (g.waits wm)
  · rw [k.yield, r.yield, Yield.ended_ended, runs, judged, List.countP_cons, List.countP_cons, Nat.add_comm,
      Nat.add_comm (ite _ _ _)]
    simp only [decide_eq_true_eq]
  · rw [k.uses, r.uses, plays, Nat.sub_sub, List.countP_cons, Nat.add_comm]
    simp only [decide_eq_true_eq]
  · obtain ⟨skipped, hs, hp⟩ := k.notices
    refine ⟨Function.update skipped n (s.skips n), fun m id hid hw => ?_, ?_⟩
    · by_cases hm : m = n
      · subst hm; rw [Function.update_self, State.skips_of_record hid]
      · have g := r.others m hm
        have e := g.same hw
        rw [Function.update_of_ne hm, hs m id (g.record.trans hid) (by rw [e]; exact hw), r.kept_other h hm hid hw]
    · have own : s.endNotices (Function.update skipped n (s.skips n)) n = s.endNotices s.skips n :=
        State.endNotices_congr (Function.update_self ..)
      have others : ns.flatMap (s.endNotices (Function.update skipped n (s.skips n))) = ns.flatMap (s1.endNotices skipped) :=
        List.flatMap_congr fun m hm =>
          (r.endNotices_later h hl (later m hm) (Function.update_of_ne (later m hm) ..).symm).symm
      rw [List.flatMap_cons, List.foldl_append, own, others]
      exact ((r.sameNotices h).foldl _).trans hp
  · rcases List.mem_cons.1 hm with rfl | hm
    · obtain ⟨e1, e2⟩ := k.streams m (Or.inl hn)
      obtain ⟨f1, f2⟩ := (r.streams m).1 ⟨rfl, hv⟩
      exact ⟨e1.trans f1, e2.trans f2⟩
    · have hmn := later m hm
      obtain ⟨e1, e2⟩ := k.flushed m hm ((reserved m hmn).2 hv)
      obtain ⟨-, f2⟩ := (r.streams m).2 (fun e => hmn e.1)
      exact ⟨e1, by rw [e2, f2]⟩
  · have first : ¬ (m = n ∧ (s.nest n).state = .reserved) := by
      rintro ⟨rfl, hv⟩
      rcases hm with hm | hm
      · exact hm List.mem_cons_self
      · exact hm hv
    have rest : m ∉ ns ∨ (s1.nest m).state ≠ .reserved := by
      rcases hm with hm | hm
      · exact Or.inl fun e => hm (List.mem_cons_of_mem _ e)
      · by_cases hmn : m = n
        · subst hmn; exact Or.inl hn
        · exact Or.inr fun e => hm ((reserved m hmn).1 e)
    obtain ⟨e1, e2⟩ := k.streams m rest
    obtain ⟨f1, f2⟩ := (r.streams m).2 first
    exact ⟨e1.trans f1, e2.trans f2⟩

end Cons

theorem restartsAll_foldl {ns : List Nest} (hd : ns.Nodup) {s : State} (h : Sound s) :
    RestartsAll ns s (ns.foldl (fun t n => State.restartNest n t) s) := by
  induction ns generalizing s with
  | nil => exact restartsAll_nil s
  | cons n ns ih =>
    obtain ⟨hn, hd⟩ := List.nodup_cons.1 hd
    exact (restarts_restartNest n h).cons h (moves_restartNest s n).link hn (ih hd (restartNest_ok h))

theorem restartsAll_inNestOrder {s : State} (h : Sound s) : RestartsAll Nest.order s (inNestOrder State.restartNest s) :=
  restartsAll_foldl (by decide) h

/-! ### The label path -/

theorem labelIds_perm (s : State) : s.labelIds.Perm s.marking.holders := by
  unfold State.labelIds Marking.holders
  refine List.perm_append_comm.trans (List.Perm.append_left _ ?_)
  have pair (i j : SlotId) : [i, j].filterMap (fun i => (s.marking.slot i).record) =
      (s.marking.slot i).record.toList ++ (s.marking.slot j).record.toList := by
    cases hi : (s.marking.slot i).record <;> cases hj : (s.marking.slot j).record <;> simp [hi, hj]
  split
  · rw [pair]; exact List.perm_append_comm
  · rw [pair]; exact .refl _

/-- Discarding several records: their notices, one count each, nothing else. -/
theorem discards_eq {ids : List Nat} (hd : ids.Nodup) (s : State) :
    ids.foldl (fun t id => t.discard id true) s =
      { s with
          records := (ids.foldl (fun t id => t.discard id true) s).records
          port := (ids.map (fun id => Notice.discard id (s.record id) true)).foldl Port.notice s.port
          yield := s.yield.ended 0 ids.length } := by
  induction ids generalizing s with
  | nil => rfl
  | cons id ids ih =>
    obtain ⟨hid, hd⟩ := List.nodup_cons.1 hd
    have later : ids.map (fun k => Notice.discard k ((s.discard id true).record k) true) =
        ids.map (fun k => Notice.discard k (s.record k) true) :=
      List.map_congr_left fun k hk => by
        rw [discard_record, if_neg (by rintro rfl; exact hid hk)]
    have count : (s.yield.ended 0 1).ended 0 ids.length = s.yield.ended 0 (id :: ids).length := by
      rw [Yield.ended_ended, List.length_cons, Nat.add_comm 1]
    have e := ih hd (s.discard id true)
    rw [later] at e
    rw [List.foldl_cons, List.map_cons, List.foldl_cons, ← count]
    exact e

/-! ### RESTART -/

theorem nest_mem_order (n : Nest) : n ∈ Nest.order := by cases n <;> decide

section Restart
variable {s : State}

theorem labelIds_nodup (h : Sound s) : s.labelIds.Nodup := by
  have nd := h.2.nodup
  rw [holdersBut_eq] at nd
  exact (labelIds_perm s).nodup_iff.2 (List.Nodup.of_append_right nd)

/-- A record of the label path is no nest's. -/
theorem record_ne_of_label (h : Sound s) {id : Nat} (hid : id ∈ s.labelIds) (n : Nest) : (s.nest n).record ≠ some id := by
  intro hn
  have nd := h.2.nodup
  rw [holdersBut_eq] at nd
  refine List.disjoint_of_nodup_append nd (List.mem_flatMap.2 ⟨n, (nest_mem_order n), ?_⟩) ((labelIds_perm s).mem_iff.1 hid)
  rw [if_neg (by simp), hn]
  exact List.mem_singleton.2 rfl

/-- A record that is not FREE is a nest's or of the label path. -/
theorem held_iff (h : Sound s) (id : Nat) :
    (s.record id).state ≠ .free ↔ (∃ n, (s.nest n).record = some id) ∨ id ∈ s.labelIds := by
  rw [← h.2.held id, holdersBut_eq, List.mem_append, (labelIds_perm s).mem_iff]
  refine or_congr_left ⟨fun hm => ?_, ?_⟩
  · obtain ⟨n, -, hn⟩ := List.mem_flatMap.1 hm
    rw [if_neg (by simp), Option.mem_toList] at hn
    exact ⟨n, hn⟩
  · rintro ⟨n, hn⟩
    refine List.mem_flatMap.2 ⟨n, (nest_mem_order n), ?_⟩
    rw [if_neg (by simp), hn]
    exact List.mem_singleton.2 rfl

/-- The state when the four nests are done. -/
def State.nestsRestarted (s : State) : State := inNestOrder State.restartNest s

theorem nestsRestarted_labelIds (h : Sound s) : s.nestsRestarted.labelIds = s.labelIds := by
  unfold State.labelIds
  rw [show s.nestsRestarted.marking = s.marking from (restartsAll_inNestOrder h).marking]

/-- RESTART in terms of the state when the four nests are done. -/
theorem restart_eq (h : Sound s) :
    s.restart =
      { s.nestsRestarted with
          records := s.restart.records
          port := (s.labelIds.map (fun id => Notice.discard id (s.nestsRestarted.record id) true)).foldl Port.notice
            s.nestsRestarted.port
          yield := s.nestsRestarted.yield.ended 0 s.labelIds.length
          marking := s.restart.marking
          capture := s.restart.capture
          freeCount := s.restart.freeCount } := by
  have e : s.nestsRestarted.discardLabels = _ :=
    (congrArg _ (nestsRestarted_labelIds h)).trans (discards_eq (labelIds_nodup h) s.nestsRestarted)
  exact (congrArg (fun x : State => ({ x with
    records := s.restart.records
    marking := s.restart.marking
    capture := s.restart.capture
    freeCount := s.restart.freeCount } : State)) e :)

theorem restart_nest (h : Sound s) (n : Nest) : s.restart.nest n = .reset := by
  rw [restart_eq h]
  exact (restartsAll_inNestOrder h).own n (nest_mem_order n)

theorem restart_tone (h : Sound s) (n : Nest) : s.restart.tone n = (s.tone n).silence := by
  rw [restart_eq h]
  exact (restartsAll_inNestOrder h).tone n (nest_mem_order n)

theorem restart_guard (h : Sound s) : s.restart.guard = s.guard := by
  rw [restart_eq h]
  exact (restartsAll_inNestOrder h).guard

theorem restart_calibration (h : Sound s) : s.restart.analyser.calibration = s.analyser.calibration := by
  rw [restart_eq h]
  exact (restartsAll_inNestOrder h).calibration

theorem restart_lanes (h : Sound s) (n : Nest) : s.restart.analyser.lanesOf n = 0 := by
  by_contra hl
  have := (restart_ok h).1.lanes n (by simp) hl
  rw [restart_nest h] at this
  cases this

theorem restart_queue (h : Sound s) : s.restart.analyser.queue = [] :=
  List.eq_nil_iff_forall_not_mem.2 fun r hr => by
    have := waits_of_request (restart_ok h).1 hr
    rw [restart_nest h] at this
    cases this

theorem restart_record (h : Sound s) (id : Nat) :
    (s.restart.record id).state = .free ∧ ((s.record id).state ≠ .free → s.restart.record id = .free) := by
  have all := restartsAll_inNestOrder h
  have e : s.restart.record id = if id ∈ s.labelIds then .free else s.nestsRestarted.record id := by
    obtain ⟨-, -, -, -, record⟩ := discards_rest s.nestsRestarted s.nestsRestarted.labelIds
    rw [← nestsRestarted_labelIds h]
    exact record id
  by_cases hf : (s.record id).state = .free
  · have unheld := (held_iff h id).not.1 (not_not.2 hf)
    obtain ⟨noNest, noLabel⟩ := not_or.1 unheld
    have free (n : Nest) : (s.nest n).record ≠ some id := fun hn => noNest ⟨n, hn⟩
    rw [e, if_neg noLabel]
    exact ⟨(congrArg UnitRecord.state (all.kept id (fun n _ => free n) fun n _ => free n)).trans hf, fun hs => absurd hf hs⟩
  · have freed : s.restart.record id = .free := by
      rw [e]
      split
      · rfl
      · rename_i hl
        obtain ⟨n, hn⟩ := ((held_iff h id).1 hf).resolve_right hl
        exact all.freed n (nest_mem_order n) id hn
    exact ⟨by rw [freed]; rfl, fun _ => freed⟩

theorem restart_yield (h : Sound s) :
    s.restart.yield = s.yield.ended (Nest.order.countP (fun n => (s.nest n).state.running))
      (Nest.order.countP (fun n => decide ((s.nest n).state = .judged)) + s.labelIds.length) := by
  rw [restart_eq h]
  show s.nestsRestarted.yield.ended _ _ = _
  rw [show s.nestsRestarted.yield = _ from (restartsAll_inNestOrder h).yield, Yield.ended_ended, Nat.add_zero]

theorem playing_countP (s : State) (p : Nat) :
    (s.playing p).length = Nest.order.countP (fun n => decide (s.plays n = some p)) := by
  rw [State.playing_length]
  simp only [Nest.order, List.countP_cons, List.countP_nil, decide_eq_true_eq]
  omega

theorem restart_uses (h : Sound s) (p : Nat) : s.restart.recipe.uses p = s.recipe.uses p - (s.playing p).length := by
  rw [restart_eq h, playing_countP]
  exact (restartsAll_inNestOrder h).uses p

/-- The label path's part of the marking block, and how far a cut message had gone. -/
theorem restart_marking (h : Sound s) :
    ∃ free, s.restart.marking =
      { s.marking with queue := [], slotA := .free, slotB := .free, lastFilled := none, receiver := .expectKind
                       transmitter := s.marking.transmitter.cut free } := by
  obtain ⟨-, -, discards, -, -⟩ := discards_rest s.nestsRestarted s.nestsRestarted.labelIds
  have e : s.nestsRestarted.discardLabels.marking = s.marking := discards.trans (restartsAll_inNestOrder h).marking
  refine ⟨Config.markingProgress s.nestsRestarted.discardLabels.freeCount, ?_⟩
  rw [← e]
  rfl

theorem restart_notices (h : Sound s) :
    ∃ skipped : Nest → Nat,
      (∀ n id, (s.nest n).record = some id → (s.nest n).state ≠ .waitLanes →
        skipped n = (s.record id).capturesSkipped) ∧
      SameNotices ((s.restartNotices skipped).foldl Port.notice s.port) s.restart.port := by
  have all := restartsAll_inNestOrder h
  obtain ⟨skipped, hs, hp⟩ := all.notices
  refine ⟨skipped, hs, ?_⟩
  have labels : s.labelIds.map (fun id => Notice.discard id (s.nestsRestarted.record id) true) =
      s.labelIds.map (fun id => .discard id (s.record id) true) :=
    List.map_congr_left fun id hid => by
      rw [show s.nestsRestarted.record id = s.record id from
        all.kept id (fun n _ => record_ne_of_label h hid n) fun n _ => record_ne_of_label h hid n]
  rw [restart_eq h, labels, State.restartNotices_eq, List.foldl_append]
  exact hp.foldl _

theorem restart_streams (h : Sound s) (n : Nest) :
    ((s.nest n).state = .reserved → s.restart.port.streams.get n = [] ∧
      s.restart.port.pace.get n = (s.port.pace.get n).afterRemoval 0) ∧
    ((s.nest n).state ≠ .reserved → s.restart.port.streams.get n = s.port.streams.get n ∧
      s.restart.port.pace.get n = s.port.pace.get n) := by
  have all := restartsAll_inNestOrder h
  rw [restart_eq h]
  obtain ⟨streams, pace⟩ := notices_streams s.nestsRestarted.port
    (s.labelIds.map (fun id => Notice.discard id (s.nestsRestarted.record id) true))
  dsimp only
  rw [streams, pace]
  exact ⟨all.flushed n (nest_mem_order n), fun hv => all.streams n (Or.inr hv)⟩

/-- A flushed buffer lets the host go on (R198). -/
theorem Pace.afterRemoval_zero (p : Pace) :
    p.afterRemoval 0 =
      if p.current = .stop then { p with pendingState := if p.lastSent = .go then none else some .go } else p := by
  unfold Pace.afterRemoval Pace.change
  simp only [Nat.zero_le, true_and, eq_comm]

theorem charsSent_bounds {k : Nat} (free : Nat) (h : k ≤ 25) : k ≤ charsSent k free ∧ charsSent k free ≤ 25 := by
  unfold charsSent
  have := Nat.mod_lt free (show 0 < max 1 (26 - k) by omega)
  omega

end Restart

theorem Transmitter.cut_resting {x : Transmitter} (h : ∀ i k, x ≠ .sending i k) (free : Nat) : x.cut free = x := by
  cases x with
  | idle => rfl
  | sending i k => exact absurd rfl (h i k)
  | stopping => rfl

theorem exec_restart {s : State} {tag : Byte} {rest : List CommandCell} (h : s.takes tag 0x73 [] rest) :
    exec .restart s = .next ((s.taken rest).restart.done tag 0x73 []) := congrArg _ (takeCommand_done h rfl rfl)

theorem restart_capture (s : State) :
    s.restart.capture.records = [] ∧ s.restart.capture.occupied = 0 ∧ ∀ n, s.restart.capture.mark.get n = none :=
  ⟨rfl, rfl, PerNest.get_all _⟩

/-- Settles O52: RESTART by the turn of each nest and then the label path, REBOOT by its definition. -/
theorem restartAndReboot : Obligations.RestartAndReboot := by
  refine ⟨fun s tag rest hs taken => ?_, fun s tag rest h => congrArg _ (takeCommand_done h rfl rfl)⟩
  have h : Sound (s.taken rest) := ((sound_iff s).2 hs).same rfl rfl rfl rfl
  have moves := moves_restart (s.taken rest)
  obtain ⟨free, marking⟩ := restart_marking h
  obtain ⟨skipped, skips, notices⟩ := restart_notices h
  have queue : SameNotices ((s.restartNotices skipped).foldl Port.notice s.port) (s.taken rest).restart.port :=
    (SameNotices.foldl (p := s.port) (q := (s.taken rest).port) ⟨rfl, rfl, rfl⟩ (s.restartNotices skipped)).trans notices
  have yield := restart_yield h
  have uses (p : Nat) : (s.taken rest).restart.recipe.uses p = s.recipe.uses p - (s.playing p).length := restart_uses h p
  have guard := restart_guard h
  have nest := restart_nest h
  have tone := restart_tone h
  have record := restart_record h
  have lanes := restart_lanes h
  have calibration := restart_calibration h
  have requests := restart_queue h
  obtain ⟨ring, occupied, marks⟩ := restart_capture (s.taken rest)
  have ⟨part, unit, _, _⟩ := taken
  have streams := restart_streams h
  refine ⟨_, exec_restart taken, ?_⟩
  clear notices
  generalize (s.taken rest).restart = t at *
  have port := moves.port
  refine ⟨moves.link, guard, moves.stopLine, moves.out, moves.pending, moves.rows, moves.directory, moves.bins, nest, tone,
    record, fun n => ⟨lanes n, congrArg (fun c => PerNest.get c n) calibration⟩, requests,
    (congrArg Marking.queue marking :), (congrArg Marking.slotA marking :), (congrArg Marking.slotB marking :),
    (congrArg Marking.lastFilled marking :), (congrArg Marking.receiver marking :), (congrArg Marking.ackMs marking :),
    (congrArg Marking.charErrors marking :), (congrArg Marking.strayAcks marking :), fun resting => ?_,
    fun i k sending told => ?_, (congrArg Yield.windowLength yield :), (congrArg Yield.holdLevel yield :),
    (congrArg Yield.quarantineLevel yield :), uses, fun ok p => ?_, (congrArg Yield.window yield :),
    (congrArg Yield.passCount yield :), (congrArg Yield.line yield :), (congrArg Yield.streak yield :),
    (congrArg Yield.admission yield :), (congrArg Yield.counts yield :),
    ⟨skipped, skips, queue.notices, queue.drops⟩, ring, occupied, marks, port.commands,
    congrArg (· ++ _) port.replies, port.part.trans part, port.unit.trans unit, port.enables, port.tapSelection,
    port.taps, port.tapQueue, port.overrunFlag, port.config, fun n => ?_⟩
  · exact (congrArg Marking.transmitter marking).trans (Transmitter.cut_resting resting free)
  · refine ⟨charsSent k free, (congrArg Marking.transmitter marking).trans ?_, charsSent_bounds free told⟩
    show s.marking.transmitter.cut free = _
    rw [sending]
    rfl
  · rw [show (t.done tag 0x73 []).recipe.uses p = _ from uses p, ok p, Nat.sub_self]
  · obtain ⟨flushed, same⟩ := streams n
    refine ⟨fun hv => ?_, same⟩
    obtain ⟨empty, pace⟩ := flushed hv
    exact ⟨empty, pace.trans (Pace.afterRemoval_zero _)⟩

end Sys2Proof.Machine
end

section
/-! What a frame produced in LINK_UP sends and what it leaves alone, and the frames that fill a gap or stand in for a bad
one (O7, O8). -/

namespace Sys2Proof.Machine

/-! ### What the drive samples and the tap leave alone -/

theorem State.Keeps.refl (s : State) : s.Keeps s := by constructor <;> rfl

theorem State.Keeps.trans {s t u : State} (h : s.Keeps t) (k : t.Keeps u) : s.Keeps u where
  rows := k.rows.trans h.rows
  directory := k.directory.trans h.directory
  bins := k.bins.trans h.bins
  commands := k.commands.trans h.commands
  unit := k.unit.trans h.unit
  overrunFlag := k.overrunFlag.trans h.overrunFlag
  replies := k.replies.trans h.replies
  enables := k.enables.trans h.enables
  tapSelection := k.tapSelection.trans h.tapSelection
  part := k.part.trans h.part
  startup := k.startup.trans h.startup
  config := k.config.trans h.config
  stopLine := k.stopLine.trans h.stopLine
  pending := k.pending.trans h.pending

theorem Moves.keeps {s t : State} (h : Moves s t) : s.Keeps t where
  rows := h.rows
  directory := h.directory
  bins := h.bins
  commands := h.port.commands
  unit := h.port.unit
  overrunFlag := h.port.overrunFlag
  replies := h.port.replies
  enables := h.port.enables
  tapSelection := h.port.tapSelection
  part := h.port.part
  startup := h.port.startup
  config := h.port.config
  stopLine := h.stopLine
  pending := h.pending

/-- The port without what a frame takes from the stream buffers and puts in the tap. -/
def Port.still (p : Port) : Port :=
  { p with streams := .all [], pace := .all ⟨.go, none⟩, streamUnderruns := .all 0, taps := [], tapQueue := []
           tapDrops := 0 }

@[simp] theorem Port.still_drainStream (p : Port) (n : Nest) : (p.drainStream n).2.still = p.still := by
  unfold Port.drainStream
  split <;> rfl

@[simp] theorem Port.still_driveSample (p : Port) (q : NestState) (n : Nest) (x : Sample) :
    (p.driveSample q n x).2.still = p.still := by
  unfold Port.driveSample
  split
  · exact p.still_drainStream n
  · rfl

@[simp] theorem State.still_driveSamples (s : State) (f : PerNest ToneFrame) :
    (s.driveSamples f).2.still = s.port.still := by
  simp [State.driveSamples]

@[simp] theorem Port.still_formTapCell (p : Port) (c : Nat) : (p.formTapCell c).still = p.still := by
  unfold Port.formTapCell
  dsimp only
  split <;> rfl

@[simp] theorem Port.still_tapSample (p : Port) (i : Word) (sub : Bool) (c : Nat) (x : Sample) :
    (p.tapSample i sub c x).still = p.still := by
  unfold Port.tapSample Port.tapCellCheck
  split
  · split
    · exact Port.still_formTapCell _ c
    · rfl
  · rfl

@[simp] theorem Port.still_tapFrom (p : Port) (i : Word) (sub : Bool) (c : Nat) (xs : List Sample) :
    (p.tapFrom i sub c xs).still = p.still := by
  induction xs generalizing p c with
  | nil => rfl
  | cons x xs ih => exact (ih _ _).trans (p.still_tapSample i sub c x)

theorem State.Keeps.of_still {s : State} {p : Port} (o : Outputs) (h : p.still = s.port.still) :
    s.Keeps { s with port := p, out := o } where
  rows := rfl
  directory := rfl
  bins := rfl
  commands := (congrArg Port.commands h :)
  unit := (congrArg Port.unit h :)
  overrunFlag := (congrArg Port.overrunFlag h :)
  replies := (congrArg Port.replies h :)
  enables := (congrArg Port.enables h :)
  tapSelection := (congrArg Port.tapSelection h :)
  part := (congrArg Port.part h :)
  startup := (congrArg Port.startup h :)
  config := (congrArg Port.config h :)
  stopLine := rfl
  pending := rfl

theorem answerFrame_keeps (s : State) (f : PerNest ToneFrame) : s.Keeps (s.answerFrame f) :=
  .of_still _ (by simp)

/-! ### One frame in LINK_UP -/

/-- What one produced frame sends and leaves alone: one downstream frame with its number. -/
structure Answers (s t : State) : Prop where
  keeps : s.Keeps t
  link : t.link = s.link
  sent : ∃ drives ranges, t.out.downstream = s.out.downstream ++ [downstreamBytes s.link.current.number drives ranges]

theorem answers_frameUp (s : State) : Answers s s.frameUp := by
  set f := s.beginTones.toneFrames
  set a := s.beginTones.advanceTones.answerFrame f with ha
  have consumed : Moves a s.frameUp :=
    Moves.after (moves_spend _) (moves_consumeWithAcks a _ fun t => moves_consumeFrame t f)
  have begun : Moves s s.beginTones.advanceTones := Moves.after (moves_tones _ _) (moves_tones s _)
  refine ⟨(begun.keeps.trans (answerFrame_keeps _ f)).trans consumed.keeps, consumed.link, ?_⟩
  rw [consumed.out]
  exact ⟨_, _, rfl⟩

/-- The first field of a downstream frame is its number. -/
theorem downstreamBytes_take (number : BitVec 16) (drives : PerNest Sample) (ranges : PerNest Range) :
    (downstreamBytes number drives ranges).take 2 = toBytes 2 number.toNat := rfl

/-! ### Substituted frames -/

/-- `d` substituted frames one after the other. -/
def Link.substituted (d : Nat) (l : Link) : Link := Link.produceSubstitute^[d] l

theorem Link.substituted_succ (d : Nat) (l : Link) : l.substituted (d + 1) = l.produceSubstitute.substituted d :=
  Function.iterate_succ_apply _ d l

/-- The arriving frame behind `d` substituted ones. -/
theorem Link.produceGood_substituted (d : Nat) (l : Link) (f : UpstreamFrame) :
    (l.substituted d).produceGood f =
      { l with
          frameIndex := l.frameIndex + BitVec.ofNat 32 (d + 1), lastNumber := some f.number, lastGood := f.samples
          badRun := 0, silenceRunning := true
          current := ⟨l.frameIndex + BitVec.ofNat 32 (d + 1), f.number, f.samples, f.overloads, false⟩ } := by
  induction d generalizing l with
  | zero => rfl
  | succ d ih =>
    have index :
        l.produceSubstitute.frameIndex + BitVec.ofNat 32 (d + 1) = l.frameIndex + BitVec.ofNat 32 (d + 1 + 1) := by
      rw [Nat.add_comm (d + 1) 1, BitVec.ofNat_add 1, ← BitVec.add_assoc]
      rfl
    rw [Link.substituted_succ, ih, index]
    rfl

/-- The numbers of `d` frames sent from number `k` on, each as the first two bytes of its frame. -/
def numbersFrom (k : BitVec 16) (d : Nat) : List (List Byte) :=
  (List.range d).map fun i => toBytes 2 (k + BitVec.ofNat 16 i).toNat

theorem numbersFrom_cons (k : BitVec 16) (d : Nat) :
    numbersFrom k (d + 1) = toBytes 2 k.toNat :: numbersFrom (k + 1) d := by
  unfold numbersFrom
  rw [List.range_succ_eq_map, List.map_cons, List.map_map]
  have next (i : Nat) : k + BitVec.ofNat 16 (i + 1) = k + 1 + BitVec.ofNat 16 i := by
    rw [Nat.add_comm i 1, BitVec.ofNat_add, ← BitVec.add_assoc]
    rfl
  refine congrArg₂ List.cons ?_ (List.map_congr_left fun i _ => ?_)
  · exact congrArg (fun x : BitVec 16 => toBytes 2 x.toNat) (BitVec.add_zero k)
  · exact congrArg (fun x : BitVec 16 => toBytes 2 x.toNat) (next i)

/-- The numbers of the downstream frames composed. -/
def State.numbersSent (s : State) : List (List Byte) := s.out.downstream.map fun b => b.take 2

theorem Answers.numbersSent {s t : State} (h : Answers s t) :
    t.numbersSent = s.numbersSent ++ [toBytes 2 s.link.current.number.toNat] := by
  obtain ⟨drives, ranges, sent⟩ := h.sent
  unfold State.numbersSent
  rw [sent, List.map_append]
  rfl

theorem withLink_keeps (s : State) (l : Link) : s.Keeps (s.withLink l) := by constructor <;> rfl

/-- `d` substituted frames: the link counts them, and each is answered under its number (R25). -/
theorem substitutes_answered (d : Nat) (s : State) :
    s.Keeps (State.substitutes d s) ∧ (State.substitutes d s).link = s.link.substituted d ∧
      (State.substitutes d s).numbersSent = s.numbersSent ++ numbersFrom s.link.expected d := by
  induction d generalizing s with
  | zero => exact ⟨.refl s, rfl, (List.append_nil _).symm⟩
  | succ d ih =>
    set a := s.withLink s.link.produceSubstitute
    have up := answers_frameUp a
    have between := moves_betweenFrames a.frameUp
    obtain ⟨keeps, link, sent⟩ := ih a.frameUp.betweenFrames
    have linkBetween : a.frameUp.betweenFrames.link = s.link.produceSubstitute := between.link.trans up.link
    have sentBetween : a.frameUp.betweenFrames.numbersSent = s.numbersSent ++ [toBytes 2 s.link.expected.toNat] := by
      refine Eq.trans ?_ up.numbersSent
      unfold State.numbersSent
      rw [between.out]
    refine ⟨((withLink_keeps s _).trans (up.keeps.trans between.keeps)).trans keeps, ?_, ?_⟩
    · rw [Link.substituted_succ, ← linkBetween]; exact link
    · refine sent.trans ?_
      rw [sentBetween, linkBetween, numbersFrom_cons, List.append_assoc]
      rfl

/-! ### A frame arriving in LINK_UP -/

theorem exec_frameArrival_up {s : State} (bytes : List Byte) (h : s.link.state = .linkUp) :
    exec (.frameArrival bytes) s =
      .next (({ s with out := { s.out with downstream := [] } } : State).arriveUp (UpstreamFrame.ofBytes bytes)) := by
  show execFrameArrival bytes s = _
  unfold execFrameArrival
  simp only [h]

theorem clearDownstream_keeps (s : State) : s.Keeps { s with out := { s.out with downstream := [] } } := by
  constructor <;> rfl

theorem Link.expected_of_last {l : Link} {k : BitVec 16} (h : l.lastNumber = some k) : l.expected = k + 1 := by
  unfold Link.expected; rw [h]; rfl

/-- A good frame whose number is `d` above the expected one, below 96: `d` frames are missing, and substituted. -/
theorem arriveUp_good {s : State} {f : UpstreamFrame} (hd : (f.number - s.link.expected).toNat < 96) :
    let d := (f.number - s.link.expected).toNat
    let l : Link := { s.link with missingFrames := count s.link.missingFrames d }
    let t := s.arriveUp (some f)
    s.Keeps t ∧ t.link = (l.substituted d).produceGood f ∧
      t.numbersSent = s.numbersSent ++ numbersFrom s.link.expected (d + 1) := by
  intro d l t
  obtain ⟨keeps, link, sent⟩ := substitutes_answered d (s.withLink l)
  set u := State.substitutes d (s.withLink l)
  have up := answers_frameUp (u.withLink (u.link.produceGood f))
  have ht : t = (u.withLink (u.link.produceGood f)).frameUp := if_neg (Nat.not_le.2 hd)
  have number : f.number = s.link.expected + BitVec.ofNat 16 d := by
    rw [BitVec.ofNat_toNat, BitVec.setWidth_eq, BitVec.add_comm, BitVec.sub_add_cancel]
  rw [ht]
  refine ⟨(withLink_keeps s l).trans (keeps.trans ((withLink_keeps u _).trans up.keeps)), ?_, ?_⟩
  · exact up.link.trans (congrArg (fun x => Link.produceGood x f) link)
  · refine up.numbersSent.trans ?_
    show u.numbersSent ++ [toBytes 2 f.number.toNat] = _
    rw [sent, number, List.append_assoc]
    unfold numbersFrom
    rw [List.range_succ, List.map_append]
    rfl

/-- Settles O7: by induction on the missing frames, each of which moves the link on by one frame and is answered. -/
theorem gapIsFilled : Obligations.GapIsFilled := by
  intro s bytes f k hup hk hf d hd1 hd
  set s0 : State := { s with out := { s.out with downstream := [] } }
  have expected : s0.link.expected = k + 1 := Link.expected_of_last hk
  have missing : (f.number - s0.link.expected).toNat = d := by rw [expected]
  obtain ⟨keeps, link, sent⟩ := arriveUp_good (s := s0) (f := f) (by omega)
  rw [missing] at link sent
  refine ⟨s0.arriveUp (some f), by rw [exec_frameArrival_up bytes hup, hf],
    (clearDownstream_keeps s).trans keeps, ?_, ?_⟩
  · rw [link, Link.produceGood_substituted]
  · rw [expected] at sent
    exact sent

/-- Settles O8: the frame is counted bad, and the one produced in its place is answered. -/
theorem badFrameSubstituted : Obligations.BadFrameSubstituted := by
  intro s bytes k hup hk hf hbad
  set s0 : State := { s with out := { s.out with downstream := [] } }
  set l : Link :=
    { s.link with badFrames := count s.link.badFrames 1, badRun := s.link.badRun + 1, silenceRunning := true } with hl
  have arrives : s0.arriveUp none = (s0.withLink l.produceSubstitute).frameUp := if_pos (Nat.succ_lt_succ hbad)
  have expected : l.expected = k + 1 := Link.expected_of_last hk
  have up := answers_frameUp (s0.withLink l.produceSubstitute)
  refine ⟨s0.arriveUp none, by rw [exec_frameArrival_up bytes hup, hf], ?_, ?_, ?_⟩
  · rw [arrives]
    exact (clearDownstream_keeps s).trans ((withLink_keeps s0 _).trans up.keeps)
  · obtain ⟨drives, ranges, sent⟩ := up.sent
    rw [arrives, sent]
    rfl
  · rw [arrives, up.link]
    show l.produceSubstitute = _
    unfold Link.produceSubstitute
    rw [expected]

end Sys2Proof.Machine
end

section
/-! The loss of the link (O10): every running unit judged RETEST_LINK in nest order, what it held given back, and every
other nest as it was. -/

namespace Sys2Proof.Machine

/-! ### Records of one nest in the capture ring -/

/-- Nothing joins a nest's records of the ring, and its provisional mark is kept. -/
structure Capture.Leaves (n : Nest) (c d : Capture) : Prop where
  mark : d.mark.get n = c.mark.get n
  records : ∀ x ∈ d.records, x.owner = n → x ∈ c.records

theorem Capture.Leaves.refl (n : Nest) (c : Capture) : Capture.Leaves n c c := ⟨rfl, fun _ hx _ => hx⟩

theorem Capture.Leaves.trans {n : Nest} {c d e : Capture} (h : Capture.Leaves n c d) (k : Capture.Leaves n d e) :
    Capture.Leaves n c e :=
  ⟨k.mark.trans h.mark, fun x hx ho => h.records x (k.records x hx ho) ho⟩

theorem Capture.Leaves.after {n : Nest} {c d e : Capture} (k : Capture.Leaves n d e) (h : Capture.Leaves n c d) :
    Capture.Leaves n c e := h.trans k

theorem Capture.leaves_reclaim (n : Nest) (c : Capture) : Capture.Leaves n c c.reclaim :=
  ⟨rfl, fun _ hx _ => (List.dropWhile_sublist _).subset hx⟩

theorem Capture.leaves_reserve {n m : Nest} (hm : n ≠ m) (c : Capture) (carrier : Word) (i : Nat) (st : Step)
    (first : Word) : Capture.Leaves n c (c.reserve m carrier i st first) := by
  refine ⟨PerNest.get_set_ne _ hm _, fun x hx ho => ?_⟩
  rcases List.mem_append.1 hx with old | new
  · exact old
  · rw [List.mem_singleton.1 new] at ho
    exact absurd ho.symm hm

/-- The records after a nest's provisional one is made VOID. -/
theorem Capture.mem_voidRecord {n : Nest} {c : Capture} {x : CaptureRecord} (hx : x ∈ (c.voidRecord n).records) :
    x ∈ c.records ∧ ¬ (x.state = .provisional ∧ c.mark.get n = some x.start ∧ x.owner = n) ∨
      x.state = .void ∧ x.owner = n := by
  unfold Capture.voidRecord Capture.change at hx
  cases hm : c.mark.get n with
  | none =>
    rw [hm] at hx
    exact Or.inl ⟨hx, by simp⟩
  | some a =>
    rw [hm] at hx
    obtain ⟨y, hy, rfl⟩ := List.mem_map.1 hx
    split
    · rename_i own
      exact Or.inr ⟨rfl, own.2.2⟩
    · rename_i other
      refine Or.inl ⟨hy, fun own => other ⟨own.1, ?_, own.2.2⟩⟩
      exact (Option.some.inj own.2.1).symm

theorem Capture.voidRecord_mark (n m : Nest) (c : Capture) :
    (c.voidRecord n).mark.get m = if m = n then none else c.mark.get m := by
  have same : (c.change n (fun r => { r with state := .void })).mark = c.mark := by
    unfold Capture.change; split <;> rfl
  show ((c.change n (fun r => { r with state := .void })).mark.set n none).get m = _
  rw [same, PerNest.get_set]

theorem Capture.leaves_voidRecord {n m : Nest} (hm : n ≠ m) (c : Capture) : Capture.Leaves n c (c.voidRecord m) := by
  refine ⟨by rw [Capture.voidRecord_mark, if_neg hm], fun x hx ho => ?_⟩
  rcases Capture.mem_voidRecord hx with old | new
  · exact old.1
  · exact absurd (ho.symm.trans new.2) hm

variable (s : State)

theorem leaves_reserveCapture {n m : Nest} (hm : n ≠ m) : Capture.Leaves n s.capture (s.reserveCapture m).capture := by
  unfold State.reserveCapture
  split
  · split
    · exact .refl n _
    · dsimp only
      split
      · exact .refl n _
      · split
        · exact Capture.leaves_reclaim n _
        · exact .after (Capture.leaves_reserve hm _ _ _ _ _) (Capture.leaves_reclaim n _)
  · exact .refl n _

theorem leaves_enterWindow {n m : Nest} (hm : n ≠ m) : Capture.Leaves n s.capture (s.enterWindow m).capture :=
  leaves_reserveCapture
    ((s.modNest m (fun q => { q with state := .window, windowCount := 0 })).modAnalyser (fun a => a.startWindow m)) hm

/-! ### What lanes given back leave alone -/

/-- Lanes handed on among other nests: nest `n`'s records of the ring, and its evaluation in flight. -/
structure HandsPast (n : Nest) (s t : State) : Prop where
  captures : Capture.Leaves n s.capture t.capture
  evaluation : t.analyser.evaluation.get n = s.analyser.evaluation.get n

theorem HandsPast.refl (n : Nest) : HandsPast n s s := ⟨.refl n _, rfl⟩

variable {s}

theorem HandsPast.trans {n : Nest} {s t u : State} (h : HandsPast n s t) (k : HandsPast n t u) : HandsPast n s u :=
  ⟨h.captures.trans k.captures, k.evaluation.trans h.evaluation⟩

theorem grant_evaluation (s : State) (r : LaneRequest) (rest : List LaneRequest) :
    (s.grant r rest).analyser.evaluation = s.analyser.evaluation := by
  unfold State.grant
  dsimp only
  split
  · rfl
  · rw [enterWindow_analyser]; rfl

theorem handsPast_grant {n : Nest} (s : State) {r : LaneRequest} (hr : n ≠ r.nest) (rest : List LaneRequest) :
    HandsPast n s (s.grant r rest) := by
  refine ⟨?_, by rw [grant_evaluation]⟩
  unfold State.grant
  dsimp only
  split
  · exact .refl n _
  · exact leaves_enterWindow (s.modAnalyser _) hr

/-- The grants from the head of a queue in which nest `n` has no request. -/
theorem handsPast_grantHeads {n : Nest} (fuel : Nat) {s : State} (hq : ∀ r ∈ s.analyser.queue, n ≠ r.nest) :
    HandsPast n s (s.grantHeads fuel) := by
  induction fuel generalizing s with
  | zero => exact .refl s n
  | succ fuel ih =>
    unfold State.grantHeads
    split
    · exact .refl s n
    · rename_i r rest queue
      split
      · refine (handsPast_grant s (hq r (by rw [queue]; exact List.mem_cons_self)) rest).trans (ih fun q hm => ?_)
        rw [grant_queue] at hm
        exact hq q (by rw [queue]; exact List.mem_cons_of_mem _ hm)
      · exact .refl s n

/-- The grants that follow a release of nest `m`'s lanes, for a nest that does not wait. -/
theorem handsPast_releaseLanes {n m : Nest} {s : State} (h : PoolBut none s) (hw : (s.nest n).state ≠ .waitLanes) :
    HandsPast n (s.modAnalyser fun a => a.release m) (s.releaseLanes m) :=
  handsPast_grantHeads _ fun _ hr e => hw (e ▸ waits_of_request h hr)

theorem release_evaluation (a : Analyser) (m n : Nest) :
    (a.release m).evaluation.get n = if n = m then none else a.evaluation.get n := PerNest.get_set _ m n none

/-- What another nest gives back, for a nest that does not wait. -/
theorem handsPast_giveBack {n m : Nest} (hm : n ≠ m) {s : State} (h : PoolBut none s)
    (hw : (s.nest n).state ≠ .waitLanes) : HandsPast n s (s.giveBack m) := by
  have released : HandsPast n s (s.releaseLanes m) := by
    have past := handsPast_releaseLanes (m := m) h hw
    exact ⟨past.captures, past.evaluation.trans ((release_evaluation _ m n).trans (if_neg hm))⟩
  have withdrawn : HandsPast n s (s.withdraw m) := by
    set s1 := s.modAnalyser fun a => { a with queue := a.queue.filter (fun r => decide (r.nest ≠ m)) }
    have past : HandsPast n s1 (s.withdraw m) := handsPast_grantHeads _ fun _ hr e =>
      hw (e ▸ waits_of_request h (List.mem_filter.1 hr).1)
    exact ⟨past.captures, past.evaluation⟩
  have voided : HandsPast n s ((s.releaseLanes m).voidCapture m) :=
    released.trans ⟨Capture.leaves_voidRecord hm _, rfl⟩
  unfold State.giveBack
  split
  · exact withdrawn
  · exact released
  · exact voided
  · exact voided
  all_goals exact .refl s n

/-- What a nest in WINDOW or EVALUATE gives back itself: its mark and its evaluation are gone, and its record is VOID. -/
theorem giveBack_own {n : Nest} {s : State} (h : PoolBut none s)
    (hs : (s.nest n).state = .window ∨ (s.nest n).state = .evaluate) :
    (s.giveBack n).capture.mark.get n = none ∧ (s.giveBack n).analyser.evaluation.get n = none ∧
      ∀ x ∈ (s.giveBack n).capture.records, x.owner = n →
        x.state = .void ∨ x ∈ s.capture.records ∧ ¬ (x.state = .provisional ∧ s.capture.mark.get n = some x.start) := by
  have hw : (s.nest n).state ≠ .waitLanes := by rcases hs with hs | hs <;> rw [hs] <;> decide
  have past := handsPast_releaseLanes (m := n) h hw
  have back : s.giveBack n = (s.releaseLanes n).voidCapture n := by
    unfold State.giveBack
    rcases hs with hs | hs <;> rw [hs]
  rw [back]
  refine ⟨(Capture.voidRecord_mark n n _).trans (if_pos rfl),
    past.evaluation.trans ((release_evaluation _ n n).trans (if_pos rfl)), fun x hx ho => ?_⟩
  rcases Capture.mem_voidRecord hx with ⟨old, kept⟩ | new
  · refine Or.inr ⟨past.captures.records x old ho, fun own => kept ⟨own.1, ?_, ho⟩⟩
    exact past.captures.mark.trans own.2
  · exact Or.inl new.1

/-! ### A verdict with a named class -/

theorem yieldVerdict_eq (s : State) (n : Nest) (id : Nat) (w : Word) (c : UnitClass) :
    s.yieldVerdict n id w c =
      { s with yield := (s.yieldVerdict n id w c).yield, port := (s.yieldVerdict n id w c).port } := by
  unfold State.yieldVerdict State.evaluateQuarantine State.evaluateHold
  dsimp only
  split <;> split <;> rfl

theorem recordVerdict_eq (s : State) (n : Nest) (c : Option UnitClass) :
    s.recordVerdict n c =
      { s with
          records := (s.recordVerdict n c).records
          yield := (s.recordVerdict n c).yield
          port := (s.recordVerdict n c).port } := by
  unfold State.recordVerdict
  split
  · rfl
  · dsimp only
    rw [yieldVerdict_eq]
    rfl

theorem record_of_records {s t : State} (h : t.records = s.records) (id : Nat) : t.record id = s.record id := by
  unfold State.record; rw [h]

theorem recordVerdict_named {s : State} {n : Nest} {id : Nat} (c : UnitClass) (hid : (s.nest n).record = some id)
    (hl : id < s.records.length) :
    (s.recordVerdict n (some c)).record id =
      (s.record id).judge (s.nest n).retries c (s.recipe.bins[c.code]?) := by
  unfold State.recordVerdict
  rw [hid]
  dsimp only [Option.getD_some]
  set u := (s.record id).judge (s.nest n).retries c (s.recipe.bins[c.code]?)
  obtain ⟨-, -, records, -⟩ :=
    yieldVerdict_rest ((s.setRecord id u).notice (.verdict id u false s.link.frameIndex)) n id (s.record id).carrier c
  exact (record_of_records records id).trans (State.record_setRecord s hl u)

/-- The state in which a verdict reaches a nest's record: deadline stopped, JUDGED, the generator ramping down. -/
def State.stopped (s : State) (n : Nest) : State :=
  let s1 := (s.modNest n (fun q => { q with deadlineRunning := false })).lowerUse n
  let s2 := (s1.modNest n (fun q => { q with state := .judged, gap := none })).setDetector n .stopped
  s2.modTone n (fun t => t.verdict)

theorem verdict_named (s : State) (n : Nest) (c : UnitClass) :
    s.verdict n (.named c) = (s.stopped n).recordVerdict n (some c) := rfl

theorem stopped_rest (s : State) (n : Nest) :
    (s.stopped n).capture = s.capture ∧ (s.stopped n).analyser.evaluation = s.analyser.evaluation ∧
      (s.stopped n).tones = s.tones.set n (s.tone n).verdict ∧ (s.stopped n).records = s.records ∧
      (s.stopped n).nest n = { s.nest n with deadlineRunning := false, state := .judged, gap := none } := by
  unfold State.stopped
  rw [lowerUse_eq]
  refine ⟨rfl, rfl, rfl, rfl, ?_⟩
  simp [State.nest]

/-- What a verdict with a named class does, but for who holds what (`Judges`). -/
structure Names (n : Nest) (c : UnitClass) (s t : State) : Prop where
  capture : t.capture = s.capture
  evaluation : t.analyser.evaluation = s.analyser.evaluation
  tones : ∀ m, m ≠ n → t.tone m = s.tone m
  deadline : (t.nest n).deadlineRunning = false
  judged : ∀ id, (s.nest n).record = some id → id < s.records.length →
    t.record id = (s.record id).judge (s.nest n).retries c (t.record id).binCopy
  records : ∀ id, (s.nest n).record ≠ some id → t.record id = s.record id

theorem names_verdict (s : State) (n : Nest) (c : UnitClass) : Names n c s (s.verdict n (.named c)) := by
  obtain ⟨capture, evaluation, tones, records, nest⟩ := stopped_rest s n
  obtain ⟨nests, -, -, -, others, -⟩ := recordVerdict_rest (s.stopped n) n (some c)
  have closed := recordVerdict_eq (s.stopped n) n (some c)
  have record := record_of_records records
  rw [verdict_named]
  refine ⟨?_, ?_, fun m hm => ?_, ?_, fun id hid hl => ?_, fun id hid => ?_⟩
  · refine Eq.trans ?_ capture; rw [closed]
  · refine Eq.trans ?_ evaluation; rw [closed]
  · refine Eq.trans (b := (s.stopped n).tone m) ?_ ?_
    · unfold State.tone; rw [closed]
    · unfold State.tone; rw [tones]; exact PerNest.get_set_ne _ hm _
  · have own : ((s.stopped n).recordVerdict n (some c)).nest n = (s.stopped n).nest n :=
      congrArg (fun x => PerNest.get x n) nests
    rw [own, nest]
  · rw [recordVerdict_named c (by rw [nest]; exact hid) (by rw [records]; exact hl), nest, record]
    rfl
  · exact (others id (by rw [nest]; exact hid)).trans (record id)

/-! ### One nest's run ended -/

/-- What the end of other nests' runs leaves to nest `n`. -/
structure Apart (n : Nest) (s t : State) : Prop where
  nest : GrantedOrSame (s.nest n) (t.nest n)
  tone : t.tone n = s.tone n
  past : (s.nest n).state ≠ .waitLanes → HandsPast n s t
  lanes : (s.nest n).state ≠ .waitLanes → t.analyser.lanesOf n = s.analyser.lanesOf n
  record : ∀ id, (s.nest n).record = some id →
    t.record id = { s.record id with capturesSkipped := (t.record id).capturesSkipped }

/-- A change of nothing that a nest's run is about. -/
theorem Apart.of_eq {n : Nest} {s t : State} (hn : t.nests = s.nests) (ht : t.tones = s.tones)
    (ha : t.analyser = s.analyser) (hc : t.capture = s.capture) (hr : t.records = s.records) : Apart n s t := by
  refine ⟨Or.inl ?_, ?_, fun _ => ⟨?_, by rw [ha]⟩, fun _ => by rw [ha], fun id _ => ?_⟩
  · unfold State.nest; rw [hn]
  · unfold State.tone; rw [ht]
  · rw [hc]; exact .refl n _
  · rw [record_of_records hr id]

theorem Apart.refl (n : Nest) (s : State) : Apart n s s := .of_eq rfl rfl rfl rfl rfl

theorem Apart.trans {n : Nest} {s t u : State} (h : Apart n s t) (k : Apart n t u) : Apart n s u := by
  have waits (hw : (s.nest n).state ≠ .waitLanes) : (t.nest n).state ≠ .waitLanes := by rwa [h.nest.same hw]
  refine ⟨h.nest.trans k.nest, k.tone.trans h.tone, fun hw => (h.past hw).trans (k.past (waits hw)),
    fun hw => (k.lanes (waits hw)).trans (h.lanes hw), fun id hid => ?_⟩
  rw [k.record id (by rw [h.nest.record]; exact hid), h.record id hid]

theorem apart_endForLink {n m : Nest} (hm : n ≠ m) {s : State} (h : Sound s) : Apart n s (State.endForLink m s) := by
  unfold State.endForLink
  split
  · rename_i hr
    have grants := grants_giveBack (n := m) h.1
    obtain ⟨hands, -⟩ := handsOn_giveBack m h.1
    have judges := judges_verdict (s.giveBack m) m (.named .retestLink)
    have names := names_verdict (s.giveBack m) m .retestLink
    obtain ⟨id, hid⟩ := record_of_holdsUnit h (holdsUnit_of_running hr)
    have own : ((s.giveBack m).nest m).record = some id := by rw [grants.out m rfl]; exact hid
    unfold State.endRun
    refine ⟨?_, ?_, fun hw => ?_, fun hw => ?_, fun k hk => ?_⟩
    · rw [judges.others n hm]; exact grants.nests n
    · rw [names.tones n hm]; unfold State.tone; rw [hands.rest]
    · refine (handsPast_giveBack hm h.1 hw).trans ⟨?_, by rw [names.evaluation]⟩
      rw [names.capture]; exact .refl n _
    · unfold Analyser.lanesOf
      rw [judges.lanes]
      exact grants.lanes n (by simpa using hm) hw
    · rw [names.records k, hands.skips k]
      rw [own, ← hid]
      exact fun e => record_ne h hm hid (hk.trans (e.symm.trans hid))
  · exact .refl n s

/-- A running unit has received RETEST_LINK in `t`, from state `s` on. -/
structure LosesLink (n : Nest) (s t : State) : Prop where
  state : (t.nest n).state = .judged
  deadline : (t.nest n).deadlineRunning = false
  record : (t.nest n).record = (s.nest n).record
  lanes : t.analyser.lanesOf n = 0
  evaluation : (s.nest n).state = .evaluate → t.analyser.evaluation.get n = none
  captures : (s.nest n).state = .window ∨ (s.nest n).state = .evaluate →
    t.capture.mark.get n = none ∧ ∀ x ∈ t.capture.records, x.owner = n →
      x.state = .void ∨ x ∈ s.capture.records ∧ ¬ (x.state = .provisional ∧ s.capture.mark.get n = some x.start)
  judged : ∀ id, (s.nest n).record = some id →
    (t.record id).state = .judged ∧ (t.record id).unitClass = some .retestLink ∧
      (t.record id).retriesUsed = (s.nest n).retries

theorem losesLink_endRun {n : Nest} {s : State} (h : Sound s) : LosesLink n s (s.endRun n .retestLink) := by
  have grants := grants_giveBack (n := n) h.1
  have own := grants.out n rfl
  have judges := judges_verdict (s.giveBack n) n (.named .retestLink)
  have names := names_verdict (s.giveBack n) n .retestLink
  unfold State.endRun
  refine ⟨judges.state, names.deadline, by rw [judges.record, own], ?_, fun hs => ?_, fun hs => ?_, fun id hid => ?_⟩
  · unfold Analyser.lanesOf
    rw [judges.lanes]
    exact (grants.pool.off n rfl).2
  · rw [names.evaluation]; exact (giveBack_own h.1 (Or.inr hs)).2.1
  · rw [names.capture]
    obtain ⟨mark, -, records⟩ := giveBack_own h.1 hs
    exact ⟨mark, records⟩
  · have held : (s.record id).state ≠ .free := by
      rw [← h.2.held id, (holdersBut_perm s n).mem_iff, hid]; simp
    rw [names.judged id (by rw [own]; exact hid) (by rw [grants.count]; exact record_lt held), own]
    exact ⟨rfl, rfl, rfl⟩

/-- Others' ends before a unit's own. -/
theorem LosesLink.prepend {n : Nest} {s t u : State} (h : LosesLink n t u) (a : Apart n s t) : LosesLink n s u := by
  refine ⟨h.state, h.deadline, h.record.trans a.nest.record, h.lanes, fun hs => ?_, fun hs => ?_, fun id hid => ?_⟩
  · have same := a.nest.same (by rw [hs]; decide)
    exact h.evaluation (by rw [same]; exact hs)
  · have hw : (s.nest n).state ≠ .waitLanes := by rcases hs with hs | hs <;> rw [hs] <;> decide
    obtain ⟨mark, records⟩ := h.captures (by rw [a.nest.same hw]; exact hs)
    have past := (a.past hw).captures
    refine ⟨mark, fun x hx ho => (records x hx ho).imp id fun ⟨old, kept⟩ => ⟨past.records x old ho, ?_⟩⟩
    rwa [← past.mark]
  · obtain ⟨state, unitClass, retries⟩ := h.judged id (by rw [a.nest.record]; exact hid)
    exact ⟨state, unitClass, retries.trans a.nest.retries⟩

/-- Others' ends behind a unit's own. -/
theorem LosesLink.append {n : Nest} {s t u : State} (h : LosesLink n s t) (a : Apart n t u) : LosesLink n s u := by
  have hw : (t.nest n).state ≠ .waitLanes := by rw [h.state]; decide
  have same := a.nest.same hw
  have past := a.past hw
  refine ⟨by rw [same]; exact h.state, by rw [same]; exact h.deadline, by rw [same]; exact h.record,
    (a.lanes hw).trans h.lanes, fun hs => past.evaluation.trans (h.evaluation hs), fun hs => ?_, fun id hid => ?_⟩
  · obtain ⟨mark, records⟩ := h.captures hs
    exact ⟨past.captures.mark.trans mark, fun x hx ho => records x (past.captures.records x hx ho) ho⟩
  · rw [a.record id (h.record.trans hid)]
    exact h.judged id hid

/-! ### The four nests in order -/

theorem endForLink_foldl_apart {n : Nest} {ns : List Nest} (hn : n ∉ ns) {s : State} (h : Sound s) :
    Sound (ns.foldl (fun t m => State.endForLink m t) s) ∧ Apart n s (ns.foldl (fun t m => State.endForLink m t) s) := by
  induction ns generalizing s with
  | nil => exact ⟨h, .refl n s⟩
  | cons m ns ih =>
    rw [List.mem_cons, not_or] at hn
    obtain ⟨sound, apart⟩ := ih hn.2 (endForLink_ok (n := m) h)
    exact ⟨sound, (apart_endForLink hn.1 h).trans apart⟩

/-- Nest `n` in its turn, some nests before and the others behind it. -/
theorem order_split (n : Nest) : ∃ before later, Nest.order = before ++ n :: later ∧ n ∉ before ∧ n ∉ later := by
  cases n
  · exact ⟨[], [.n2, .n3, .n4], rfl, by decide, by decide⟩
  · exact ⟨[.n1], [.n3, .n4], rfl, by decide, by decide⟩
  · exact ⟨[.n1, .n2], [.n4], rfl, by decide, by decide⟩
  · exact ⟨[.n1, .n2, .n3], [], rfl, by decide, by decide⟩

/-- Every running unit receives RETEST_LINK; a nest that is not running is left alone. -/
theorem inNestOrder_endForLink {s : State} (h : Sound s) (n : Nest) :
    let t := inNestOrder State.endForLink s
    ((s.nest n).state.running = false → t.nest n = s.nest n ∧ t.tone n = s.tone n) ∧
      ((s.nest n).state.running = true → LosesLink n s t) := by
  obtain ⟨before, later, order, notBefore, notLater⟩ := order_split n
  obtain ⟨soundBefore, apartBefore⟩ := endForLink_foldl_apart notBefore h
  obtain ⟨-, apartLater⟩ := endForLink_foldl_apart notLater (endForLink_ok (n := n) soundBefore)
  have turns : inNestOrder State.endForLink s = Nest.order.foldl (fun t m => State.endForLink m t) s := rfl
  intro t
  have ht : t = later.foldl (fun t m => State.endForLink m t)
      (State.endForLink n (before.foldl (fun t m => State.endForLink m t) s)) := by
    rw [show t = _ from turns, order, List.foldl_append, List.foldl_cons]
  rw [← ht] at apartLater
  set a := before.foldl (fun t m => State.endForLink m t) s
  refine ⟨fun rests => ?_, fun runs => ?_⟩
  · have waits : (s.nest n).state ≠ .waitLanes := by intro e; rw [e] at rests; cases rests
    have own : State.endForLink n a = a := by
      unfold State.endForLink
      rw [apartBefore.nest.same waits, rests]
      rfl
    rw [own] at apartLater
    have apart := apartBefore.trans apartLater
    exact ⟨apart.nest.same waits, apart.tone⟩
  · have running : (a.nest n).state.running = true := by rw [apartBefore.nest.running]; exact runs
    have own : State.endForLink n a = a.endRun n .retestLink := if_pos running
    rw [own] at apartLater
    exact ((losesLink_endRun soundBefore).prepend apartBefore).append apartLater

/-! ### The loss of the link -/

theorem LosesLink.givenBack {n : Nest} {s t : State} (h : LosesLink n s t) (k : Sound t) : s.givenBack t n := by
  refine ⟨h.lanes, ?_, h.evaluation, fun hs => ?_⟩
  · rw [k.1.requests n (by simp), if_neg (by rw [h.state]; decide)]
  · obtain ⟨mark, records⟩ := h.captures hs
    refine ⟨mark, fun r provisional x hx ho start => (records x hx ho).imp id fun ⟨old, kept⟩ =>
      ⟨old, fun hp => kept ⟨hp, ?_⟩⟩⟩
    unfold Capture.provisional at provisional
    split at provisional
    · cases provisional
    · rename_i a marked
      have found := List.find?_some provisional
      simp only [Bool.and_eq_true, decide_eq_true_eq] at found
      rw [marked, start, found.1.2]

/-- The LINK notice is the last where the queue has room for it at the end. -/
theorem notice_getLast {p : Port} {x : Notice} (allowed : p.enables.allow x = true)
    (room : (p.notice x).notices.length < 32) : (p.notice x).notices.getLast? = some x := by
  unfold Port.notice at room ⊢
  rw [if_pos allowed] at room ⊢
  split at room
  · rename_i h; rw [if_pos h]; exact List.getLast?_concat
  · rename_i h; exact absurd room h

/-- What the loss of the link does to a sound state. -/
structure LinkLost (s t : State) : Prop where
  keeps : s.Keeps t
  link : t.link = s.link.goDown
  out : t.out = s.out
  taps : t.port.taps = List.replicate 9 .empty
  tapQueue : t.port.tapQueue = s.port.tapQueue
  notice : s.port.enables.link = true → t.port.notices.length < 32 →
    t.port.notices.getLast? = some (.link .linkDown s.link.frameIndex (count s.link.linkDowns 1))
  queue : t.analyser.queue = []
  resting : ∀ n, (s.nest n).state.running = false → t.nest n = s.nest n ∧ t.tone n = s.tone n
  running : ∀ n, (s.nest n).state.running = true → LosesLink n s t
  sound : Sound t

theorem linkLost_linkLoss {s : State} (h : Sound s) : LinkLost s s.linkLoss := by
  set s1 : State := { s with link := s.link.goDown, port := { s.port with taps := List.replicate 9 .empty } }
  set s2 := inNestOrder State.endForLink s1
  have sound1 : Sound s1 := h.same rfl rfl rfl rfl
  have moves : Moves s1 s2 := moves_inNestOrder s1 _ fun n s => moves_endForLink s n
  have ended := inNestOrder_endForLink sound1
  have sound : Sound s.linkLoss := linkLoss_ok h
  have noticed : s.linkLoss = s2.notice (.link .linkDown s.link.frameIndex (count s.link.linkDowns 1)) := by
    show s2.notice (.link s2.link.state s2.link.frameIndex s2.link.linkDowns) = _
    rw [moves.link]
    rfl
  have moved : Moves s1 s.linkLoss := by rw [noticed]; exact moves.trans (moves_notice s2 _)
  have start : s.Keeps s1 := by constructor <;> rfl
  refine
    { keeps := start.trans moved.keeps, link := moved.link, out := moved.out, taps := moved.port.taps
      tapQueue := moved.port.tapQueue, notice := fun enabled room => ?_, queue := ?_, sound := sound
      resting := fun n => (ended n).1, running := fun n runs => ?_ }
  · rw [noticed] at room ⊢
    refine notice_getLast ?_ room
    show s2.port.enables.link = true
    rw [moves.port.enables]
    exact enabled
  · refine List.eq_nil_iff_forall_not_mem.2 fun r hr => ?_
    have waits : (s.linkLoss.nest r.nest).state = .waitLanes := waits_of_request sound.1 hr
    rw [noticed, State.notice_nest] at waits
    cases hrun : (s1.nest r.nest).state.running with
    | false =>
      rw [((ended r.nest).1 hrun).1] at waits
      rw [waits] at hrun
      cases hrun
    | true =>
      rw [((ended r.nest).2 hrun).state] at waits
      cases waits
  · rw [noticed]
    have before : Apart n s s1 := .of_eq rfl rfl rfl rfl rfl
    exact (((ended n).2 runs).prepend before).append (.of_eq rfl rfl rfl rfl rfl)

/-- The events that take the link out of LINK_UP lose it from a state with the same units, whose link differs in its bad
frames and its silence timer alone. -/
theorem exec_leavesLinkUp {s : State} {c : Instr} (h : s.leavesLinkUp c) :
    ∃ l : Link, ∃ o : Outputs,
      exec c s = .next ({ s with link := l, out := o } : State).linkLoss ∧
        (∀ b, c = .frameArrival b → o.downstream = []) ∧ l.frameIndex = s.link.frameIndex ∧ l.lastGood = s.link.lastGood ∧ l.missingFrames = s.link.missingFrames ∧
        l.linkDowns = s.link.linkDowns := by
  unfold State.leavesLinkUp at h
  split at h
  · rename_i bytes
    obtain ⟨up, ⟨f, k, hf, hk, far⟩ | ⟨hf, run⟩⟩ := h
    · refine ⟨s.link, { s.out with downstream := [] }, ?_, fun _ _ => rfl, rfl, rfl, rfl, rfl⟩
      rw [exec_frameArrival_up bytes up, hf]
      have expected : s.link.expected = k + 1 := Link.expected_of_last hk
      exact congrArg _ (if_pos (by rw [expected]; exact far))
    · refine ⟨{ s.link with badFrames := count s.link.badFrames 1, badRun := s.link.badRun + 1, silenceRunning := true },
        { s.out with downstream := [] }, ?_, fun _ _ => rfl, rfl, rfl, rfl, rfl⟩
      rw [exec_frameArrival_up bytes up, hf]
      refine congrArg _ ((if_neg ?_).trans (if_pos ⟨up, ?_⟩))
      · show ¬ s.link.badRun + 1 < 16; omega
      · show 16 ≤ s.link.badRun + 1; omega
  · exact ⟨s.link, s.out, congrArg _ (if_pos h), (fun b e => by cases e), rfl, rfl, rfl, rfl⟩
  · refine ⟨s.link, s.out, ?_, (fun b e => by cases e), rfl, rfl, rfl, rfl⟩
    show execSilenceTimeout s = _
    unfold execSilenceTimeout
    rw [if_pos h.2, h.1]
  · exact h.elim

/-- Settles O10: in nest order, each running unit is ended while the others keep what the statement says of them. -/
theorem linkLossEndsRuns : Obligations.LinkLossEndsRuns := by
  intro s c hs hc
  obtain ⟨l, o, run, cleared, index, good, missing, downs⟩ := exec_leavesLinkUp hc
  set s0 : State := { s with link := l, out := o }
  have sound0 : Sound s0 := ((sound_iff s).2 hs).same rfl rfl rfl rfl
  have lost := linkLost_linkLoss sound0
  have start : s.Keeps s0 := by constructor <;> rfl
  refine ⟨s0.linkLoss, run, start.trans lost.keeps, by rw [lost.link]; rfl, by rw [lost.link]; rfl,
    by rw [lost.link]; exact index, by rw [lost.link]; exact good, by rw [lost.link]; exact missing, ?_,
    fun b hb => by rw [lost.out]; exact cleared b hb, lost.taps, lost.tapQueue, ?_, lost.queue, fun n => ?_⟩
  · rw [lost.link, ← downs]; rfl
  · rw [← index, ← downs]; exact lost.notice
  · refine ⟨lost.resting n, fun runs => ?_⟩
    have ended := lost.running n runs
    exact ⟨ended.state, ended.deadline, ended.record, ended.givenBack lost.sound, ended.judged⟩

end Sys2Proof.Machine
end

section
/-! Statements about frames that fail in states no run from reset reaches: a missing-frame counter above its maximum (O6),
and a nest that waits for lanes without running (O11, O12). -/

namespace Sys2Proof.Machine

/-- A good frame with number 1, silent but for channel 5's overload flag. -/
def overloadFrame : List Byte := [0x00, 0x01] ++ List.replicate 15 0x00 ++ [0x10, 0x47, 0x78]

def overloadFields : UpstreamFrame := ⟨1, List.replicate 5 0, [false, false, false, false, true]⟩

theorem overloadFrame_reads : UpstreamFrame.ofBytes overloadFrame = some overloadFields := by decide +kernel

/-! ### A counter above its maximum -/

/-- LINK_UP with one more missing frame counted than the counter can hold. -/
def overcounted : State :=
  { State.reset with
      link := { Link.reset with state := .linkUp, lastNumber := some 0, missingFrames := Config.counterMax + 1 } }

/-- Refutes O6: R25's counter takes part in a frame without a gap too, counting none, and saturates; above its maximum,
which no run reaches, counting none lowers it. -/
theorem not_inSequenceFrame : ¬ Obligations.InSequenceFrame := by
  intro h
  obtain ⟨t, run, -, -, link, -⟩ := h overcounted overloadFrame overloadFields 0 rfl rfl overloadFrame_reads rfl
  set s0 : State := { overcounted with out := { overcounted.out with downstream := [] } }
  have arrives : exec (.frameArrival overloadFrame) overcounted = .next (s0.arriveUp (some overloadFields)) := by
    rw [exec_frameArrival_up _ rfl, overloadFrame_reads]
  obtain rfl : s0.arriveUp (some overloadFields) = t := Host.Outcome.next.inj (arrives.symm.trans run)
  obtain ⟨-, counted, -⟩ := arriveUp_good (s := s0) (f := overloadFields) (by decide)
  have kept : (s0.arriveUp (some overloadFields)).link.missingFrames = Config.counterMax + 1 := by rw [link]; rfl
  have lowered : (s0.arriveUp (some overloadFields)).link.missingFrames = Config.counterMax := by
    rw [counted, Link.produceGood_substituted]
    exact Nat.min_eq_right (Nat.le_trans (Nat.le_succ _) (Nat.le_add_right _ _))
  exact absurd (kept.symm.trans lowered) (by decide)

/-! ### A nest that waits for lanes without running -/

/-- A guarded MEASURE step without limits. -/
def guardedStep : Step :=
  { measure := true, frequency := 0, level := 0, range := .mid, dwell := .timed, settleMs := 0, capMs := 0
    tolerance := 0, cycles := 0, window := 0, guarded := true, limitIndex := none, bandLow := 0, bandHigh := 0, onCycles := 0
    offCycles := 0, repeats := 0 }

/-- Before a frame that brings an enabled guard LOUD: nest 1 in a guarded window with no retry left; nest 2 IDLE, and yet
with a lane request, a deadline run out and a burst. No run reaches it: the pool is not sound. -/
def idleWaiting (q : LinkState) : State :=
  { State.reset with
      link := { Link.reset with state := q, lastNumber := some 0 }
      nests :=
        { PerNest.all Sequencer.reset with
            n1 := { Sequencer.reset with state := .window, windowCount := 1, step := some guardedStep }
            n2 := { Sequencer.reset with deadlineRunning := true } }
      tones := { PerNest.all Tone.reset with n2 := { Tone.reset with burst := some ⟨true, 1, 1⟩ } }
      analyser := { Analyser.reset with queue := [⟨.n2, 0, []⟩] }
      guard := { Guard.reset with enable := true } }

/-- Nest 2's burst in a next state. -/
def burstAfter : Host.Outcome State Fault Refusal → Option Burst
  | .next t => (t.tone .n2).burst
  | _ => none

/-- The spoilt window's lanes let nest 2 into WINDOW, where its deadline ends it and clears its burst. -/
theorem idleWaiting_losesBurst :
    burstAfter (exec (.frameArrival overloadFrame) (idleWaiting .linkDown)) = none ∧
      burstAfter (exec (.frameArrival overloadFrame) (idleWaiting .acquiring)) = none := by decide +kernel

/-- One frame on, a generator holds the burst it held. -/
theorem idleWaiting_oneFrameOn (q : LinkState) : ((idleWaiting q).begun .n2).oneFrameOn.burst = some ⟨true, 1, 1⟩ := rfl

theorem idleWaiting_notOneFrameOn {q : LinkState} {t : State}
    (lost : burstAfter (exec (.frameArrival overloadFrame) (idleWaiting q)) = none)
    (run : exec (.frameArrival overloadFrame) (idleWaiting q) = .next t) :
    t.tone .n2 ≠ ((idleWaiting q).begun .n2).oneFrameOn := by
  intro same
  rw [run] at lost
  have held := idleWaiting_oneFrameOn q
  rw [← same] at held
  exact absurd (held.symm.trans lost) (by decide)

/-- Refutes O11: its clause on the generators of resting nests stands outside the premise of a sound state, and nest 2 of
`idleWaiting` breaks it. -/
theorem not_acquisitionStarts : ¬ Obligations.AcquisitionStarts := by
  intro h
  obtain ⟨t, run, -, -, -, -, tones, -⟩ := (h (idleWaiting .linkDown) overloadFrame rfl).2 _ overloadFrame_reads
  exact idleWaiting_notOneFrameOn idleWaiting_losesBurst.1 run (tones .n2 rfl)

/-- Refutes O12: its clause on the generators of resting nests stands outside the premise of a sound state, as in O11. -/
theorem not_acquisitionRuns : ¬ Obligations.AcquisitionRuns := by
  intro h
  obtain ⟨inSequence, -⟩ := h (idleWaiting .acquiring) 0 rfl rfl
  obtain ⟨t, run, -, -, -, -, tones, -⟩ := inSequence overloadFrame _ overloadFrame_reads rfl
  exact idleWaiting_notOneFrameOn idleWaiting_losesBurst.2 run (tones .n2 rfl)

end Sys2Proof.Machine
end

section
/-! The grant check (O22) and the end of SETTLE (O19); the window's end (O23), the dwell rule and the lane plan (O18), and
the hold's end (O15). -/

namespace Sys2Proof.Machine

theorem Moves.keepsLink {s t : State} (h : Moves s t) : s.KeepsLink t :=
  { h.keeps with link := h.link, taps := h.port.taps, tapQueue := h.port.tapQueue, out := h.out }

/-! ### Lanes assigned -/

/-- A plan that fits takes as many FREE lanes as it has harmonics, all for its nest. -/
theorem countP_assignLanes (n : Nest) (p : List (Nat × LaneRole)) (ls : List (Option Assignment))
    (fits : p.length ≤ ls.countP Option.isNone) :
    (assignLanes n p ls).countP Option.isNone + p.length = ls.countP Option.isNone ∧
      (assignLanes n p ls).countP (laneOf n) = ls.countP (laneOf n) + p.length := by
  fun_induction assignLanes n p ls with
  | case1 => simp
  | case2 => simp at fits
  | case3 p ps x ls ih =>
    simp only [List.countP_cons, Option.isNone_some] at fits ⊢
    have := ih (by simpa using fits)
    simp only [List.length_cons] at this ⊢
    omega
  | case4 p ps ls ih =>
    simp only [List.countP_cons, Option.isNone_none, Option.isNone_some, List.length_cons, laneOf, Option.any_some,
      Option.any_none, decide_true] at fits ih ⊢
    have := ih (by simpa using fits)
    simp at this ⊢
    omega

theorem Analyser.freeLanes_mapLanes (a : Analyser) (n : Nest) (f : Assignment → Assignment) :
    (a.mapLanes n f).freeLanes = a.freeLanes := by
  unfold Analyser.freeLanes Analyser.mapLanes
  rw [List.countP_map]
  congr 1
  funext l
  cases l <;> simp [laneOf]
  split <;> rfl

/-! ### One grant -/

variable (s : State) (r : LaneRequest) (rest : List LaneRequest)

/-- The lanes after a grant: those of the plan put on FREE lanes, whatever phase an entry to WINDOW gives them. -/
theorem grant_counts :
    (s.grant r rest).analyser.freeLanes = (assignLanes r.nest r.plan s.analyser.lanes).countP Option.isNone ∧
      (s.grant r rest).analyser.lanesOf r.nest = (assignLanes r.nest r.plan s.analyser.lanes).countP (laneOf r.nest) ∧
      (s.grant r rest).analyser.overload.get r.nest = false := by
  unfold State.grant
  dsimp only
  split
  · exact ⟨rfl, rfl, PerNest.get_set_self _ _ _⟩
  · rw [enterWindow_analyser, Analyser.lanesOf_startWindow]
    exact ⟨Analyser.freeLanes_mapLanes _ _ _, rfl, PerNest.get_set_self _ _ _⟩

/-- The attempt at a capture record reads the nest's record, step, settings and step index alone. -/
theorem reserveCapture_of_nest {s t : State} {n : Nest} (record : (t.nest n).record = (s.nest n).record)
    (step : (t.nest n).step = (s.nest n).step) (settings : (t.nest n).settings = (s.nest n).settings)
    (index : (t.nest n).stepIndex = (s.nest n).stepIndex) (records : t.records = s.records)
    (capture : t.capture = s.capture) (link : t.link = s.link) :
    (t.reserveCapture n).capture = (s.reserveCapture n).capture ∧
      (t.reserveCapture n).records = (s.reserveCapture n).records := by
  unfold State.reserveCapture State.setRecord State.record
  rw [record, step, settings, index, records, capture, link]
  split
  · split
    · exact ⟨capture, records⟩
    · dsimp only
      split
      · exact ⟨capture, records⟩
      · split
        · exact ⟨rfl, rfl⟩
        · exact ⟨rfl, rfl⟩
  · exact ⟨capture, records⟩

theorem enterWindow_capture (n : Nest) :
    (s.enterWindow n).capture = (s.reserveCapture n).capture ∧ (s.enterWindow n).records = (s.reserveCapture n).records := by
  refine reserveCapture_of_nest ?_ ?_ ?_ ?_ rfl rfl rfl <;> simp

/-- A grant into GUARD_WAIT leaves the captures alone; one into WINDOW makes the attempt at a record. -/
theorem grant_capture :
    ((s.nest r.nest).guarded = true ∧ s.guard.loud = true →
      (s.grant r rest).capture = s.capture ∧ (s.grant r rest).records = s.records) ∧
    (¬ ((s.nest r.nest).guarded = true ∧ s.guard.loud = true) →
      (s.grant r rest).capture = (s.reserveCapture r.nest).capture ∧
        (s.grant r rest).records = (s.reserveCapture r.nest).records) := by
  set s1 := s.modAnalyser (fun a =>
    ({ a with lanes := assignLanes r.nest r.plan a.lanes, queue := rest } : Analyser).setOverload r.nest false) with h1
  have unfolded : s.grant r rest =
      if (s.nest r.nest).guarded = true ∧ s.guard.loud = true then
        s1.modNest r.nest (fun q => { q with state := .guardWait })
      else s1.enterWindow r.nest := rfl
  refine ⟨fun loud => ?_, fun quiet => ?_⟩
  · rw [unfolded, if_pos loud]
    exact ⟨rfl, rfl⟩
  · rw [unfolded, if_neg quiet]
    obtain ⟨capture, records⟩ := enterWindow_capture s1 r.nest
    obtain ⟨same, sameRecords⟩ : (s1.reserveCapture r.nest).capture = (s.reserveCapture r.nest).capture ∧
        (s1.reserveCapture r.nest).records = (s.reserveCapture r.nest).records :=
      reserveCapture_of_nest rfl rfl rfl rfl rfl rfl rfl
    exact ⟨capture.trans same, records.trans sameRecords⟩

/-! ### The grant check -/

/-- The grant check looks at the head of the queue, and goes on behind it where it fits (R88). -/
theorem grantCheck_cons {s : State} {r : LaneRequest} {rest : List LaneRequest} (queue : s.analyser.queue = r :: rest) :
    s.grantCheck = if r.size ≤ s.analyser.freeLanes then (s.grant r rest).grantCheck else s := by
  unfold State.grantCheck
  rw [grant_queue, queue, List.length_cons, State.grantHeads, queue]

theorem grantCheck_nil {s : State} (queue : s.analyser.queue = []) : s.grantCheck = s := by
  unfold State.grantCheck
  rw [queue]
  rfl

/-- Nothing is granted where the head does not fit, or there is none. -/
theorem grantCheck_stays {s : State} (stuck : ∀ x, s.analyser.queue.head? = some x → s.analyser.freeLanes < x.size) :
    s.grantCheck = s := by
  cases queue : s.analyser.queue with
  | nil => exact grantCheck_nil queue
  | cons x rest =>
    rw [grantCheck_cons queue, if_neg]
    exact Nat.not_le.2 (stuck x (by rw [queue]; rfl))

/-- Settles O22: the head's grant read off `grant_nest`, `grant_counts` and `grant_capture`, and the check behind it. -/
theorem headRequestGranted : Obligations.HeadRequestGranted := by
  intro s
  refine ⟨fun queue => congrArg _ (grantCheck_nil queue), fun r rest queue long => congrArg Host.Outcome.next ?_,
    fun r rest queue fits size => ⟨s.grant r rest, ?_, ?_, (moves_grant s r rest).keepsLink, grant_queue s r rest, ?_⟩⟩
  · refine grantCheck_stays fun x hx => ?_
    rw [queue] at hx
    exact Option.some.inj hx ▸ long
  · exact congrArg Host.Outcome.next ((grantCheck_cons queue).trans (if_pos fits))
  · intro stuck
    refine congrArg _ (((grantCheck_cons queue).trans (if_pos fits)).trans (grantCheck_stays ?_))
    rwa [grant_queue]
  · obtain ⟨free, lanes, overload⟩ := grant_counts s r rest
    obtain ⟨taken, assigned⟩ := countP_assignLanes r.nest r.plan s.analyser.lanes (size ▸ fits)
    obtain ⟨loud, quiet⟩ := grant_capture s r rest
    have own := grant_nest s r rest r.nest
    rw [if_pos rfl] at own
    refine ⟨?_, ?_, overload, fun h => ⟨own.trans (if_pos h), loud h⟩, fun h => ⟨own.trans (if_neg h), quiet h⟩,
      fun m hm => ⟨(grant_nest s r rest m).trans (if_neg hm), grant_lanesOf_ne s r rest hm⟩⟩
    · rw [free, size]
      exact (Nat.sub_eq_of_eq_add taken.symm).symm
    · rw [lanes, assigned, size]
      rfl

/-! ### The end of SETTLE -/

/-- The nest in WAIT_LANES, its detector stopped and its request at the tail: before the grant check. -/
def State.asked (s : State) (n : Nest) (st : Step) : State :=
  { s.setNest n { s.nest n with state := .waitLanes } with
      analyser :=
        { s.analyser.setDetector n .stopped with
            queue := s.analyser.queue ++ [⟨n, (lanePlan st (s.nest n).limits).length, lanePlan st (s.nest n).limits⟩] } }

theorem requestLanes_eq {s : State} {n : Nest} {st : Step} (step : (s.nest n).step = some st) :
    s.requestLanes n = (s.asked n st).grantCheck := by
  unfold State.requestLanes
  rw [step]
  rfl

@[simp] theorem asked_nest (s : State) (n : Nest) (st : Step) :
    (s.asked n st).nest n = { s.nest n with state := .waitLanes } := State.nest_setNest s n _

theorem asked_nest_ne (s : State) {n m : Nest} (hm : m ≠ n) (st : Step) : (s.asked n st).nest m = s.nest m :=
  State.nest_setNest_ne s hm _

/-- A nest's dwell rule holds once its settle time has elapsed: the event asks for its lanes. -/
theorem exec_settleTimeElapsed {s : State} {n : Nest} {st : Step} (settle : (s.nest n).state = .settle)
    (step : (s.nest n).step = some st) (time : 96 * st.settleMs ≤ (s.nest n).settleElapsed)
    (settled : settleTest st (s.nest n).settleElapsed (s.nest n).settledSeen = .settled) :
    exec (.settleTimeElapsed n) s = .next (s.asked n st).grantCheck := by
  refine congrArg _ ((if_pos ⟨?_, ?_⟩).trans (requestLanes_eq step))
  · rw [step]
    exact decide_eq_true time
  · unfold Sequencer.settleTest
    rw [settle, step]
    exact settled

/-- Settles O19: the request joins the queue, and an empty queue with enough FREE lanes grants it. -/
theorem settleTimeRequestsLanes : Obligations.SettleTimeRequestsLanes := by
  intro s n st settle step time settled plan
  have run := exec_settleTimeElapsed settle step time settled
  refine ⟨fun long => run.trans (congrArg _ (grantCheck_stays fun x hx => ?_)), fun empty fits => ?_⟩
  · have tail : (s.asked n st).analyser.queue = s.analyser.queue ++ [⟨n, plan.length, plan⟩] := rfl
    rw [tail] at hx
    cases queue : s.analyser.queue <;> rw [queue] at hx long <;> cases hx <;> exact long
  · set a := s.asked n st with ha
    set r : LaneRequest := ⟨n, plan.length, plan⟩ with hr
    have queue : a.analyser.queue = [r] := congrArg (· ++ [r]) empty
    have granted : a.grantCheck = a.grant r [] := by
      exact (grantCheck_cons queue).trans ((if_pos fits).trans (grantCheck_nil (grant_queue a r [])))
    have moved : Moves s (s.requestLanes n) := moves_requestLanes s n
    rw [requestLanes_eq step, granted] at moved
    obtain ⟨free, lanes, overload⟩ := grant_counts a r []
    obtain ⟨taken, assigned⟩ := countP_assignLanes n plan s.analyser.lanes fits
    obtain ⟨loud, quiet⟩ := grant_capture a r []
    have guarded : (a.nest n).guarded = st.guarded := by
      rw [ha, asked_nest]
      unfold Sequencer.guarded
      rw [step]
      rfl
    have own := grant_nest a r [] n
    rw [if_pos rfl, guarded, asked_nest] at own
    rw [guarded] at loud quiet
    obtain ⟨capture, records⟩ : (a.reserveCapture n).capture = (s.reserveCapture n).capture ∧
        (a.reserveCapture n).records = (s.reserveCapture n).records := by
      refine reserveCapture_of_nest ?_ ?_ ?_ ?_ rfl rfl rfl <;> rw [ha, asked_nest]
    refine ⟨a.grant r [], run.trans (congrArg _ granted), moved.keepsLink, grant_queue a r [], ?_, ?_, overload,
      fun h => ⟨own.trans (if_pos h), loud h⟩, fun h => ⟨own.trans (if_neg h), ?_, ?_⟩, fun m hm => ?_⟩
    · rw [free]
      exact (Nat.sub_eq_of_eq_add taken.symm).symm
    · exact lanes.trans assigned
    · exact (quiet h).1.trans capture
    · exact (quiet h).2.trans records
    · rw [grant_nest, if_neg hm]
      exact asked_nest_ne s hm st

/-! ### The window's N-th frame -/

/-- Settles O23. -/
theorem windowCompletes : Obligations.WindowCompletes := by
  intro s n st window step full
  have due : (s.nest n).step.any (fun st => decide (st.window ≤ (s.nest n).windowCount)) = true := by
    rw [step]
    exact decide_eq_true full
  have lanes : (s.analyser.mapLanes n (fun x => { x with phase := .evaluating })).lanes =
      s.analyser.lanes.map (fun l => l.map (fun a => if a.nest = n then { a with phase := .evaluating } else a)) := by
    refine List.map_congr_left fun l _ => ?_
    cases l with
    | none => rfl
    | some x => by_cases h : x.nest = n <;> simp [laneOf, h]
  refine congrArg _ ((if_pos ⟨window, due⟩).trans ?_)
  rw [← lanes]
  rfl

/-! ### The dwell rule and the lane plan -/

theorem settleTest_eq (st : Step) (elapsed : Nat) (seen : Bool) :
    settleTest st elapsed seen =
      if dwellHolds st elapsed seen = true then .settled
      else if 96 * st.capMs ≤ elapsed then .unsettled else .wait := by
  unfold settleTest capReached
  simp only [decide_eq_true_eq, Config.framesPerMs]

theorem dwellHolds_iff (st : Step) (elapsed : Nat) (seen : Bool) :
    dwellHolds st elapsed seen = true ↔
      match st.dwell with
      | .timed => 96 * st.settleMs ≤ elapsed
      | .settled => seen = true
      | .both => 96 * st.settleMs ≤ elapsed ∧ seen = true
      | .either => 96 * st.settleMs ≤ elapsed ∨ seen = true := by
  unfold dwellHolds timeElapsed
  cases st.dwell <;> simp [Config.framesPerMs]

theorem mem_keptHarmonics (f lo hi k : Nat) : k ∈ keptHarmonics f lo hi ↔ lo ≤ k ∧ k ≤ hi ∧ k * f ≤ 4320000 := by
  unfold keptHarmonics
  rw [List.mem_filter, List.mem_range'_1, decide_eq_true_eq]
  omega

/-- The harmonics that a bound brings into a plan, each in its role. -/
theorem mem_planPart (present : Bool) (role : LaneRole) (f lo hi k : Nat) (r : LaneRole) :
    (k, r) ∈ (if present = true then (keptHarmonics f lo hi).map (fun k => (k, role)) else []) ↔
      r = role ∧ present = true ∧ lo ≤ k ∧ k ≤ hi ∧ k * f ≤ 4320000 := by
  cases present with
  | false => simp
  | true =>
    rw [if_pos rfl, List.mem_map]
    constructor
    · rintro ⟨j, hj, e⟩
      cases e
      exact ⟨rfl, rfl, (mem_keptHarmonics f lo hi k).1 hj⟩
    · rintro ⟨rfl, -, hk⟩
      exact ⟨k, (mem_keptHarmonics f lo hi k).2 hk, rfl⟩

/-- Settles O18: the rule before the cap, and the three parts of a plan. -/
theorem dwellRuleAndLanePlan : Obligations.DwellRuleAndLanePlan := by
  refine ⟨?_, fun st lim k r => ?_⟩
  · intro st elapsed seen time holds
    have rule : dwellHolds st elapsed seen = true ↔ holds := dwellHolds_iff st elapsed seen
    rw [settleTest_eq]
    refine ⟨fun h => if_pos (rule.2 h), fun h cap => ?_, fun h cap => ?_⟩
    · rw [if_neg (fun k => h (rule.1 k)), if_pos cap]
    · rw [if_neg (fun k => h (rule.1 k)), if_neg (Nat.not_le.2 cap)]
  · unfold lanePlan
    rw [List.mem_append, List.mem_append, mem_planPart, mem_planPart, List.mem_singleton, Prod.mk.injEq, or_assoc]

/-! ### The hold's end -/

/-- Entries to WINDOW leave these blocks alone. -/
theorem enterWindows_rest (ns : List Nest) :
    (ns.foldl State.enterWindow s).recipe = s.recipe ∧ (ns.foldl State.enterWindow s).tones = s.tones ∧
      (ns.foldl State.enterWindow s).yield = s.yield ∧ (ns.foldl State.enterWindow s).marking = s.marking ∧
      (ns.foldl State.enterWindow s).guard = s.guard ∧ (ns.foldl State.enterWindow s).port = s.port ∧
      (ns.foldl State.enterWindow s).link = s.link := by
  induction ns generalizing s with
  | nil => exact ⟨rfl, rfl, rfl, rfl, rfl, rfl, rfl⟩
  | cons n ns ih =>
    have e := (handsOn_enterWindow s n).1.rest
    have := ih (s.enterWindow n)
    rw [List.foldl_cons]
    rw [e] at this ⊢
    exact this

theorem enterWindows_nest (ns : List Nest) (m : Nest) :
    (ns.foldl State.enterWindow s).nest m =
      if m ∈ ns then { s.nest m with state := .window, windowCount := 0 } else s.nest m := by
  induction ns generalizing s with
  | nil => simp
  | cons n ns ih =>
    rw [List.foldl_cons, ih, enterWindow_nest]
    by_cases hm : m = n
    · subst hm; simp
    · simp [hm]

/-- Settles O15: the waiting nests enter their windows one after the other. -/
theorem guardHoldEnds : Obligations.GuardHoldEnds := by
  intro s
  refine ⟨fun early => congrArg _ (if_neg early), fun loud due => ⟨s.guardHoldEnd, rfl, ?_⟩⟩
  set s1 : State := { s with guard := { s.guard.clearHold with loud := false, holdDue := false } }
  set ns := s1.freeOrder s1.waitingForQuiet
  obtain ⟨recipe, tones, yield, marking, guard, port, link⟩ := enterWindows_rest s1 ns
  have quiet : s.guardHoldEnd = (ns.foldl State.enterWindow s1).notice
      (.guard false s.link.frameIndex ⟨false, false, false, true, false⟩ none s.guard.loudEntries) := by
    refine (if_pos ⟨loud, due⟩).trans ?_
    show (ns.foldl State.enterWindow s1).notice _ = _
    rw [link, guard]
    rfl
  rw [quiet]
  refine ⟨link, recipe, tones, yield, marking, guard, congrArg (fun p => Port.notice p _) port, fun n => ?_⟩
  rw [State.notice_nest, enterWindows_nest]
  have waits : n ∈ ns ↔ (s.nest n).state = .guardWait := mem_waitingForQuiet
  simp only [waits]
  rfl

end Sys2Proof.Machine
end

section
/-! The stream commands (O45), ARRIVE (O42) and RELEASE (O43). -/

namespace Sys2Proof.Machine

/-! ### Streams -/

section Stream
variable {s : State} {tag : Byte} {ops : List Byte} {rest : List CommandCell}

/-- The port with the command gone and a stream buffer emptied, by the pace rule of R199. -/
def Port.streamEmptied (p : Port) (rest : List CommandCell) (n : Nest) : Port :=
  { p with
      commands := rest, streams := p.streams.set n []
      pace := p.pace.set n
        (if (p.pace.get n).current = .stop then
          { p.pace.get n with pendingState := if (p.pace.get n).lastSent = .go then none else some .go }
        else p.pace.get n) }

/-- Emptying puts the fill at 0, which ends a STOP. -/
theorem afterRemoval_zero_eq (p : Pace) :
    p.afterRemoval 0 =
      if p.current = .stop then { p with pendingState := if p.lastSent = .go then none else some .go } else p := by
  unfold Pace.afterRemoval Pace.change
  simp only [Nat.zero_le, true_and, eq_comm]

theorem emptyStream_taken (s : State) (rest : List CommandCell) (n : Nest) :
    (s.taken rest).port.emptyStream n = s.port.streamEmptied rest n := by
  unfold Port.emptyStream Port.streamEmptied
  rw [afterRemoval_zero_eq]
  rfl

theorem exec_reserveStream (h : s.takes tag 0x24 ops rest) (hl : ops.length = 1) {n : Nest}
    (hn : Nest.ofNum (fieldAt ops 0 1) = some n) :
    exec .reserveStream s =
      .next (if (s.nest n).state = .reserved then (s.taken rest).refusal tag 0x24 .reserved []
        else if (s.nest n).state ≠ .idle then (s.taken rest).refusal tag 0x24 .busy []
        else (({ s with port := s.port.streamEmptied rest n } : State).setNest n
          { s.nest n with state := .reserved }).setTone n { s.tone n with range := .mid } |>.done tag 0x24 []) := by
  refine congrArg Host.Outcome.next ?_
  split
  · rename_i reserved
    refine takeCommand_refused h (operands_length hl) ?_
    unfold actReserveStream
    rw [hn]
    exact if_pos reserved
  · rename_i free
    split
    · rename_i busy
      refine takeCommand_refused h (operands_length hl) ?_
      unfold actReserveStream
      rw [hn]
      exact (if_neg free).trans (if_pos busy)
    · rename_i idle
      refine takeCommand_done h (operands_length hl) ?_
      unfold actReserveStream
      rw [hn]
      refine (if_neg free).trans ((if_neg idle).trans ?_)
      rw [emptyStream_taken]
      rfl

theorem exec_releaseStream (h : s.takes tag 0x25 ops rest) (hl : ops.length = 1) {n : Nest}
    (hn : Nest.ofNum (fieldAt ops 0 1) = some n) :
    exec .releaseStream s =
      .next (if (s.nest n).state ≠ .reserved then (s.taken rest).refusal tag 0x25 .notReserved []
        else (({ s with port := s.port.streamEmptied rest n } : State).setNest n
          { s.nest n with state := .idle }).done tag 0x25 []) := by
  refine congrArg Host.Outcome.next ?_
  split
  · rename_i free
    refine takeCommand_refused h (operands_length hl) ?_
    unfold actReleaseStream
    rw [hn]
    exact if_pos free
  · rename_i reserved
    refine takeCommand_done h (operands_length hl) ?_
    unfold actReleaseStream
    rw [hn]
    refine (if_neg reserved).trans ?_
    rw [emptyStream_taken]
    rfl

end Stream

/-- Settles O45: the checks of each command in their order. -/
theorem streamReservation : Obligations.StreamReservation := by
  intro s tag ops rest hl emptied
  refine ⟨fun h => ⟨fun out => ?_, fun n hn => ?_⟩, fun h => ⟨fun out => ?_, fun n hn => ?_⟩⟩
  · exact congrArg _ (takeCommand_refused h (operands_length hl) (by unfold actReserveStream; rw [out]))
  · rw [exec_reserveStream h hl hn]
    refine ⟨fun reserved => ?_, fun free busy => ?_, fun idle => ?_⟩
    · rw [if_pos reserved]
    · rw [if_neg free, if_pos busy]
    · rw [if_neg (by rw [idle]; decide), if_neg (by rw [idle]; decide)]
      rfl
  · exact congrArg _ (takeCommand_refused h (operands_length hl) (by unfold actReleaseStream; rw [out]))
  · rw [exec_releaseStream h hl hn]
    refine ⟨fun free => ?_, fun reserved => ?_⟩
    · rw [if_pos free]
    · rw [if_neg (not_not.2 reserved)]
      rfl

/-! ### ARRIVE -/

theorem PerNest.set_set {α : Type} (p : PerNest α) (n : Nest) (x y : α) : (p.set n x).set n y = p.set n y := by
  cases n <;> rfl

@[simp] theorem setNest_setNest (s : State) (n : Nest) (q r : Sequencer) : (s.setNest n q).setNest n r = s.setNest n r :=
  congrArg (fun x => { s with nests := x }) (PerNest.set_set s.nests n q r)

/-- A step loaded from the nest's program. -/
theorem loadStep_eq {s : State} {n : Nest} {f : ProgramFields} (program : s.programFields n = some f) :
    s.loadStep n =
      s.setNest n { s.nest n with step := some (s.recipe.stepOf f (s.nest n).stepIndex).1
                                  limits := (s.recipe.stepOf f (s.nest n).stepIndex).2 } := by
  unfold State.loadStep
  rw [program]
  rfl

/-- Step 0 begins with its ramp-up. -/
theorem openGap_first {s : State} {n : Nest} {st : Step} (first : (s.nest n).stepIndex = 0) :
    s.openGap n st = (s.setNest n { s.nest n with state := .gap, gap := some .rampUp }).setTone n ((s.tone n).hold st) :=
  if_pos first

/-- The reason for which R38 refuses a unit on nest `n` for program `p`, the two ranges apart. -/
def State.arriveRefusal (s : State) (n : Nest) (p : Nat) : Option Reason :=
  if s.stopLine then some .stopped
  else if s.link.state ≠ .linkUp then some .linkDown
  else if s.yield.line = .held then some .held
  else if s.yield.admission.get n = .quarantined then some .quarantined
  else if (s.nest n).state = .reserved then some .reserved
  else if (s.nest n).state ≠ .idle then some .busy
  else match s.recipe.entry p with
    | .active _ => none
    | _ => some .noProgram

section Arrive
variable {s : State} {ops : List Byte} {n : Nest}

theorem arriveCheck_range (out : Nest.ofNum (fieldAt ops 0 1) = none ∨ 7 < fieldAt ops 5 1) :
    arriveCheck ops s = .error .range := by
  unfold arriveCheck
  dsimp only
  split
  · rfl
  · rename_i n hn
    rcases out with out | out
    · rw [out] at hn; cases hn
    · exact if_pos out

theorem arriveCheck_eq (hn : Nest.ofNum (fieldAt ops 0 1) = some n) (hp : fieldAt ops 5 1 ≤ 7) :
    arriveCheck ops s = ((s.arriveRefusal n (fieldAt ops 5 1)).map Except.error).getD (.ok n) := by
  unfold arriveCheck State.arriveRefusal
  rw [hn]
  dsimp only
  rw [if_neg (Nat.not_lt.2 hp)]
  cases s.recipe.entry (fieldAt ops 5 1) <;> simp only [DirEntry.isActive] <;> split_ifs <;> simp_all

/-- In a sound state ARRIVE finds a FREE record, so it does not fault. -/
theorem exec_arrive (h : Sound s) : exec .arrive s = .next (takeCommand 0x20 (operands 6) actArrive s) :=
  if_neg (by rw [arriveStuck_of_sound h]; decide)

theorem actArrive_refused {t : State} {r : Reason} (check : arriveCheck ops t = .error r) :
    actArrive ops t = refuse r [] t := by
  unfold actArrive
  rw [check]

/-- A unit admitted: its record, its program's use count, its nest with step 0 loaded, and the step the generator holds
(R39). -/
theorem seat_eq {id p : Nat} (c : Word) {f : ProgramFields} (entry : (s.recipe.entry p).fields = some f) :
    s.seat n id c p f =
      (({ s.setRecord id (.opened n c p s.link.frameIndex) with
            recipe := { s.recipe with useCount := s.recipe.useCount.set p (s.recipe.uses p + 1) } } : State).setNest n
          { (s.nest n).seat id p f with state := .gap, gap := some ⟨.rampUp, 192⟩, step := some (s.recipe.stepOf f 0).1
                                        limits := (s.recipe.stepOf f 0).2 }).setTone n
        ((s.tone n).hold (s.recipe.stepOf f 0).1) := by
  set s1 : State :=
    { s.setRecord id (.opened n c p s.link.frameIndex) with
        recipe := { s.recipe with useCount := s.recipe.useCount.set p (s.recipe.uses p + 1) } }
  have seated : s.seat n id c p f = (s1.setNest n ((s.nest n).seat id p f)).openFirstGap n := rfl
  have program : (s1.setNest n ((s.nest n).seat id p f)).programFields n = some f := by
    unfold State.programFields
    rw [State.nest_setNest]
    exact entry
  rw [seated]
  unfold State.openFirstGap
  simp only [loadStep_eq program, State.nest_setNest]
  rw [openGap_first (by rw [State.nest_setNest]; rfl), State.nest_setNest, setNest_setNest, setNest_setNest]
  rfl

end Arrive

/-- Settles O42: the first check that refuses, or the state of `seat_eq`. -/
theorem arrive : Obligations.Arrive := by
  intro s tag ops rest sound h hl p carrier
  have run := exec_arrive ((sound_iff s).2 sound)
  refine ⟨fun out => run.trans (congrArg _ ?_), ?_⟩
  · exact takeCommand_refused h (operands_length hl) (actArrive_refused (arriveCheck_range out))
  intro n hn hp refusal
  have check : arriveCheck ops (s.taken rest) = (refusal.map Except.error).getD (.ok n) := arriveCheck_eq hn hp
  refine ⟨fun reason refused => run.trans (congrArg _ ?_), fun f admitted entry inTable => ?_⟩
  · refine takeCommand_refused h (operands_length hl) (actArrive_refused ?_)
    rw [check, refused]
    rfl
  · rw [admitted] at check
    have idle : (s.nest n).state = .idle := arriveCheck_idle check
    obtain ⟨id, free⟩ := Option.ne_none_iff_exists'.1 (lowestFree_of_idle ((sound_iff s).2 sound) idle)
    have fields : ((s.taken rest).recipe.entry p).fields = some f := congrArg DirEntry.fields entry
    obtain ⟨inRecords, -⟩ := lowestFree_spec free
    have acted : actArrive ops (s.taken rest) = ((s.taken rest).seat n id carrier p f, .done (toBytes 1 id)) := by
      have freeTaken : (s.taken rest).lowestFree = some id := free
      unfold actArrive
      simp only [check, freeTaken, Option.map_none, Option.getD_none]
      rw [fields]
    rw [seat_eq carrier fields] at acted
    refine ⟨_, id, run.trans (congrArg _ (takeCommand_done h (operands_length hl) acted)), rfl, free, ?_, rfl, rfl, ?_,
      fun m hm => State.record_setRecord_ne s hm _, ?_, fun e he => ?_, State.nest_setNest _ _ _,
      fun m hm => ⟨State.nest_setNest_ne s hm _, PerNest.get_set_ne _ hm _⟩, State.tone_setTone _ _ _, rfl, rfl, rfl, rfl⟩
    · exact sound.2.1 ▸ inRecords
    · exact State.record_setRecord s inRecords _
    · exact (Recipe.getD_set _ p p _ inTable).trans (if_pos rfl)
    · exact (Recipe.getD_set _ p e _ inTable).trans (if_neg he)

/-! ### RELEASE -/

theorem record_inTable {s : State} {n : Nest} {id : Nat} (h : Sound s) (hid : (s.nest n).record = some id) :
    id < s.records.length := by
  have held : (s.record id).state ≠ .free := by
    rw [← h.2.held id, (holdersBut_perm s n).mem_iff, hid]
    simp
  exact record_lt held

theorem UnitRecord.labelled_iff (u : UnitRecord) : u.labelled = true ↔ ∃ b, u.binCopy = some b ∧ b.label = true := by
  unfold UnitRecord.labelled
  rw [Option.any_eq_true]

section Labels
variable {s : State} {id : Nat}

/-- The record QUEUED at the tail of the label queue, before the fill check. -/
def State.labelQueued (s : State) (id : Nat) : State :=
  { s.setRecord id { s.record id with state := .queued } with marking := { s.marking with queue := s.marking.queue ++ [id] } }

theorem enqueueLabel_eq (s : State) (id : Nat) : s.enqueueLabel id = (s.labelQueued id).fillCheck := rfl

theorem freeSlot_eq_none {m : Marking} (a : m.slotA.state ≠ .free) (b : m.slotB.state ≠ .free) : m.freeSlot = none := by
  unfold Marking.freeSlot
  rw [decide_eq_false a, decide_eq_false b]

/-- The slot that R145 names: the FREE one, and of two the one not filled last. -/
theorem freeSlot_eq_some {m : Marking} {i : SlotId} (free : (m.slot i).state = .free)
    (both : (m.slot i.other).state = .free → i = (m.lastFilled.map SlotId.other).getD .a) : m.freeSlot = some i := by
  have other (h : (m.slot i.other).state = .free) :
      (match m.lastFilled with | some j => j.other | none => SlotId.a) = i := by
    rw [both h]
    cases m.lastFilled <;> rfl
  unfold Marking.freeSlot
  by_cases h : (m.slot i.other).state = .free
  · cases i with
    | a => rw [decide_eq_true (show m.slotA.state = .free from free), decide_eq_true (show m.slotB.state = .free from h)]
           exact congrArg some (other h)
    | b => rw [decide_eq_true (show m.slotB.state = .free from free), decide_eq_true (show m.slotA.state = .free from h)]
           exact congrArg some (other h)
  · cases i with
    | a => rw [decide_eq_true (show m.slotA.state = .free from free), decide_eq_false (show ¬ m.slotB.state = .free from h)]
    | b => rw [decide_eq_true (show m.slotB.state = .free from free), decide_eq_false (show ¬ m.slotA.state = .free from h)]

/-- With both slots taken the record stays in the queue. -/
theorem enqueueLabel_waits (a : s.marking.slotA.state ≠ .free) (b : s.marking.slotB.state ≠ .free) :
    s.enqueueLabel id = s.labelQueued id := by
  rw [enqueueLabel_eq]
  unfold State.fillCheck State.fillSlots
  have none : (s.labelQueued id).marking.freeSlot = none := freeSlot_eq_none a b
  rw [none]
  split
  · rename_i h; cases h
  · rfl

/-- With an empty queue and a FREE slot the record goes to the slot at once. -/
theorem enqueueLabel_fills {i : SlotId} (empty : s.marking.queue = []) (free : s.marking.freeSlot = some i) :
    s.enqueueLabel id = (s.labelQueued id).fillSlot i id [] := by
  rw [enqueueLabel_eq]
  have queue : (s.labelQueued id).marking.queue = [id] := congrArg (· ++ [id]) empty
  have slot : (s.labelQueued id).marking.freeSlot = some i := free
  have after : ((s.labelQueued id).fillSlot i id []).marking.queue = [] := Marking.startMessage_queue _
  have first : State.fillSlots 2 (s.labelQueued id) = State.fillSlots 1 ((s.labelQueued id).fillSlot i id []) := by
    rw [State.fillSlots, queue, slot]
  refine first.trans ?_
  rw [State.fillSlots, after]

theorem startMessage_lastFilled (m : Marking) : m.startMessage.lastFilled = m.lastFilled := by
  unfold Marking.startMessage
  split
  · rename_i i _ _; cases i <;> rfl
  · rfl

/-- What a slot filled with one record changes. -/
theorem fillSlot_marking (s : State) (i : SlotId) (id : Nat) (rest : List Nat) :
    (s.fillSlot i id rest).marking.queue = rest ∧ (s.fillSlot i id rest).marking.lastFilled = some i ∧
      ((s.fillSlot i id rest).marking.slot i).record = some id := by
  unfold State.fillSlot
  refine ⟨Marking.startMessage_queue _, startMessage_lastFilled _, (Marking.startMessage_slot _ i).1.trans ?_⟩
  cases i <;> rfl

/-- The label path leaves the other blocks alone. -/
theorem enqueueLabel_rest (s : State) (id : Nat) :
    s.enqueueLabel id =
      { s with records := (s.enqueueLabel id).records, marking := (s.enqueueLabel id).marking } := by
  rw [enqueueLabel_eq]
  have fill (fuel : Nat) (t : State) :
      t.fillSlots fuel = { t with records := (t.fillSlots fuel).records, marking := (t.fillSlots fuel).marking } := by
    induction fuel generalizing t with
    | zero => rfl
    | succ fuel ih =>
      unfold State.fillSlots
      split
      · exact ih _
      · rfl
  exact fill 2 _

end Labels

/-- The nest IDLE without its unit, its generator silent, and nothing else changed. -/
theorem emptyNest_rest (s : State) (n : Nest) :
    s.emptyNest n = { s with nests := (s.emptyNest n).nests, tones := (s.emptyNest n).tones } := rfl

section Release
variable {s : State} {tag : Byte} {ops : List Byte} {rest : List CommandCell} {n : Nest}

theorem exec_release_refused (h : s.takes tag 0x21 ops rest) (hl : ops.length = 1) {reason : Reason}
    (ha : actRelease ops (s.taken rest) = refuse reason [] (s.taken rest)) :
    exec .release s = .next ((s.taken rest).refusal tag 0x21 reason []) :=
  congrArg _ (takeCommand_refused h (operands_length hl) ha)

/-- RELEASE of a JUDGED nest (R58). -/
theorem actRelease_judged {id : Nat} (hn : Nest.ofNum (fieldAt ops 0 1) = some n) (judged : (s.nest n).state = .judged)
    (hid : (s.nest n).record = some id) :
    actRelease ops s =
      if (s.record id).labelled = true ∧ 8 ≤ s.marking.queue.length then refuse .queueFull [] s
      else (s.releaseUnit n id (s.record id).labelled, .done []) := by
  unfold actRelease
  rw [hn]
  refine (if_neg ?_).trans ((if_neg (not_not.2 judged)).trans ?_)
  · rw [judged]; decide
  · rw [hid]

end Release

/-- The unit's record on its way: queued for its label, or retired. -/
def State.handedOn (s : State) (id : Nat) (label : Bool) : State :=
  if label then s.enqueueLabel id else s.retire id .notLabelled

theorem releaseUnit_eq (s : State) (n : Nest) (id : Nat) (label : Bool) :
    s.releaseUnit n id label = (s.handedOn id label).emptyNest n := rfl

theorem handedOn_rest (s : State) (id : Nat) (label : Bool) :
    Moves s (s.handedOn id label) ∧ (s.handedOn id label).nests = s.nests ∧ (s.handedOn id label).tones = s.tones ∧
      (s.handedOn id label).yield.window = s.yield.window := by
  cases label with
  | false => exact ⟨moves_retire s id _, rfl, rfl, rfl⟩
  | true =>
    have rest := enqueueLabel_rest s id
    have e : s.handedOn id true = s.enqueueLabel id := rfl
    rw [e]
    refine ⟨moves_enqueueLabel s id, ?_, ?_, ?_⟩ <;> rw [rest]

/-- What becomes of a record that is to be labelled (R144, R145). -/
theorem enqueueLabel_record {s : State} {id : Nat} (inTable : id < s.records.length) :
    (s.marking.slotA.state ≠ .free → s.marking.slotB.state ≠ .free →
      (s.enqueueLabel id).marking = { s.marking with queue := s.marking.queue ++ [id] } ∧
        (s.enqueueLabel id).record id = { s.record id with state := .queued }) ∧
    ∀ i, s.marking.queue = [] → s.marking.freeSlot = some i →
      (s.enqueueLabel id).marking.queue = [] ∧ (s.enqueueLabel id).marking.lastFilled = some i ∧
        ((s.enqueueLabel id).marking.slot i).record = some id ∧
        (s.enqueueLabel id).record id = { s.record id with state := .labelling, slot := some i } := by
  have queued : (s.labelQueued id).record id = { s.record id with state := .queued } := s.record_setRecord inTable _
  refine ⟨fun a b => ?_, fun i empty free => ?_⟩
  · rw [enqueueLabel_waits a b]
    exact ⟨rfl, queued⟩
  · rw [enqueueLabel_fills empty free]
    obtain ⟨queue, last, slot⟩ := fillSlot_marking (s.labelQueued id) i id []
    refine ⟨queue, last, slot, ?_⟩
    have stillIn : id < (s.labelQueued id).records.length := by
      show id < (s.records.set id _).length
      rwa [List.length_set]
    refine ((s.labelQueued id).record_setRecord stillIn _).trans ?_
    rw [queued]

/-- Settles O43: the checks in their order, then the label path or the retirement. -/
theorem release : Obligations.Release := by
  intro s tag ops rest sound h hl
  have h1 := (sound_iff s).2 sound
  refine ⟨fun out => exec_release_refused h hl (by unfold actRelease; rw [out]), fun n hn => ?_⟩
  refine ⟨fun away => exec_release_refused h hl ?_, fun runs => exec_release_refused h hl ?_, fun id judged hid => ?_⟩
  · unfold actRelease
    rw [hn]
    exact if_pos away
  · unfold actRelease
    rw [hn]
    have held : ¬ ((s.nest n).state = .idle ∨ (s.nest n).state = .reserved) := by
      rintro (e | e) <;> rw [e] at runs <;> cases runs
    have unjudged : (s.nest n).state ≠ .judged := by intro e; rw [e] at runs; cases runs
    exact (if_neg held).trans (if_pos unjudged)
  · have acted := actRelease_judged (s := s.taken rest) hn judged hid
    have inTable : id < (s.taken rest).records.length := record_inTable (s := s) h1 hid
    intro u labelled
    have label : u.labelled = true ↔ labelled := u.labelled_iff
    refine ⟨fun hlab full => exec_release_refused h hl ?_, fun room => ?_⟩
    · rw [acted]
      exact if_pos ⟨label.2 hlab, full.ge⟩
    · set m := (s.taken rest).handedOn id u.labelled with hm
      obtain ⟨moves, nests, tones, window⟩ := handedOn_rest (s.taken rest) id u.labelled
      rw [← hm] at moves nests tones window
      have nest (k : Nest) : (m.emptyNest n).nest k = if k = n then (s.nest n).emptied else s.nest k := by
        rw [emptyNest_nest]
        unfold State.nest
        rw [nests]
        rfl
      have tone (k : Nest) : (m.emptyNest n).tone k = if k = n then (s.tone n).silence else s.tone k := by
        rw [emptyNest_tone]
        unfold State.tone
        rw [tones]
        rfl
      refine ⟨(m.emptyNest n).done tag 0x21 [], ?_, moves.port.commands, ?_, (nest n).trans (if_pos rfl),
        (tone n).trans (if_pos rfl), fun k hk => ⟨(nest k).trans (if_neg hk), (tone k).trans (if_neg hk)⟩, window,
        fun hlab => ?_, fun hlab => ?_⟩
      · refine congrArg _ (takeCommand_done h (operands_length hl) (acted.trans (if_neg ?_)))
        rintro ⟨hlab, full⟩
        rcases room with none | few
        · exact none (label.1 hlab)
        · exact Nat.lt_irrefl _ (few.trans_le full)
      · show m.port.replies ++ _ = _
        rw [moves.port.replies]
        rfl
      · have queued : m = (s.taken rest).enqueueLabel id := by
          rw [hm, label.2 hlab]
          rfl
        have others : m = { s.taken rest with records := m.records, marking := m.marking } := by
          rw [queued]
          exact enqueueLabel_rest _ id
        obtain ⟨waits, fills⟩ := enqueueLabel_record inTable
        rw [← queued] at waits fills
        refine ⟨(congrArg State.yield others :), waits, fun i empty free both => fills i empty (freeSlot_eq_some free ?_),
          congrArg (fun x : State => ((x.emptyNest n).done tag 0x21 []).port) others⟩
        intro other
        rw [both other]
        show _ = Option.getD (Option.map SlotId.other s.marking.lastFilled) .a
        cases s.marking.lastFilled <;> rfl
      · have retired : m = (s.taken rest).retire id .notLabelled := by
          rw [hm, Bool.eq_false_iff.2 (fun hl => hlab (label.1 hl))]
          rfl
        have freed := retire_record (s.taken rest) id id .notLabelled
        rw [if_pos rfl, ← retired] at freed
        refine ⟨?_, freed, ?_, ?_⟩
        · show m.marking = _
          rw [retired]; rfl
        · show (State.done m tag 0x21 []).port = _
          rw [retired]; rfl
        · show m.yield.counts = _
          rw [retired]; rfl

end Sys2Proof.Machine
end

section
/-! A verdict with a class in full: the record, the nest, the yield block and the notices in R163's order; and the deadline's
expiry (O28). -/

namespace Sys2Proof.Machine

/-! ### The yield block at a verdict -/

/-- The yield block with the verdict counted and in the window: steps 1 and 2 of R163. -/
def Yield.counted (y : Yield) (n : Nest) (c : UnitClass) : Yield :=
  ({ y with counts := y.counts.judge n c } : Yield).takeVerdict c

/-- A verdict moves the counts, the window and its pass count, and nothing else yet. -/
theorem Yield.counted_rest (y : Yield) (n : Nest) (c : UnitClass) :
    y.counted n c =
      { y with counts := y.counts.judge n c, window := (y.counted n c).window, passCount := (y.counted n c).passCount } := by
  unfold Yield.counted Yield.takeVerdict
  split <;> rfl

/-- The streak after a verdict (R169). -/
def Yield.nextStreak (y : Yield) (n : Nest) (c : UnitClass) : Nat :=
  if c.passes then 0 else min (y.streak.get n + 1) 65535

/-- The verdict holds the line (R165). -/
def Yield.holdsNow (y : Yield) (n : Nest) (c : UnitClass) : Bool :=
  (y.counted n c).holds && decide (y.line = .running)

/-- The verdict quarantines its nest (R170). -/
def Yield.quarantinesNow (y : Yield) (n : Nest) (c : UnitClass) : Bool :=
  decide (c.passes = false ∧ 0 < y.quarantineLevel ∧ y.quarantineLevel ≤ y.nextStreak n c ∧ y.admission.get n = .enabled)

/-- The yield block after a verdict. -/
def Yield.judged (y : Yield) (n : Nest) (c : UnitClass) : Yield :=
  { y.counted n c with
      line := if y.holdsNow n c then .held else y.line
      streak := y.streak.set n (y.nextStreak n c)
      admission := if y.quarantinesNow n c then y.admission.set n .quarantined else y.admission }

/-- The notices of the yield block at a verdict: HOLD, then QUARANTINE. -/
def Yield.verdictNotices (y : Yield) (n : Nest) (id : Nat) (w : Word) (c : UnitClass) (index : Word) (p : Port) : Port :=
  let k := y.counted n c
  let p1 := if y.holdsNow n c then p.notice (.hold n id c k.windowLength k.passCount k.holdLevel index) else p
  if y.quarantinesNow n c then p1.notice (.quarantine n id w c (y.nextStreak n c) y.quarantineLevel index) else p1

theorem evaluateHold_eq (s : State) (n : Nest) (id : Nat) (c : UnitClass) :
    let held := s.yield.holds && decide (s.yield.line = .running)
    s.evaluateHold n id c =
      { s with
          yield := { s.yield with line := if held then .held else s.yield.line }
          port := if held then
              s.port.notice (.hold n id c s.yield.windowLength s.yield.passCount s.yield.holdLevel s.link.frameIndex)
            else s.port } := by
  intro held
  have iff : held = true ↔ s.yield.holds = true ∧ s.yield.line = .running := by simp [held]
  unfold State.evaluateHold
  by_cases h : held = true
  · rw [if_pos (iff.1 h), if_pos h, if_pos h]
    rfl
  · rw [if_neg (fun k => h (iff.2 k)), if_neg h, if_neg h]

theorem evaluateQuarantine_eq (s : State) (n : Nest) (id : Nat) (w : Word) (c : UnitClass) :
    let due := decide (c.passes = false ∧ 0 < s.yield.quarantineLevel ∧
      s.yield.quarantineLevel ≤ s.yield.streak.get n ∧ s.yield.admission.get n = .enabled)
    s.evaluateQuarantine n id w c =
      { s with
          yield := { s.yield with admission := if due then s.yield.admission.set n .quarantined else s.yield.admission }
          port := if due then
              s.port.notice (.quarantine n id w c (s.yield.streak.get n) s.yield.quarantineLevel s.link.frameIndex)
            else s.port } := by
  intro due
  unfold State.evaluateQuarantine
  by_cases h : due = true
  · rw [if_pos (of_decide_eq_true h), if_pos h, if_pos h]
    rfl
  · rw [if_neg (fun k => h (decide_eq_true k)), if_neg h, if_neg h]

theorem yieldVerdict_outcome (s : State) (n : Nest) (id : Nat) (w : Word) (c : UnitClass) :
    s.yieldVerdict n id w c =
      { s with yield := s.yield.judged n c, port := s.yield.verdictNotices n id w c s.link.frameIndex s.port } := by
  have unfolded : s.yieldVerdict n id w c =
      ({ ({ s with yield := s.yield.counted n c } : State).evaluateHold n id c with
          yield := (({ s with yield := s.yield.counted n c } : State).evaluateHold n id c).yield.takeStreak n c } :
        State).evaluateQuarantine n id w c := rfl
  rw [unfolded, evaluateQuarantine_eq, evaluateHold_eq]
  unfold Yield.judged Yield.verdictNotices Yield.quarantinesNow Yield.holdsNow Yield.takeStreak Yield.nextStreak
  rw [s.yield.counted_rest n c]
  simp only [PerNest.get_set_self]

theorem Yield.holds_iff (y : Yield) :
    y.holds = true ↔ 0 < y.holdLevel ∧ y.windowLength ≤ y.window.length ∧ y.passCount < y.holdLevel := by
  unfold Yield.holds
  simp only [Bool.and_eq_true, decide_eq_true_eq, and_assoc]

/-- The notices of a verdict, in the words of the statements. -/
theorem verdictNotices_eq {s t : State} {n : Nest} {id : Nat} {c : UnitClass} (yield : t.yield = s.yield.judged n c)
    (p : Port) :
    s.verdictNotices t n id c p =
      s.yield.verdictNotices n id (t.record id).carrier c s.link.frameIndex
        (p.notice (.verdict id (t.record id) false s.link.frameIndex)) := by
  have hold : (0 < (s.yield.judged n c).holdLevel ∧
      (s.yield.judged n c).windowLength ≤ (s.yield.judged n c).window.length ∧
      (s.yield.judged n c).passCount < (s.yield.judged n c).holdLevel ∧ s.yield.line = .running) ↔
      s.yield.holdsNow n c = true := by
    unfold Yield.holdsNow
    rw [Bool.and_eq_true, Yield.holds_iff, decide_eq_true_eq]
    simp only [and_assoc]
    rfl
  have level : (s.yield.judged n c).quarantineLevel = s.yield.quarantineLevel := by
    show (s.yield.counted n c).quarantineLevel = _
    rw [s.yield.counted_rest n c]
  have streak : (s.yield.judged n c).streak.get n = s.yield.nextStreak n c := PerNest.get_set_self _ _ _
  have quarantine : (c.passes = false ∧ 0 < (s.yield.judged n c).quarantineLevel ∧
      (s.yield.judged n c).quarantineLevel ≤ (s.yield.judged n c).streak.get n ∧
      s.yield.admission.get n = .enabled) ↔ s.yield.quarantinesNow n c = true := by
    rw [level, streak]
    unfold Yield.quarantinesNow
    rw [decide_eq_true_eq]
  unfold State.verdictNotices Yield.verdictNotices
  rw [yield]
  simp only [hold, quarantine]
  rw [level, streak]
  rfl

theorem verdictNotices_congr {s s' t : State} (link : s'.link = s.link) (yield : s'.yield = s.yield) (n : Nest) (id : Nat)
    (c : UnitClass) (p : Port) : s'.verdictNotices t n id c p = s.verdictNotices t n id c p := by
  unfold State.verdictNotices
  rw [link, yield]

/-! ### The verdict of a nest -/

/-- The class of a unit's verdict: the one named, or what its record gives (R134, R135). -/
def State.endClass (s : State) (n : Nest) (id : Nat) (e : Ending) : UnitClass :=
  e.unitClass.getD ((s.record id).ownClass (s.nest n).settings.gradeMargin)

/-- The unit's record at its verdict. -/
def State.judgedRecord (s : State) (n : Nest) (id : Nat) (e : Ending) : UnitRecord :=
  (s.record id).judge (s.nest n).retries (s.endClass n id e) (s.recipe.bins[(s.endClass n id e).code]?)

section Verdict
variable {s : State} {n : Nest} {id : Nat} (e : Ending)

theorem stopped_eq (s : State) (n : Nest) :
    s.stopped n =
      { s with
          nests := s.nests.set n { s.nest n with state := .judged, gap := none, deadlineRunning := false }
          tones := s.tones.set n (s.tone n).verdict
          analyser := s.analyser.setDetector n .stopped
          recipe := { s.recipe with useCount := s.recipe.lowered (s.nest n).program } } := by
  unfold State.stopped
  rw [lowerUse_eq, State.nest_modNest]
  unfold State.modNest State.setNest State.modTone State.setTone State.setDetector State.nest
  simp only [PerNest.get_set_self, PerNest.set_set]
  rfl

/-- A verdict in full (R53, R136, R163). -/
theorem verdict_eq (hid : (s.nest n).record = some id) :
    s.verdict n e =
      { s with
          nests := s.nests.set n { s.nest n with state := .judged, gap := none, deadlineRunning := false }
          tones := s.tones.set n (s.tone n).verdict
          analyser := s.analyser.setDetector n .stopped
          recipe := { s.recipe with useCount := s.recipe.lowered (s.nest n).program }
          records := s.records.set id (s.judgedRecord n id e)
          yield := s.yield.judged n (s.endClass n id e)
          port := s.yield.verdictNotices n id (s.record id).carrier (s.endClass n id e) s.link.frameIndex
            (s.port.notice (.verdict id (s.judgedRecord n id e) false s.link.frameIndex)) } := by
  have unfolded : s.verdict n e = (s.stopped n).recordVerdict n e.unitClass := rfl
  have own : (s.stopped n).nest n = { s.nest n with state := .judged, gap := none, deadlineRunning := false } := by
    rw [stopped_eq]
    exact PerNest.get_set_self _ _ _
  have base : (s.stopped n).record id = s.record id := by
    rw [stopped_eq]
    rfl
  have bins : (s.stopped n).recipe.bins = s.recipe.bins := by rw [stopped_eq]
  have judged : (s.stopped n).recordVerdict n e.unitClass =
      (((s.stopped n).setRecord id (s.judgedRecord n id e)).notice
        (.verdict id (s.judgedRecord n id e) false (s.stopped n).link.frameIndex)).yieldVerdict n id
          (s.judgedRecord n id e).carrier (s.endClass n id e) := by
    unfold State.recordVerdict State.judgedRecord State.endClass
    simp only [own, hid, base, bins]
    rfl
  rw [unfolded, judged, yieldVerdict_outcome, stopped_eq]
  rfl

/-- What a verdict with class `c` does, block by block. -/
structure GivesVerdict (n : Nest) (id : Nat) (c : UnitClass) (s t : State) : Prop where
  nest : t.nest n = { s.nest n with state := .judged, gap := none, deadlineRunning := false }
  others : ∀ m, m ≠ n → t.nest m = s.nest m
  tone : t.tone n = (s.tone n).verdict
  record : t.record id = (s.record id).judge (s.nest n).retries c (s.recipe.bins[c.code]?)
  analyser : t.analyser = s.analyser.setDetector n .stopped
  capture : t.capture = s.capture
  uses : t.recipe.useCount = s.recipe.lowered (s.nest n).program
  yield : t.yield = s.yield.judged n c
  port : t.port = s.verdictNotices t n id c s.port

theorem givesVerdict (hid : (s.nest n).record = some id) (inTable : id < s.records.length) :
    GivesVerdict n id (s.endClass n id e) s (s.verdict n e) := by
  have full := verdict_eq e hid
  set t := s.verdict n e
  have record : t.record id = s.judgedRecord n id e := by
    rw [full]
    exact s.record_setRecord inTable _
  refine ⟨?_, fun m hm => ?_, ?_, record, ?_, ?_, ?_, ?_, ?_⟩
  · rw [full]; exact PerNest.get_set_self _ _ _
  · rw [full]; exact PerNest.get_set_ne _ hm _
  · rw [full]; exact PerNest.get_set_self _ _ _
  · rw [full]
  · rw [full]
  · rw [full]
  · rw [full]
  · rw [verdictNotices_eq (by rw [full]), record, full]
    rfl

end Verdict

/-- The generator at a verdict: ramping down from the position it had, or silent where it was quiet (R53, R74). -/
theorem toneVerdict_eq (w : Tone) :
    w.verdict =
      { w with
          burst := none
          pendingStep := none
          burstMute := w.verdict.burstMute
          glide := w.verdict.glide
          envelope :=
            if w.envelope = .silent ∨ w.burstMute = true then .silent else .rampDown w.envelope.lastPosition 0 } := by
  unfold Tone.verdict Tone.rampDown Tone.quiet
  by_cases quiet : w.envelope = .silent ∨ w.burstMute = true
  · rw [if_pos quiet, if_pos (by simpa using quiet)]
  · rw [if_neg quiet, if_neg (by simpa using quiet)]

/-- The line after a verdict (R165). -/
theorem Yield.judged_line (y : Yield) (n : Nest) (c : UnitClass) :
    (y.judged n c).line = if (y.counted n c).holds = true then .held else y.line := by
  unfold Yield.judged Yield.holdsNow
  dsimp only
  cases hl : y.line <;> simp

/-- The nest's admission after a verdict (R170). -/
theorem Yield.judged_admission (y : Yield) (n : Nest) (c : UnitClass) :
    (y.judged n c).admission.get n =
      if c.passes = false ∧ 0 < y.quarantineLevel ∧ y.quarantineLevel ≤ y.nextStreak n c then .quarantined
      else y.admission.get n := by
  unfold Yield.judged Yield.quarantinesNow
  dsimp only
  by_cases due : c.passes = false ∧ 0 < y.quarantineLevel ∧ y.quarantineLevel ≤ y.nextStreak n c
  · rw [if_pos due]
    obtain ⟨fails, level, reached⟩ := due
    cases admission : y.admission.get n with
    | enabled => rw [if_pos (by simp [fails, level, reached])]; exact PerNest.get_set_self _ _ _
    | quarantined => simp [admission]
  · rw [if_neg due, if_neg (fun now => due ?_)]
    obtain ⟨fails, level, reached, -⟩ := of_decide_eq_true now
    exact ⟨fails, level, reached⟩

/-! ### Lanes handed on by the grant check, in any state -/

/-- Lanes handed on to nests in the queue: their state and their window count move, and no settle detector. -/
structure LanesGranted (s t : State) : Prop where
  hands : HandsOn s t
  nest : ∀ m, t.nest m = { s.nest m with state := (t.nest m).state, windowCount := (t.nest m).windowCount }
  states : ∀ m, (t.nest m).state = (s.nest m).state ∨ (t.nest m).state = .guardWait ∨ (t.nest m).state = .window
  detector : t.analyser.detector = s.analyser.detector
  count : t.records.length = s.records.length

theorem LanesGranted.refl (s : State) : LanesGranted s s := ⟨.refl s, fun _ => rfl, fun _ => Or.inl rfl, rfl, rfl⟩

theorem LanesGranted.trans {s t u : State} (h : LanesGranted s t) (k : LanesGranted t u) : LanesGranted s u := by
  refine ⟨h.hands.trans k.hands, fun m => ?_, fun m => ?_, k.detector.trans h.detector, k.count.trans h.count⟩
  · rw [k.nest m, h.nest m]
  · rcases k.states m with same | granted
    · rw [same]
      exact h.states m
    · exact Or.inr granted

theorem LanesGranted.after {s t u : State} (k : LanesGranted t u) (h : LanesGranted s t) : LanesGranted s u := h.trans k

/-- A change of the lanes, the queue, an evaluation or the ring alone. -/
theorem LanesGranted.of_eq {s t : State} (rest : t = { s with analyser := t.analyser, capture := t.capture })
    (calibration : t.analyser.calibration = s.analyser.calibration) (detector : t.analyser.detector = s.analyser.detector) :
    LanesGranted s t := by
  have nests : t.nests = s.nests := by rw [rest]
  have same : ∀ m, t.nest m = s.nest m := fun m => by
    unfold State.nest
    rw [nests]
  refine ⟨.of_eq ?_ calibration, fun m => by rw [same m], fun m => Or.inl (by rw [same m]), detector, by rw [rest]⟩
  rw [nests]
  exact rest

theorem lanesGranted_grant (s : State) (r : LaneRequest) (rest : List LaneRequest) : LanesGranted s (s.grant r rest) := by
  refine ⟨(handsOn_grant s r rest).1, fun m => ?_, fun m => ?_, ?_, (acts_grant s r rest).count⟩
  · rw [grant_nest]
    split
    · rename_i own
      subst own
      split <;> rfl
    · rfl
  · rw [grant_nest]
    split
    · split
      · exact Or.inr (Or.inl rfl)
      · exact Or.inr (Or.inr rfl)
    · exact Or.inl rfl
  · unfold State.grant
    dsimp only
    split
    · rfl
    · rw [enterWindow_analyser]
      rfl

theorem lanesGranted_grantHeads (fuel : Nat) (s : State) : LanesGranted s (s.grantHeads fuel) := by
  induction fuel generalizing s with
  | zero => exact .refl s
  | succ fuel ih =>
    unfold State.grantHeads
    split
    · exact .refl s
    · split
      · exact (lanesGranted_grant s _ _).trans (ih _)
      · exact .refl s

theorem lanesGranted_grantCheck (s : State) : LanesGranted s s.grantCheck := lanesGranted_grantHeads _ s

theorem lanesGranted_releaseLanes (s : State) (n : Nest) : LanesGranted s (s.releaseLanes n) :=
  (lanesGranted_grantCheck (s.modAnalyser fun a => a.release n)).after (.of_eq rfl rfl rfl)

theorem lanesGranted_giveBack (s : State) (n : Nest) : LanesGranted s (s.giveBack n) := by
  have voided : LanesGranted s ((s.releaseLanes n).voidCapture n) :=
    LanesGranted.after (.of_eq rfl rfl rfl) (lanesGranted_releaseLanes s n)
  unfold State.giveBack
  split
  · exact (lanesGranted_grantCheck
      (s.modAnalyser fun a => { a with queue := a.queue.filter (fun r => decide (r.nest ≠ n)) })).after (.of_eq rfl rfl rfl)
  · exact lanesGranted_releaseLanes s n
  · exact voided
  · exact voided
  all_goals exact .refl s

/-! ### One nest's run ended alone -/

theorem grantHeads_queue (fuel : Nat) (s : State) : (s.grantHeads fuel).analyser.queue <:+ s.analyser.queue := by
  induction fuel generalizing s with
  | zero => exact List.suffix_refl _
  | succ fuel ih =>
    unfold State.grantHeads
    split
    · exact List.suffix_refl _
    · rename_i r rest queue
      split
      · rw [queue]
        have later := ih (s.grant r rest)
        rw [grant_queue] at later
        exact later.trans (List.suffix_cons r rest)
      · exact List.suffix_refl _

/-- A record of the ring that is not VOID stays in it through the attempts of other units at a record. -/
theorem mem_reclaim {c : Capture} {x : CaptureRecord} (mem : x ∈ c.records) (live : x.state ≠ .void) :
    x ∈ c.reclaim.records := by
  have parts : x ∈ c.records.takeWhile CaptureRecord.isVoid ++ c.records.dropWhile CaptureRecord.isVoid := by
    rw [List.takeWhile_append_dropWhile]
    exact mem
  rcases List.mem_append.1 parts with gone | kept
  · have void : x.isVoid = true := List.mem_takeWhile_imp gone
    exact absurd (of_decide_eq_true void) live
  · exact kept

theorem mem_reserveCapture {s : State} {x : CaptureRecord} (mem : x ∈ s.capture.records) (live : x.state ≠ .void)
    (n : Nest) : x ∈ (s.reserveCapture n).capture.records := by
  unfold State.reserveCapture
  split
  · split
    · exact mem
    · dsimp only
      split
      · exact mem
      · split
        · exact mem_reclaim mem live
        · exact List.mem_append_left _ (mem_reclaim mem live)
  · exact mem

theorem mem_grantHeads {x : CaptureRecord} (live : x.state ≠ .void) (fuel : Nat) {s : State}
    (mem : x ∈ s.capture.records) : x ∈ (s.grantHeads fuel).capture.records := by
  induction fuel generalizing s with
  | zero => exact mem
  | succ fuel ih =>
    unfold State.grantHeads
    split
    · exact mem
    · rename_i r rest _
      split
      · refine ih ?_
        by_cases loud : (s.nest r.nest).guarded = true ∧ s.guard.loud = true
        · rw [((grant_capture s r rest).1 loud).1]
          exact mem
        · rw [((grant_capture s r rest).2 loud).1]
          exact mem_reserveCapture mem live _
      · exact mem

/-- A nest's provisional record, by its mark. -/
theorem provisional_iff {c : Capture} {n : Nest} {r : CaptureRecord} (h : c.provisional n = some r) :
    r ∈ c.records ∧ r.state = .provisional ∧ c.mark.get n = some r.start ∧ r.owner = n := by
  unfold Capture.provisional at h
  split at h
  · cases h
  · rename_i a marked
    have found := List.find?_some h
    simp only [Bool.and_eq_true, decide_eq_true_eq] at found
    exact ⟨List.mem_of_find?_eq_some h, found.1.1, by rw [marked, found.1.2], found.2⟩

theorem mem_voidRecord_void {c : Capture} {n : Nest} {r : CaptureRecord} (mem : r ∈ c.records)
    (provisional : r.state = .provisional) (mark : c.mark.get n = some r.start) (owner : r.owner = n) :
    { r with state := .void } ∈ (c.voidRecord n).records := by
  unfold Capture.voidRecord Capture.change
  rw [mark]
  refine List.mem_map.2 ⟨r, mem, ?_⟩
  rw [if_pos ⟨provisional, rfl, owner⟩]

theorem freeLanes_release (a : Analyser) (n : Nest) : (a.release n).freeLanes = a.freeLanes + a.lanesOf n := by
  unfold Analyser.freeLanes Analyser.lanesOf Analyser.release Analyser.setOverload Analyser.setEvaluation
  dsimp only
  induction a.lanes with
  | nil => rfl
  | cons l ls ih =>
    simp only [List.map_cons, List.countP_cons, ih]
    cases l with
    | none => simp [laneOf]; omega
    | some x =>
      by_cases own : laneOf n (some x) = true
      · simp [own]; omega
      · simp [own]

theorem noLanes_of_state {s : State} {n : Nest} (h : PoolBut none s) (hl : (s.nest n).state.mayHoldLanes = false) :
    s.analyser.lanesOf n = 0 := by
  by_contra some
  rw [h.lanes n (by simp) some] at hl
  cases hl

theorem queue_filter_self {s : State} {n : Nest} (h : PoolBut none s) (hw : (s.nest n).state ≠ .waitLanes) :
    s.analyser.queue.filter (fun r => decide (r.nest ≠ n)) = s.analyser.queue := by
  refine List.filter_eq_self.2 fun r hr => decide_eq_true fun own => ?_
  exact hw (own ▸ waits_of_request h hr)

/-- What a nest's `giveBack` leaves of the queue, and of the FREE lanes where nobody waits. -/
theorem giveBack_pool {s : State} (n : Nest) (h : PoolBut none s) :
    (s.giveBack n).analyser.queue <:+ s.analyser.queue.filter (fun r => decide (r.nest ≠ n)) ∧
      (s.analyser.queue = [] → (s.giveBack n).analyser.freeLanes = s.analyser.freeLanes + s.analyser.lanesOf n) := by
  have released (hw : (s.nest n).state ≠ .waitLanes) :
      (s.releaseLanes n).analyser.queue <:+ s.analyser.queue.filter (fun r => decide (r.nest ≠ n)) ∧
        (s.analyser.queue = [] → (s.releaseLanes n).analyser.freeLanes = s.analyser.freeLanes + s.analyser.lanesOf n) := by
    refine ⟨?_, fun empty => ?_⟩
    · rw [queue_filter_self h hw]
      exact grantHeads_queue _ (s.modAnalyser fun a => a.release n)
    · have none : s.releaseLanes n = s.modAnalyser fun a => a.release n := grantCheck_nil empty
      rw [none]
      exact freeLanes_release s.analyser n
  have kept (hw : (s.nest n).state ≠ .waitLanes) (hl : (s.nest n).state.mayHoldLanes = false) :
      s.analyser.queue <:+ s.analyser.queue.filter (fun r => decide (r.nest ≠ n)) ∧
        (s.analyser.queue = [] → s.analyser.freeLanes = s.analyser.freeLanes + s.analyser.lanesOf n) := by
    rw [queue_filter_self h hw, noLanes_of_state h hl]
    exact ⟨List.suffix_refl _, fun _ => rfl⟩
  unfold State.giveBack
  split
  all_goals rename_i state
  · refine ⟨grantHeads_queue _ (s.modAnalyser fun a =>
      { a with queue := a.queue.filter (fun r => decide (r.nest ≠ n)) }), fun empty => ?_⟩
    have one := h.requests n (by simp)
    rw [if_pos state] at one
    unfold State.requests at one
    rw [empty] at one
    cases one
  · exact released (by rw [state]; decide)
  · exact released (by rw [state]; decide)
  · exact released (by rw [state]; decide)
  all_goals exact kept (by rw [state]; decide) (by rw [state]; rfl)

/-- The record of an ended nest's mark is VOID, in its place. -/
theorem giveBack_voids {s : State} {n : Nest} {r : CaptureRecord} (h : PoolBut none s)
    (hs : (s.nest n).state = .window ∨ (s.nest n).state = .evaluate) (provisional : s.capture.provisional n = some r) :
    { r with state := .void } ∈ (s.giveBack n).capture.records := by
  obtain ⟨mem, state, mark, owner⟩ := provisional_iff provisional
  have hw : (s.nest n).state ≠ .waitLanes := by rcases hs with hs | hs <;> rw [hs] <;> decide
  have back : s.giveBack n = (s.releaseLanes n).voidCapture n := by
    unfold State.giveBack
    rcases hs with hs | hs <;> rw [hs]
  have past := handsPast_releaseLanes (m := n) h hw
  rw [back]
  refine mem_voidRecord_void (mem_grantHeads (by rw [state]; decide) _ ?_) state (past.captures.mark.trans mark) owner
  exact mem

/-- One nest of a sound state has given back what it held, in a state with the lanes, the queue, the evaluations and the
ring that `giveBack` leaves. -/
theorem gaveBackAlone_giveBack {s t : State} {n : Nest} (h : Sound s) (lanes : t.analyser.lanes = (s.giveBack n).analyser.lanes)
    (queue : t.analyser.queue = (s.giveBack n).analyser.queue)
    (evaluation : t.analyser.evaluation = (s.giveBack n).analyser.evaluation)
    (capture : t.capture = (s.giveBack n).capture) : s.gaveBackAlone t n := by
  obtain ⟨noRequest, noLanes⟩ := (grants_giveBack (n := n) h.1).pool.off n rfl
  obtain ⟨suffix, free⟩ := giveBack_pool n h.1
  refine ⟨⟨?_, ?_, fun hs => ?_, fun hs => ?_⟩, ?_, fun empty => ?_, fun hs r provisional => ?_⟩
  · unfold Analyser.lanesOf
    rw [lanes]
    exact noLanes
  · unfold State.requests
    rw [queue]
    exact noRequest
  · rw [evaluation]
    exact (giveBack_own h.1 (Or.inr hs)).2.1
  · rw [capture]
    obtain ⟨mark, -, records⟩ := giveBack_own h.1 hs
    refine ⟨mark, fun r provisional x hx ho start => (records x hx ho).imp id fun ⟨old, kept⟩ => ⟨old, fun hp => kept ⟨hp, ?_⟩⟩⟩
    rw [start]
    exact (provisional_iff provisional).2.2.1
  · rw [queue]
    exact suffix
  · unfold Analyser.freeLanes
    rw [lanes]
    exact free empty
  · rw [capture]
    exact giveBack_voids h.1 hs provisional

/-! ### The deadline's expiry -/

/-- Settles O28: what the nest holds is given back, and the verdict follows from there. -/
theorem deadlineExpires : Obligations.DeadlineExpires := by
  intro s n
  have stays (early : (s.nest n).state.running = false ∨ (s.nest n).deadlineRunning = false ∨ (s.nest n).deadline ≠ 0) :
      s.expire n = s := by
    refine if_neg fun due => ?_
    obtain ⟨running, counting, zero⟩ := due
    rcases early with no | no | no
    · rw [running] at no; cases no
    · rw [counting] at no; cases no
    · exact no zero
  refine ⟨fun early => congrArg Host.Outcome.next (stays early), ?_⟩
  intro id p running counting zero hid inTable program y streak
  set g := s.giveBack n with hg
  have granted : LanesGranted s g := lanesGranted_giveBack s n
  have rest := granted.hands.rest
  have own := granted.nest n
  have recipe : g.recipe = s.recipe := by rw [rest]
  have yieldSame : g.yield = s.yield := by rw [rest]
  have toneSame : g.tone n = s.tone n := by
    unfold State.tone
    rw [rest]
  have gid : (g.nest n).record = some id := by rw [own]; exact hid
  have verdict : GivesVerdict n id .retestTimeout g (g.verdict n (.named .retestTimeout)) :=
    givesVerdict (.named .retestTimeout) gid (by rw [granted.count]; exact inTable)
  have ended : s.expire n = g.verdict n (.named .retestTimeout) := if_pos ⟨running, counting, zero⟩
  set t := g.verdict n (.named .retestTimeout)
  have judged : t.record id = (g.record id).judge (s.nest n).retries .retestTimeout s.recipe.bins[8]? := by
    rw [verdict.record, recipe, own]
    rfl
  have unit := granted.hands.skips id
  have yield : t.yield = y.judged n .retestTimeout := by
    rw [verdict.yield, yieldSame]
  have uses : t.recipe.useCount = s.recipe.lowered (s.nest n).program := by rw [verdict.uses, recipe, own]
  have port : t.port = s.verdictNotices t n id .retestTimeout s.port := by
    have before : g.port = s.port := by rw [rest]
    rw [verdict.port, before]
    exact verdictNotices_congr (by rw [rest]) yieldSame n id _ _
  have tone : t.tone n = (s.tone n).verdict := by rw [verdict.tone, toneSame]
  refine ⟨t, congrArg Host.Outcome.next ended, ?_, ?_, ?_, ?_, ?_, ?_, ?_, ?_, ?_, ?_, ?_, ?_, ?_, fun sound => ?_, port,
    ?_, ?_, ?_, ?_, ?_, ?_, ?_, ?_, ?_, ?_, ?_, ?_⟩
  · exact (moves_endRun s n .retestTimeout).keepsLink
  · rw [verdict.nest]
  · rw [verdict.nest]
  · rw [verdict.nest]; exact gid
  · rw [verdict.nest, own]; exact program
  · rw [verdict.nest, own]
  · rw [judged]; rfl
  · rw [judged]; rfl
  · rw [judged]; rfl
  · rw [judged]; rfl
  · rw [judged, unit]; rfl
  · rw [judged, unit]; rfl
  · rw [uses, program]; rfl
  · exact gaveBackAlone_giveBack ((sound_iff s).2 sound) (by rw [verdict.analyser]; rfl) (by rw [verdict.analyser]; rfl)
      (by rw [verdict.analyser]; rfl) verdict.capture
  · rw [tone]; rfl
  · rw [tone]; rfl
  · rw [tone, toneVerdict_eq]
  · rw [tone, toneVerdict_eq]
  · rw [tone, toneVerdict_eq]
  · rw [yield]; rfl
  · rw [yield]; rfl
  · rw [yield]; exact PerNest.get_set_self _ _ _
  · rw [yield]; rfl
  · rw [yield]; exact PerNest.get_set_self _ _ _
  · rw [yield, Yield.judged_line]
    exact if_congr (Yield.holds_iff _) rfl rfl
  · rw [yield, Yield.judged_admission]
    exact if_congr ⟨fun due => due.2, fun due => ⟨rfl, due⟩⟩ rfl rfl

end Sys2Proof.Machine
end

section
/-! ABORT (O44) and the STOP line (O29): a running unit aborted, alone and in nest order. -/

namespace Sys2Proof.Machine

/-! ### One running unit aborted -/

/-- What the abort of nest `n`'s running unit does, besides `Ends`. -/
structure Aborts (n : Nest) (s t : State) : Prop extends Ends n s t where
  nest : t.nest n = (s.nest n).emptied
  tone : t.tone n = (s.tone n).silence
  useCount : t.recipe.useCount = s.recipe.lowered (s.nest n).program
  analyser : t.analyser = (s.giveBack n).analyser.setDetector n .stopped
  capture : t.capture = (s.giveBack n).capture
  gaveBack : s.gaveBackAlone t n

theorem aborts_abortRunning {s : State} {n : Nest} (h : Sound s) (hr : (s.nest n).state.running = true) :
    Aborts n s (s.abortRunning n) := by
  obtain ⟨id, hid⟩ := record_of_holdsUnit h (holdsUnit_of_running hr)
  have rest := letGo_rest (n := n) h.1
  have nest := letGo_nest (n := n) h.1
  have record : ((s.letGo n).nest n).record = some id := by rw [nest]; exact hid
  obtain ⟨nests, analyser, -⟩ := recordAborted_rest (s.letGo n) n
  have closed := recordAborted_eq record
  have released : s.letGo n =
      (((s.giveBack n).modNest n fun q => { q with deadlineRunning := false }).lowerUse n).setDetector n .stopped := rfl
  rw [lowerUse_eq] at released
  have capture : (s.abortRunning n).capture = (s.giveBack n).capture := by
    show ((s.letGo n).recordAborted n).capture = _
    rw [closed, released]
    rfl
  have lanes : (s.abortRunning n).analyser = (s.giveBack n).analyser.setDetector n .stopped := by
    show ((s.letGo n).recordAborted n).analyser = _
    rw [analyser, released]
    rfl
  refine { ends_abortRunning h hr with nest := ?_, tone := ?_, useCount := ?_, analyser := lanes, capture := capture, gaveBack := ?_ }
  · rw [abortRunning_eq, emptyNest_nest, if_pos rfl]
    have same : ((s.letGo n).recordAborted n).nest n = (s.letGo n).nest n := by
      unfold State.nest
      rw [nests]
    rw [same, nest]
    rfl
  · rw [abortRunning_eq, emptyNest_tone, if_pos rfl]
    unfold State.tone
    rw [closed, rest]
  · show ((s.letGo n).recordAborted n).recipe.useCount = _
    rw [closed, rest]
  · exact gaveBackAlone_giveBack h (by rw [lanes]; rfl) (by rw [lanes]; rfl) (by rw [lanes]; rfl) capture

/-- The port after the abort of a running unit: its VERDICT notice (R138). -/
theorem Ends.port_running {s t : State} {n : Nest} {id : Nat} (h : Ends n s t) (hr : (s.nest n).state.running = true)
    (hid : (s.nest n).record = some id) :
    t.port = s.port.notice (.verdict id { s.record id with retriesUsed := (s.nest n).retries } true s.link.frameIndex) := by
  have reserved : (s.nest n).state ≠ .reserved := by intro e; rw [e] at hr; cases hr
  rw [h.port, if_neg reserved, State.endNotices_running _ hid hr, State.skips_of_record hid]
  rfl

/-! ### ABORT -/

section Abort
variable {s : State} {tag : Byte} {ops : List Byte} {rest : List CommandCell} {n : Nest}

theorem exec_abort_refused (h : s.takes tag 0x22 ops rest) (hl : ops.length = 1) {reason : Reason}
    (ha : actAbort ops (s.taken rest) = refuse reason [] (s.taken rest)) :
    exec .abort s = .next ((s.taken rest).refusal tag 0x22 reason []) :=
  congrArg _ (takeCommand_refused h (operands_length hl) ha)

theorem actAbort_running (hn : Nest.ofNum (fieldAt ops 0 1) = some n) (hr : (s.nest n).state.running = true) :
    actAbort ops s = (s.abortRunning n, .done []) := by
  unfold actAbort
  rw [hn]
  have held : ¬ ((s.nest n).state = .idle ∨ (s.nest n).state = .reserved) := by
    rintro (e | e) <;> rw [e] at hr <;> cases hr
  have unjudged : (s.nest n).state ≠ .judged := by intro e; rw [e] at hr; cases hr
  exact (if_neg held).trans (if_neg unjudged)

theorem actAbort_judged {id : Nat} (hn : Nest.ofNum (fieldAt ops 0 1) = some n) (hj : (s.nest n).state = .judged)
    (hid : (s.nest n).record = some id) : actAbort ops s = ((s.discard id false).emptyNest n, .done []) := by
  unfold actAbort
  rw [hn]
  have held : ¬ ((s.nest n).state = .idle ∨ (s.nest n).state = .reserved) := by
    rintro (e | e) <;> rw [e] at hj <;> cases hj
  refine (if_neg held).trans ((if_pos hj).trans ?_)
  unfold State.discardJudged
  rw [hid]

end Abort

/-- What ABORT does to its nest and its unit in either case (R59, R60, R81). -/
structure Freed (n : Nest) (id : Nat) (s t : State) : Prop where
  moves : Moves s t
  nest : t.nest n = (s.nest n).emptied
  tone : t.tone n = (s.tone n).silence
  record : t.record id = .free
  marking : t.marking = s.marking
  yield : t.yield = { s.yield with counts := t.yield.counts }

theorem Aborts.yield_running {s t : State} {n : Nest} (h : Aborts n s t) (hr : (s.nest n).state.running = true) :
    t.yield = s.yield.ended 1 0 := by
  have unjudged : (s.nest n).state ≠ .judged := by intro e; rw [e] at hr; cases hr
  rw [h.yield, if_pos hr, if_neg unjudged]

theorem freed_abortRunning {s : State} {n : Nest} {id : Nat} (h : Sound s) (hr : (s.nest n).state.running = true)
    (hid : (s.nest n).record = some id) : Freed n id s (s.abortRunning n) := by
  have aborts := aborts_abortRunning h hr
  refine ⟨moves_abortRunning s n, aborts.nest, aborts.tone, aborts.freed id hid, aborts.marking, ?_⟩
  rw [aborts.yield_running hr]
  rfl

theorem freed_discard (s : State) (n : Nest) (id : Nat) : Freed n id s ((s.discard id false).emptyNest n) := by
  refine ⟨(moves_emptyNest _ n).after (moves_discard s id false), ?_, ?_, ?_, rfl, rfl⟩
  · rw [emptyNest_nest, if_pos rfl]
    rfl
  · rw [emptyNest_tone, if_pos rfl]
    rfl
  · exact (discard_record s id id false).trans (if_pos rfl)

theorem discard_rest (s : State) (n : Nest) (id : Nat) :
    ((s.discard id false).emptyNest n).recipe = s.recipe ∧ ((s.discard id false).emptyNest n).analyser = s.analyser ∧
      ((s.discard id false).emptyNest n).capture = s.capture := ⟨rfl, rfl, rfl⟩

/-- Settles O44: the checks in their order, then R59's steps for a running unit or R60's for a JUDGED one. -/
theorem abort : Obligations.Abort := by
  intro s tag ops rest sound h hl
  have h1 : Sound (s.taken rest) := ((sound_iff s).2 sound).same rfl rfl rfl rfl
  refine ⟨fun out => exec_abort_refused h hl (by unfold actAbort; rw [out]), fun n hn => ?_⟩
  intro q
  refine ⟨fun away => exec_abort_refused h hl ?_, fun id hid state => ?_⟩
  · unfold actAbort
    rw [hn]
    exact if_pos away
  · obtain ⟨u, acted, freed, running, judged⟩ : ∃ u, actAbort ops (s.taken rest) = (u, .done []) ∧
        Freed n id (s.taken rest) u ∧ (q.state.running = true → u = (s.taken rest).abortRunning n) ∧
        (q.state = .judged → u = ((s.taken rest).discard id false).emptyNest n) := by
      rcases state with running | judged
      · refine ⟨_, actAbort_running hn running, freed_abortRunning h1 running hid, fun _ => rfl, fun judged => ?_⟩
        rw [judged] at running
        cases running
      · refine ⟨_, actAbort_judged hn judged hid, freed_discard _ n id, fun running => ?_, fun _ => rfl⟩
        rw [judged] at running
        cases running
    refine ⟨u.done tag 0x22 [], congrArg _ (takeCommand_done h (operands_length hl) acted), freed.moves.link,
      freed.moves.port.commands, ?_, ?_, ?_, ?_, ?_, freed.tone, freed.record, freed.marking, ?_, ?_, ?_, fun p runs program => ?_,
      fun runs => ?_, fun ended => ?_⟩
    · show u.port.replies ++ _ = _
      rw [freed.moves.port.replies]
      rfl
    · exact congrArg Sequencer.state freed.nest
    · exact congrArg Sequencer.record freed.nest
    · exact congrArg Sequencer.program freed.nest
    · exact congrArg Sequencer.stepIndex freed.nest
    · exact (congrArg Yield.window freed.yield :)
    · exact (congrArg Yield.streak freed.yield :)
    · exact (congrArg Yield.line freed.yield :)
    · have aborts : Aborts n (s.taken rest) u := running runs ▸ aborts_abortRunning h1 runs
      refine aborts.useCount.trans ?_
      show s.recipe.lowered q.program = _
      rw [program]
      rfl
    · have aborts : Aborts n (s.taken rest) u := running runs ▸ aborts_abortRunning h1 runs
      refine ⟨aborts.gaveBack, congrArg Yield.counts (aborts.yield_running runs), ?_⟩
      have port : u.port = ((s.taken rest).notice
          (.verdict id { s.record id with retriesUsed := q.retries } true s.link.frameIndex)).port :=
        aborts.port_running runs hid
      exact congrArg (fun p : Port => (({ s with port := p } : State).done tag 0x22 []).port) port
    · rw [judged ended]
      obtain ⟨recipe, analyser, capture⟩ := discard_rest (s.taken rest) n id
      refine ⟨rfl, recipe, analyser, capture, rfl, fun m hm => ?_⟩
      exact (emptyNest_nest _ n m).trans (if_neg hm)

/-! ### What an ended nest has given back, with the other nests' ends before and behind its own -/

/-- Lanes, evaluation and capture of nest `n`, as held in `s`, are given back in `t`. -/
structure HandedBack (n : Nest) (s t : State) : Prop where
  lanes : t.analyser.lanesOf n = 0
  evaluation : (s.nest n).state = .evaluate → t.analyser.evaluation.get n = none
  captures : (s.nest n).state = .window ∨ (s.nest n).state = .evaluate →
    t.capture.mark.get n = none ∧ ∀ x ∈ t.capture.records, x.owner = n →
      x.state = .void ∨ x ∈ s.capture.records ∧ ¬ (x.state = .provisional ∧ s.capture.mark.get n = some x.start)

section HandedBack
variable {n : Nest} {s t u : State}

theorem handedBack_giveBack (h : Sound s) (lanes : t.analyser.lanes = (s.giveBack n).analyser.lanes)
    (evaluation : t.analyser.evaluation = (s.giveBack n).analyser.evaluation)
    (capture : t.capture = (s.giveBack n).capture) : HandedBack n s t := by
  refine ⟨?_, fun hs => ?_, fun hs => ?_⟩
  · unfold Analyser.lanesOf
    rw [lanes]
    exact ((grants_giveBack (n := n) h.1).pool.off n rfl).2
  · rw [evaluation]
    exact (giveBack_own h.1 (Or.inr hs)).2.1
  · rw [capture]
    obtain ⟨mark, -, records⟩ := giveBack_own h.1 hs
    exact ⟨mark, records⟩

theorem HandedBack.prepend (h : HandedBack n t u) (a : Apart n s t) : HandedBack n s u := by
  refine ⟨h.lanes, fun hs => ?_, fun hs => ?_⟩
  · have same := a.nest.same (by rw [hs]; decide)
    exact h.evaluation (by rw [same]; exact hs)
  · have hw : (s.nest n).state ≠ .waitLanes := by rcases hs with hs | hs <;> rw [hs] <;> decide
    obtain ⟨mark, records⟩ := h.captures (by rw [a.nest.same hw]; exact hs)
    have past := (a.past hw).captures
    refine ⟨mark, fun x hx ho => (records x hx ho).imp id fun ⟨old, kept⟩ => ⟨past.records x old ho, ?_⟩⟩
    rwa [← past.mark]

theorem HandedBack.append (h : HandedBack n s t) (hw : (t.nest n).state ≠ .waitLanes) (a : Apart n t u) :
    HandedBack n s u := by
  have past := a.past hw
  refine ⟨(a.lanes hw).trans h.lanes, fun hs => past.evaluation.trans (h.evaluation hs), fun hs => ?_⟩
  obtain ⟨mark, records⟩ := h.captures hs
  exact ⟨past.captures.mark.trans mark, fun x hx ho => records x (past.captures.records x hx ho) ho⟩

theorem HandedBack.givenBack (h : HandedBack n s t) (k : Sound t) (hw : (t.nest n).state ≠ .waitLanes) :
    s.givenBack t n := by
  refine ⟨h.lanes, ?_, h.evaluation, fun hs => ?_⟩
  · rw [k.1.requests n (by simp), if_neg hw]
  · obtain ⟨mark, records⟩ := h.captures hs
    refine ⟨mark, fun r provisional x hx ho start => (records x hx ho).imp id fun ⟨old, kept⟩ =>
      ⟨old, fun hp => kept ⟨hp, ?_⟩⟩⟩
    rw [start]
    exact (provisional_iff provisional).2.2.1

end HandedBack

/-! ### Every running unit aborted, in nest order -/

theorem apart_abortIfRunning {n m : Nest} (hm : n ≠ m) {s : State} (h : Sound s) :
    Apart n s (State.abortIfRunning m s) := by
  unfold State.abortIfRunning
  split
  · rename_i hr
    have aborts := aborts_abortRunning h hr
    have grants := grants_giveBack (n := m) h.1
    obtain ⟨own, holds⟩ := record_of_holdsUnit h (holdsUnit_of_running hr)
    refine ⟨aborts.others n hm, aborts.tones n hm, fun hw => ?_, fun hw => ?_, fun id hid => ?_⟩
    · refine (handsPast_giveBack hm h.1 hw).trans ⟨?_, by rw [aborts.analyser]; rfl⟩
      rw [aborts.capture]
      exact .refl n _
    · rw [aborts.analyser]
      exact grants.lanes n (by simpa using hm) hw
    · refine aborts.skipped id ?_
      exact record_ne h hm.symm hid
  · exact .refl n s

/-- A running unit has been aborted in `t`, from state `s` on. -/
structure Aborted (n : Nest) (s t : State) : Prop where
  nest : t.nest n = (t.nest n).emptied
  silent : (t.tone n).envelope = .silent ∧ (t.tone n).burstMute = false
  back : HandedBack n s t
  freed : ∀ id, (s.nest n).record = some id → t.record id = .free

theorem Aborted.prepend {n : Nest} {s t u : State} (h : Aborted n t u) (a : Apart n s t) : Aborted n s u :=
  ⟨h.nest, h.silent, h.back.prepend a, fun id hid => h.freed id (a.nest.record.trans hid)⟩

theorem aborted_abortIfRunning {n : Nest} {s : State} (h : Sound s) (hr : (s.nest n).state.running = true) :
    Aborted n s (State.abortIfRunning n s) := by
  have aborts := aborts_abortRunning h hr
  unfold State.abortIfRunning
  rw [if_pos hr]
  refine ⟨by rw [aborts.nest]; rfl, by rw [aborts.tone]; exact ⟨rfl, rfl⟩, ?_, aborts.freed⟩
  exact handedBack_giveBack h (by rw [aborts.analyser]; rfl) (by rw [aborts.analyser]; rfl) aborts.capture

/-- The abort of the listed nests. -/
def State.abortEach (ns : List Nest) (s : State) : State := ns.foldl (fun t m => State.abortIfRunning m t) s

theorem abortEach_ok {s : State} (ns : List Nest) (h : Sound s) : Sound (s.abortEach ns) := by
  induction ns generalizing s with
  | nil => exact h
  | cons m ns ih => exact ih (abortIfRunning_ok (n := m) h)

theorem abortEach_apart {n : Nest} {ns : List Nest} (hn : n ∉ ns) {s : State} (h : Sound s) : Apart n s (s.abortEach ns) := by
  induction ns generalizing s with
  | nil => exact .refl n s
  | cons m ns ih =>
    rw [List.mem_cons, not_or] at hn
    exact (apart_abortIfRunning hn.1 h).trans (ih hn.2 (abortIfRunning_ok (n := m) h))

/-- A FREE record stays so. -/
theorem abortEach_free {id : Nat} (ns : List Nest) {s : State} (h : Sound s) (free : s.record id = .free) :
    (s.abortEach ns).record id = .free := by
  induction ns generalizing s with
  | nil => exact free
  | cons m ns ih =>
    refine ih (abortIfRunning_ok (n := m) h) ?_
    have unheld (k : Nest) : (s.nest k).record ≠ some id := by
      intro hk
      have held : (s.record id).state ≠ .free := by
        rw [← h.2.held id, (holdersBut_perm s k).mem_iff, hk]
        simp
      rw [free] at held
      exact held rfl
    show (State.abortIfRunning m s).record id = _
    unfold State.abortIfRunning
    split
    · rename_i hr
      exact ((ends_abortRunning h hr).kept id (unheld m) fun k _ _ => unheld k).trans free
    · exact free

/-- The aborted counter after the abort of the listed nests. -/
theorem abortEach_yield {ns : List Nest} (nodup : ns.Nodup) {s : State} (h : Sound s) :
    (s.abortEach ns).yield = s.yield.ended (ns.countP (fun n => (s.nest n).state.running)) 0 := by
  induction ns generalizing s with
  | nil => rfl
  | cons m ns ih =>
    obtain ⟨fresh, nodup⟩ := List.nodup_cons.1 nodup
    have first : (State.abortIfRunning m s).yield = s.yield.ended (if (s.nest m).state.running then 1 else 0) 0 := by
      unfold State.abortIfRunning
      split
      · rename_i hr
        exact (aborts_abortRunning h hr).yield_running hr
      · rfl
    have later : ns.countP (fun n => ((State.abortIfRunning m s).nest n).state.running) =
        ns.countP (fun n => (s.nest n).state.running) :=
      List.countP_congr fun n hn => by
        have other : n ≠ m := by
          rintro rfl
          exact fresh hn
        rw [(apart_abortIfRunning other h).nest.running]
    show ((State.abortIfRunning m s).abortEach ns).yield = _
    rw [ih nodup (abortIfRunning_ok (n := m) h), first, Yield.ended_ended, later, List.countP_cons, Nat.add_comm]

/-- What STOP does to a sound state. -/
structure AllAborted (s t : State) : Prop where
  link : t.link = s.link
  out : t.out = s.out
  taps : t.port.taps = s.port.taps
  yield : t.yield = s.yield.ended (Nest.order.countP (fun n => (s.nest n).state.running)) 0
  queue : t.analyser.queue = []
  resting : ∀ n, (s.nest n).state.running = false → t.nest n = s.nest n ∧ t.tone n = s.tone n
  running : ∀ n, (s.nest n).state.running = true → Aborted n s t
  sound : Sound t

theorem allAborted_stopAll {s : State} (h : Sound s) : AllAborted s s.stopAll := by
  have turns : s.stopAll = s.abortEach Nest.order := rfl
  have each (n : Nest) :
      ((s.nest n).state.running = false → s.stopAll.nest n = s.nest n ∧ s.stopAll.tone n = s.tone n) ∧
        ((s.nest n).state.running = true → Aborted n s s.stopAll) := by
    obtain ⟨before, later, order, notBefore, notLater⟩ := order_split n
    have split : s.stopAll = (State.abortIfRunning n (s.abortEach before)).abortEach later := by
      rw [turns, order]
      unfold State.abortEach
      rw [List.foldl_append, List.foldl_cons]
    have soundBefore := abortEach_ok before h
    have apartBefore := abortEach_apart notBefore h
    have apartLater := abortEach_apart notLater (abortIfRunning_ok (n := n) soundBefore)
    rw [← split] at apartLater
    set a := s.abortEach before
    refine ⟨fun rests => ?_, fun runs => ?_⟩
    · have waits : (s.nest n).state ≠ .waitLanes := by intro e; rw [e] at rests; cases rests
      have own : State.abortIfRunning n a = a := by
        unfold State.abortIfRunning
        rw [apartBefore.nest.same waits, rests]
        rfl
      rw [own] at apartLater
      have apart := apartBefore.trans apartLater
      exact ⟨apart.nest.same waits, apart.tone⟩
    · have aborted := aborted_abortIfRunning soundBefore (by rw [apartBefore.nest.running]; exact runs)
      have idle : ((State.abortIfRunning n a).nest n).state ≠ .waitLanes := by rw [aborted.nest]; nofun
      refine Aborted.prepend ⟨?_, ?_, aborted.back.append idle apartLater, fun id hid => ?_⟩ apartBefore
      · rw [apartLater.nest.same idle]
        exact aborted.nest
      · rw [apartLater.tone]
        exact aborted.silent
      · rw [split]
        exact abortEach_free later (abortIfRunning_ok (n := n) soundBefore)
          (aborted.freed id hid)
  have sound := stopAll_ok h
  have moves := moves_stopAll s
  refine ⟨moves.link, moves.out, moves.port.taps, abortEach_yield (ns := Nest.order) (by decide) h, ?_, fun n => (each n).1, fun n => (each n).2, sound⟩
  refine List.eq_nil_iff_forall_not_mem.2 fun r hr => ?_
  have waits := waits_of_request sound.1 hr
  cases hrun : (s.nest r.nest).state.running with
  | false =>
    rw [((each r.nest).1 hrun).1] at waits
    rw [waits] at hrun
    cases hrun
  | true =>
    rw [((each r.nest).2 hrun).nest] at waits
    cases waits

theorem Yield.ended_zero (y : Yield) : y.ended 0 0 = y := rfl

/-- Settles O29: the running units are aborted in nest order, by the line or by the command. -/
theorem stopAbortsRunningUnits : Obligations.StopAbortsRunningUnits := by
  intro s sound
  have h := (sound_iff s).2 sound
  intro running aborted
  have counted : Nest.order.countP (fun n => (s.nest n).state.running) = running.length := List.countP_eq_length_filter
  have holds {t : State} (all : AllAborted s t) : aborted t := by
    have yield := all.yield
    rw [counted] at yield
    refine ⟨all.link, all.out, all.taps, ?_, ?_, ?_, ?_, fun some => ?_, fun none => ?_, all.queue,
      fun n => ⟨all.resting n, fun runs => ?_⟩⟩
    · rw [yield]; rfl
    · rw [yield]; rfl
    · rw [yield]; rfl
    · rw [yield]; rfl
    · rw [yield]
      exact if_neg fun zero => some (List.length_eq_zero_iff.1 zero)
    · rw [yield, none]
      exact Yield.ended_zero _
    · have ended := all.running n runs
      have nest := ended.nest
      have waits : (t.nest n).state ≠ .waitLanes := by rw [nest]; nofun
      refine ⟨by rw [nest]; rfl, by rw [nest]; rfl, by rw [nest]; rfl, by rw [nest]; rfl, by rw [nest]; rfl,
        ended.silent.1, ended.silent.2, ended.back.givenBack all.sound waits, ended.freed⟩
  refine ⟨fun high => ?_, fun low => ?_, rfl, fun tag rest takes => ?_⟩
  · show execStopLineAssert s = _
    unfold execStopLineAssert
    rw [if_pos high]
  · have moves := moves_stopAll s
    have stopped := holds (allAborted_stopAll h)
    refine ⟨{ s.stopAll with stopLine := true }, ?_, rfl, moves.port.replies, moves.port.commands, stopped⟩
    show execStopLineAssert s = _
    unfold execStopLineAssert
    rw [low]
    rfl
  · have moves := moves_stopAll (s.taken rest)
    have all : AllAborted (s.taken rest) (s.taken rest).stopAll := allAborted_stopAll (h.same rfl rfl rfl rfl)
    have stopped := holds (t := (s.taken rest).stopAll) ⟨all.link, all.out, all.taps, all.yield, all.queue, all.resting,
      fun n runs => (all.running n runs).prepend (.of_eq rfl rfl rfl rfl rfl), all.sound⟩
    have run : exec .stop s =
        .next ((s.taken rest).stopAll.done tag 0x23 (listBytes (fun n : Nest => toBytes 1 n.num) running)) :=
      congrArg Host.Outcome.next (takeCommand_done takes (operands_length rfl) rfl)
    refine ⟨_, run, moves.stopLine, moves.port.commands, stopped, ?_⟩
    show (s.taken rest).stopAll.port.replies ++ _ = _
    rw [moves.port.replies]
    rfl

end Sys2Proof.Machine
end

section
/-! The next step of a unit (R41 to R45, R51, R75, R77): how it begins, and the end of a step that is UNSETTLED (O21, O17). -/

namespace Sys2Proof.Machine

/-! ### The next step begins -/

/-- Nest `n` with its next step `x` loaded, in SETTLE from its first frame on, the step begun directly (R43, R44, R77). -/
def State.settleBegun (s : State) (n : Nest) (x : Step × Limits) : State :=
  ((s.setNest n { s.nest n with
      stepIndex := (s.nest n).stepIndex + 1, step := some x.1, limits := x.2, state := .settle, gap := none
      settleElapsed := 0, settledSeen := false }).setTone n ((s.tone n).directStart x.1)).setDetector n (.started x.1.tolerance)

/-- The same for a CONDITION step (R43, R79). -/
def State.conditionBegun (s : State) (n : Nest) (x : Step × Limits) : State :=
  (s.setNest n { s.nest n with
      stepIndex := (s.nest n).stepIndex + 1, step := some x.1, limits := x.2, state := .condition, gap := none }).setTone n
    (((s.tone n).directStart x.1).loadBurst x.1)

/-- The same with a range gap (R42, R75). -/
def State.gapBegun (s : State) (n : Nest) (x : Step × Limits) : State :=
  (s.setNest n { s.nest n with
      stepIndex := (s.nest n).stepIndex + 1, step := some x.1, limits := x.2, state := .gap
      gap := some (if (s.tone n).quiet then .silenceOf (s.nest n).settings.rangeGapMs else ⟨.rampDown, Config.rampFrames⟩) }).setTone
    n ((s.tone n).rampDown.hold x.1)

/-- Nest `n` with its next step `x` loaded. -/
def State.nextLoaded (s : State) (n : Nest) (x : Step × Limits) : State :=
  s.setNest n { s.nest n with stepIndex := (s.nest n).stepIndex + 1, step := some x.1, limits := x.2 }

/-- A nest and its generator set again. -/
@[simp] theorem setNest_setTone_setNest (s : State) (n : Nest) (q r : Sequencer) (w : Tone) :
    ((s.setNest n q).setTone n w).setNest n r = (s.setNest n r).setTone n w :=
  congrArg (fun x => { s with nests := x, tones := s.tones.set n w }) (PerNest.set_set s.nests n q r)

@[simp] theorem setTone_setTone (s : State) (n : Nest) (v w : Tone) : (s.setTone n v).setTone n w = s.setTone n w :=
  congrArg (fun x => { s with tones := x }) (PerNest.set_set s.tones n v w)

section NextStep
variable {s : State} {n : Nest} {x : Step × Limits}

theorem loadStep_nextIndex {f : ProgramFields} (program : s.programFields n = some f) :
    (s.nextIndex n).loadStep n = s.nextLoaded n (s.recipe.stepOf f ((s.nest n).stepIndex + 1)) := by
  have next : (s.nextIndex n).programFields n = some f := by
    rw [← program]
    unfold State.programFields State.nextIndex
    rw [State.nest_modNest]
    rfl
  rw [loadStep_eq next]
  unfold State.nextIndex
  rw [State.nest_modNest]
  exact setNest_setNest s n _ _

theorem nextLoaded_wantsGap (s : State) (n : Nest) (x : Step × Limits) :
    (s.nextLoaded n x).wantsGap n x.1 = decide (x.1.range ≠ (s.tone n).range) := by
  unfold State.wantsGap State.nextLoaded
  rw [State.nest_setNest]
  rfl

theorem nextLoaded_gap (s : State) (n : Nest) (x : Step × Limits) : (s.nextLoaded n x).openGap n x.1 = s.gapBegun n x := by
  unfold State.openGap State.nextLoaded State.gapBegun
  dsimp only
  rw [State.nest_setNest, if_neg (Nat.succ_ne_zero _)]
  simp only [setNest_setNest, State.setNest_tone]
  split <;> rfl

theorem nextLoaded_settle (s : State) (n : Nest) (x : Step × Limits) (measure : x.1.measure = true) :
    ((s.nextLoaded n x).modTone n fun w => w.directStart x.1).enterStep n x.1 = s.settleBegun n x := by
  unfold State.enterStep State.nextLoaded State.settleBegun
  rw [if_pos measure]
  unfold State.modNest State.modTone
  simp only [State.setTone_nest, State.nest_setNest, State.setNest_tone, setNest_setTone_setNest]

theorem nextLoaded_condition (s : State) (n : Nest) (x : Step × Limits) (measure : x.1.measure = false) :
    ((s.nextLoaded n x).modTone n fun w => w.directStart x.1).enterStep n x.1 = s.conditionBegun n x := by
  unfold State.enterStep State.nextLoaded State.conditionBegun
  rw [if_neg (Bool.eq_false_iff.1 measure)]
  unfold State.modNest State.modTone
  simp only [State.setTone_nest, State.nest_setNest, State.setNest_tone, State.tone_setTone, setNest_setTone_setNest,
    setTone_setTone]

theorem settleBegun_nest (s : State) (n : Nest) (x : Step × Limits) :
    (s.settleBegun n x).nest n =
      { s.nest n with
        stepIndex := (s.nest n).stepIndex + 1, step := some x.1, limits := x.2, state := .settle, gap := none
        settleElapsed := 0, settledSeen := false } := State.nest_setNest s n _

theorem settleBegun_tone (s : State) (n : Nest) (x : Step × Limits) :
    (s.settleBegun n x).tone n = (s.tone n).directStart x.1 := State.tone_setTone _ n _

variable (next : (s.nextIndex n).loadStep n = s.nextLoaded n x) (k : Nat)
include next

theorem runSteps_nextIndex :
    State.runSteps (k + 1) n (s.nextIndex n) =
      if x.1.range ≠ (s.tone n).range then (s.gapBegun n x, none)
      else
        let s2 := ((s.nextLoaded n x).modTone n fun w => w.directStart x.1).enterStep n x.1
        match (s2.nest n).settleTest with
        | .wait => (s2, none)
        | .settled => (s2.requestLanes n, none)
        | .unsettled =>
          if (s2.unsettle n).unitOver n true then (s2.unsettle n, some .byRecord)
          else State.runSteps k n ((s2.unsettle n).nextIndex n) := by
  have step : ((s.nextLoaded n x).nest n).step = some x.1 := congrArg Sequencer.step (State.nest_setNest s n _)
  rw [State.runSteps, next]
  simp only [step, nextLoaded_wantsGap, nextLoaded_gap, decide_eq_true_eq] <;> rfl

theorem runSteps_gap (range : x.1.range ≠ (s.tone n).range) :
    State.runSteps (k + 1) n (s.nextIndex n) = (s.gapBegun n x, none) := by
  rw [runSteps_nextIndex next, if_pos range]

theorem runSteps_condition (range : x.1.range = (s.tone n).range) (measure : x.1.measure = false) :
    State.runSteps (k + 1) n (s.nextIndex n) = (s.conditionBegun n x, none) := by
  rw [runSteps_nextIndex next, if_neg (not_not.2 range), nextLoaded_condition s n x measure]
  have waits : ((s.conditionBegun n x).nest n).settleTest = .wait := by
    unfold Sequencer.settleTest State.conditionBegun
    rw [State.setTone_nest, State.nest_setNest]
  simp only [waits]

theorem runSteps_settle (range : x.1.range = (s.tone n).range) (measure : x.1.measure = true) :
    State.runSteps (k + 1) n (s.nextIndex n) =
      match settleTest x.1 0 false with
      | .wait => (s.settleBegun n x, none)
      | .settled => ((s.settleBegun n x).requestLanes n, none)
      | .unsettled =>
        if ((s.settleBegun n x).unsettle n).unitOver n true then ((s.settleBegun n x).unsettle n, some .byRecord)
        else State.runSteps k n (((s.settleBegun n x).unsettle n).nextIndex n) := by
  rw [runSteps_nextIndex next, if_neg (not_not.2 range), nextLoaded_settle s n x measure]
  have tested : ((s.settleBegun n x).nest n).settleTest = settleTest x.1 0 false := by
    unfold Sequencer.settleTest
    rw [settleBegun_nest]
  simp only [tested]

end NextStep

/-! ### How the next step has begun -/

/-- The next step `x` has begun in `t`, and nothing but its nest's lanes has moved for it. -/
structure NextBegins (n : Nest) (x : Step × Limits) (s t : State) : Prop where
  begun : s.nextBegun t n x.1 x.2
  port : t.port = s.port
  yield : t.yield = s.yield
  evaluation : t.analyser.evaluation = s.analyser.evaluation
  skips : ∀ id, t.record id = { s.record id with capturesSkipped := (t.record id).capturesSkipped }
  still : (t.nest n).state = .gap ∨ (t.nest n).state = .condition → t.analyser = s.analyser
  unevaluated : (t.nest n).state ≠ .evaluate

section Begins
variable (s : State) (n : Nest) (x : Step × Limits)

theorem rampDown_quiet {w : Tone} (quiet : w.quiet = true) : w.rampDown = { w with envelope := .silent, burstMute := false } :=
  if_pos quiet

theorem rampDown_loud {w : Tone} (loud : ¬ w.quiet = true) :
    w.rampDown = { w with envelope := .rampDown w.envelope.lastPosition 0, glide := none } := if_neg loud

theorem quiet_iff (w : Tone) : w.quiet = true ↔ w.envelope = .silent ∨ w.burstMute = true := by
  simp [Tone.quiet]

/-- The generator at a direct start, field by field (R77). -/
theorem directStart_eq (w : Tone) (st : Step) :
    w.directStart st =
      { w with increment := incrementOf st.frequency, burstMute := false, burst := none, envelope := .full
               glide := some ⟨w.amplitude, amplitudeOf st.level, 0⟩ } := rfl

theorem nextBegins_gap (range : x.1.range ≠ (s.tone n).range) : NextBegins n x s (s.gapBegun n x) := by
  have nest : (s.gapBegun n x).nest n =
      { s.nest n with
          stepIndex := (s.nest n).stepIndex + 1, step := some x.1, limits := x.2, state := .gap
          gap := some (if (s.tone n).quiet then .silenceOf (s.nest n).settings.rangeGapMs
            else ⟨.rampDown, Config.rampFrames⟩) } := State.nest_setNest s n _
  have tone : (s.gapBegun n x).tone n = (s.tone n).rampDown.hold x.1 := State.tone_setTone _ n _
  have ramped : (s.tone n).rampDown =
      { s.tone n with
          envelope := (s.tone n).rampDown.envelope, burstMute := (s.tone n).rampDown.burstMute
          glide := (s.tone n).rampDown.glide } := by
    unfold Tone.rampDown
    split <;> rfl
  refine ⟨?_, rfl, rfl, rfl, fun _ => rfl, fun _ => rfl, by rw [nest]; nofun⟩
  refine ⟨by rw [nest], by rw [nest], by rw [nest], by rw [nest], by rw [nest], by rw [nest], by rw [nest], ?_, ?_,
    fun _ => ⟨by rw [nest], by rw [tone]; rfl, ?_, ?_, fun quiet => ?_, fun loud => ?_⟩, fun same => absurd same range⟩
  · rw [tone, ramped]; rfl
  · rw [tone, ramped]; rfl
  · rw [tone, ramped]; rfl
  · rw [tone, ramped]; rfl
  · have silent := (quiet_iff _).2 quiet
    rw [nest, tone, silent, rampDown_quiet silent]
    exact ⟨rfl, rfl, rfl⟩
  · have sounds := mt (quiet_iff _).1 loud
    rw [nest, tone, if_neg sounds, rampDown_loud sounds]
    exact ⟨rfl, rfl, rfl⟩

theorem nextBegins_condition (range : x.1.range = (s.tone n).range) (condition : x.1.measure = false) :
    NextBegins n x s (s.conditionBegun n x) := by
  have nest : (s.conditionBegun n x).nest n =
      { s.nest n with
          stepIndex := (s.nest n).stepIndex + 1, step := some x.1, limits := x.2, state := .condition, gap := none } :=
    State.nest_setNest s n _
  have tone : (s.conditionBegun n x).tone n =
      { (s.tone n).directStart x.1 with burst := some ⟨true, x.1.onCycles, x.1.repeats⟩, burstMute := false } :=
    State.tone_setTone _ n _
  rw [directStart_eq] at tone
  have notMeasure : x.1.measure ≠ true := by rw [condition]; nofun
  refine ⟨?_, rfl, rfl, rfl, fun _ => rfl, fun _ => rfl, by rw [nest]; nofun⟩
  unfold State.nextBegun
  rw [nest, tone]
  exact ⟨rfl, rfl, rfl, rfl, rfl, rfl, rfl, rfl, rfl, fun other => absurd range other,
    fun _ => ⟨rfl, rfl, rfl, rfl, rfl, fun _ => ⟨rfl, rfl⟩, fun measure => absurd measure notMeasure,
      fun measure => absurd measure notMeasure⟩⟩

theorem nextBegins_settle (range : x.1.range = (s.tone n).range) (measure : x.1.measure = true)
    (waits : settleTest x.1 0 false = .wait) : NextBegins n x s (s.settleBegun n x) := by
  have nest := settleBegun_nest s n x
  have tone := settleBegun_tone s n x
  rw [directStart_eq] at tone
  have notCondition : x.1.measure ≠ false := by rw [measure]; nofun
  have detector : (s.settleBegun n x).analyser.detector.get n = .started x.1.tolerance := PerNest.get_set_self _ _ _
  refine ⟨?_, rfl, rfl, rfl, fun _ => rfl, fun away => ?_, by rw [nest]; nofun⟩
  · unfold State.nextBegun
    rw [nest, tone, detector]
    exact ⟨rfl, rfl, rfl, rfl, rfl, rfl, rfl, rfl, rfl, fun other => absurd range other,
      fun _ => ⟨rfl, rfl, rfl, rfl, rfl, fun condition => absurd condition notCondition,
        fun _ _ => ⟨rfl, rfl, rfl, rfl, rfl⟩, fun _ settled => absurd (waits.symm.trans settled) (by decide)⟩⟩
  · rw [nest] at away
    rcases away with away | away <;> cases away

/-- The lanes asked for, whatever the grant check does with the request. -/
theorem lanesGranted_requestLanes {s : State} {n : Nest} {st : Step} (step : (s.nest n).step = some st) :
    LanesGranted (s.asked n st) (s.requestLanes n) := by
  rw [requestLanes_eq step]
  exact lanesGranted_grantCheck _

theorem grantHeads_evaluation (fuel : Nat) (s : State) :
    (s.grantHeads fuel).analyser.evaluation = s.analyser.evaluation := by
  induction fuel generalizing s with
  | zero => rfl
  | succ fuel ih =>
    unfold State.grantHeads
    split
    · rfl
    · split
      · rw [ih, grant_evaluation]
      · rfl

theorem nextBegins_settled (range : x.1.range = (s.tone n).range) (measure : x.1.measure = true)
    (settled : settleTest x.1 0 false = .settled) : NextBegins n x s ((s.settleBegun n x).requestLanes n) := by
  have nest := settleBegun_nest s n x
  have tone := settleBegun_tone s n x
  have granted := lanesGranted_requestLanes (s := s.settleBegun n x) (n := n) (st := x.1) (by rw [nest])
  set b := s.settleBegun n x with hb
  set t := b.requestLanes n
  have own := granted.nest n
  rw [asked_nest, nest] at own
  have rest := granted.hands.rest
  have toneSame : t.tone n = (s.tone n).directStart x.1 := by
    rw [← tone]
    unfold State.tone
    rw [rest]
    rfl
  rw [directStart_eq] at toneSame
  have notCondition : x.1.measure ≠ false := by rw [measure]; nofun
  have state : (t.nest n).state = .waitLanes ∨ (t.nest n).state = .guardWait ∨ (t.nest n).state = .window := by
    have moved := granted.states n
    rw [asked_nest] at moved
    exact moved
  have detector : t.analyser.detector.get n = .stopped := by
    rw [granted.detector]
    exact PerNest.get_set_self _ _ _
  refine ⟨?_, by rw [rest]; rfl, by rw [rest]; rfl, ?_, fun id => granted.hands.skips id, fun away => ?_, ?_⟩
  · unfold State.nextBegun
    rw [toneSame, detector]
    refine ⟨by rw [own], by rw [own], by rw [own], by rw [own], by rw [own], by rw [own], by rw [own], rfl, rfl,
      fun other => absurd range other,
      fun _ => ⟨rfl, rfl, rfl, rfl, rfl, fun condition => absurd condition notCondition,
        fun _ waits => absurd (settled.symm.trans waits) (by decide), fun _ _ => ⟨state, rfl, rfl⟩⟩⟩
  · have same : t.analyser.evaluation = (b.asked n x.1).analyser.evaluation := by
      rw [show t = _ from requestLanes_eq (by rw [nest])]
      exact grantHeads_evaluation _ _
    rw [same]
    rfl
  · rcases state with e | e | e <;> rw [e] at away <;> rcases away with away | away <;> cases away
  · rcases state with e | e | e <;> rw [e] <;> nofun

end Begins

/-- The next step, unless it is UNSETTLED at its entry. -/
theorem runSteps_begins {s : State} {n : Nest} {x : Step × Limits} (next : (s.nextIndex n).loadStep n = s.nextLoaded n x)
    (begins : s.beginsNext n x.1) (k : Nat) :
    ∃ t, State.runSteps (k + 1) n (s.nextIndex n) = (t, none) ∧ NextBegins n x s t := by
  by_cases range : x.1.range = (s.tone n).range
  · by_cases measure : x.1.measure = true
    · cases test : settleTest x.1 0 false with
      | wait => exact ⟨_, by rw [runSteps_settle next k range measure, test], nextBegins_settle s n x range measure test⟩
      | settled =>
        exact ⟨_, by rw [runSteps_settle next k range measure, test], nextBegins_settled s n x range measure test⟩
      | unsettled => exact absurd ⟨range, measure, test⟩ begins
    · have condition := Bool.eq_false_iff.2 measure
      exact ⟨_, runSteps_condition next k range condition, nextBegins_condition s n x range condition⟩
  · exact ⟨_, runSteps_gap next k range, nextBegins_gap s n x range⟩

/-! ### Whether a step is the unit's last -/

theorem unitOver_of_last {s : State} {n : Nest} {failed : Bool} (last : s.lastStep n failed) : s.unitOver n failed = true := by
  unfold State.unitOver
  rw [Bool.or_eq_true, Bool.and_eq_true, decide_eq_true_eq]
  rcases last with stop | ⟨p, f, program, fields, count⟩
  · exact Or.inl stop
  · refine Or.inr ?_
    unfold State.stepCount State.programFields
    simp only [program, fields]
    exact count

theorem programFields_eq {s : State} {n : Nest} {p : Nat} {f : ProgramFields} (program : (s.nest n).program = some p)
    (fields : (s.recipe.entry p).fields = some f) : s.programFields n = some f := by
  unfold State.programFields
  rw [program]
  exact fields

theorem unitOver_eq {s : State} {n : Nest} {f : ProgramFields} (program : s.programFields n = some f) (failed : Bool) :
    s.unitOver n failed = (failed && (s.nest n).settings.stopOnFail || decide (f.stepCount ≤ (s.nest n).stepIndex + 1)) := by
  unfold State.unitOver State.stepCount
  rw [program]

/-! ### A step that is UNSETTLED -/

/-- The record with an UNSETTLED result folded in (R131): no margin of it changes. -/
def UnitRecord.unsettledAt (u : UnitRecord) (index retries : Nat) : UnitRecord :=
  { u with stepsCompleted := u.stepsCompleted + 1, retriesUsed := retries
           firstFailing := some (u.firstFailing.getD (index, .unsettled)) }

theorem minPresent_none (x : Option Int) : minPresent x none = x := by cases x <;> rfl

theorem fold_unsettled (u : UnitRecord) (n : Nest) (id index retries : Nat) (st : Step) :
    u.fold (unsettledResult n id index retries st) = u.unsettledAt index retries := by
  have first : u.noteFailure (unsettledResult n id index retries st) = some (u.firstFailing.getD (index, .unsettled)) := by
    unfold UnitRecord.noteFailure
    cases u.firstFailing <;> rfl
  unfold UnitRecord.fold UnitRecord.unsettledAt
  rw [first]
  simp only [unsettledResult, minPresent_none]

theorem unsettle_eq {s : State} {n : Nest} {id : Nat} {st : Step} (hid : (s.nest n).record = some id)
    (step : (s.nest n).step = some st) :
    s.unsettle n =
      { s with
          records := s.records.set id ((s.record id).unsettledAt (s.nest n).stepIndex (s.nest n).retries)
          port := s.port.notice (.step (unsettledResult n id (s.nest n).stepIndex (s.nest n).retries st))
          analyser := s.analyser.setDetector n .stopped } := by
  unfold State.unsettle State.foldUnsettled
  simp only [hid, step]
  unfold State.foldResult
  rw [show (unsettledResult n id (s.nest n).stepIndex (s.nest n).retries st).record = id from rfl, fold_unsettled]
  rfl

section Unsettles
variable {s : State} {n : Nest} {id : Nat} {st : Step}

/-- What the end of a step as UNSETTLED changes. -/
structure Unsettles (n : Nest) (id : Nat) (st : Step) (s t : State) : Prop where
  rest : t = { s with records := t.records, port := t.port, analyser := t.analyser }
  record : t.record id = (s.record id).unsettledAt (s.nest n).stepIndex (s.nest n).retries
  count : t.records.length = s.records.length
  port : t.port = s.port.notice (.step (unsettledResult n id (s.nest n).stepIndex (s.nest n).retries st))
  analyser : t.analyser = s.analyser.setDetector n .stopped

theorem unsettles_unsettle (hid : (s.nest n).record = some id) (step : (s.nest n).step = some st)
    (inTable : id < s.records.length) : Unsettles n id st s (s.unsettle n) := by
  rw [unsettle_eq hid step]
  exact ⟨rfl, s.record_setRecord inTable _, List.length_set, rfl, rfl⟩

theorem Unsettles.nest {t : State} (h : Unsettles n id st s t) (m : Nest) : t.nest m = s.nest m := by
  unfold State.nest
  rw [h.rest]

theorem Unsettles.tone {t : State} (h : Unsettles n id st s t) (m : Nest) : t.tone m = s.tone m := by
  unfold State.tone
  rw [h.rest]

theorem setDetector_setDetector (a : Analyser) (n : Nest) (d e : Detector) :
    (a.setDetector n d).setDetector n e = a.setDetector n e :=
  congrArg (fun x => { a with detector := x }) (PerNest.set_set a.detector n d e)

/-- The class that a record with a failing step gives. -/
theorem ownClass_failing {u : UnitRecord} {x : Nat × StepOutcome} (first : u.firstFailing = some x) (margin : Nat) :
    u.ownClass margin = x.2.failClass := by
  unfold UnitRecord.ownClass
  rw [first]

/-- A verdict right behind an UNSETTLED step: the class of the first failing step (R134). -/
theorem unsettled_verdict {t : State} (h : Unsettles n id st s t) (hid : (s.nest n).record = some id)
    (inTable : id < s.records.length) :
    GivesVerdict n id ((s.record id).firstFailing.getD ((s.nest n).stepIndex, .unsettled)).2.failClass t
      (t.verdict n .byRecord) := by
  have verdict := givesVerdict (s := t) .byRecord (by rw [h.nest]; exact hid) (by rw [h.count]; exact inTable)
  have named : t.endClass n id .byRecord =
      ((s.record id).firstFailing.getD ((s.nest n).stepIndex, .unsettled)).2.failClass :=
    ownClass_failing (by rw [h.record]; rfl) _
  rwa [named] at verdict

theorem unitOver_congr {t : State} (nest : t.nest n = s.nest n) (recipe : t.recipe = s.recipe) (failed : Bool) :
    t.unitOver n failed = s.unitOver n failed := by
  unfold State.unitOver State.stepCount State.programFields
  rw [nest, recipe]

theorem nextBegun_congr {t u : State} {x : Step × Limits} (nest : t.nest n = s.nest n) (tone : t.tone n = s.tone n)
    (begun : t.nextBegun u n x.1 x.2) : s.nextBegun u n x.1 x.2 := by
  unfold State.nextBegun at begun ⊢
  rw [nest, tone] at begun
  exact begun

/-- The unit's last step UNSETTLED: its verdict. -/
theorem unsettled_last {s1 : State} (first : Unsettles n id st s s1) (last : s.lastStep n true) :
    s1.finishStep n true = (s1, some .byRecord) :=
  if_pos ((unitOver_congr (first.nest n) (by rw [first.rest]) true).trans (unitOver_of_last last))

/-- A step UNSETTLED before the unit's last: the next one. -/
theorem unsettled_next {s1 : State} {f : ProgramFields} (first : Unsettles n id st s s1)
    (program : s.programFields n = some f) (goesOn : (s.nest n).settings.stopOnFail = false)
    (more : (s.nest n).stepIndex + 1 < f.stepCount) :
    s1.finishStep n true = State.runSteps (255 + 1) n (s1.nextIndex n) ∧
      (s1.nextIndex n).loadStep n = s1.nextLoaded n (s.recipe.stepOf f ((s.nest n).stepIndex + 1)) := by
  have nest := first.nest n
  have recipe : s1.recipe = s.recipe := by rw [first.rest]
  have running : s1.unitOver n true = false := by
    rw [unitOver_congr nest recipe, unitOver_eq program, goesOn]
    simpa using more
  have program1 : s1.programFields n = some f := by
    rw [← program]
    unfold State.programFields
    rw [nest, recipe]
  refine ⟨if_neg (by rw [running]; nofun), ?_⟩
  rw [loadStep_nextIndex program1, recipe, nest]

/-- The next step UNSETTLED at its entry, and the unit's last (R40, R45, R51): its result, and the verdict. -/
theorem unsettled_atEntry {s1 : State} {p : Nat} {f : ProgramFields} {x : Step × Limits} (first : Unsettles n id st s s1)
    (hid : (s.nest n).record = some id) (inTable : id < s.records.length) (program : (s.nest n).program = some p)
    (fields : (s.recipe.entry p).fields = some f) (loaded : (s1.nextIndex n).loadStep n = s1.nextLoaded n x)
    (atEntry : ¬ s.beginsNext n x.1) (final : (s.nest n).stepIndex + 2 = f.stepCount) :
    let u := s.record id
    let q := s.nest n
    let failing := u.firstFailing.getD (q.stepIndex, .unsettled)
    let t := State.withVerdict n (State.runSteps (255 + 1) n (s1.nextIndex n))
    (t.nest n).state = .judged ∧ (t.nest n).stepIndex = q.stepIndex + 1 ∧ t.analyser.detector.get n = .stopped ∧
      t.record id =
        { u with state := .judged, stepsCompleted := u.stepsCompleted + 2, retriesUsed := q.retries
                 firstFailing := some failing, unitClass := some failing.2.failClass
                 binCopy := s.recipe.bins[failing.2.failClass.code]? } ∧
      t.port = s.verdictNotices t n id failing.2.failClass
        ((s.port.notice (.step (unsettledResult n id q.stepIndex q.retries st))).notice
          (.step (unsettledResult n id (q.stepIndex + 1) q.retries x.1))) := by
  intro u q failing
  have nest := first.nest n
  have recipe : s1.recipe = s.recipe := by rw [first.rest]
  obtain ⟨same, measure, test⟩ := not_not.1 atEntry
  rw [runSteps_settle loaded 255 (by rw [first.tone]; exact same) measure, test]
  set b := s1.settleBegun n x
  have entered : b.nest n = _ := settleBegun_nest s1 n x
  rw [nest] at entered
  have hidb : (b.nest n).record = some id := by rw [entered]; exact hid
  have inTableb : id < b.records.length := first.count.symm ▸ inTable
  have second := unsettles_unsettle (st := x.1) hidb (by rw [entered]) inTableb
  have last : b.lastStep n true := Or.inr ⟨p, f, by rw [entered]; exact program, by rw [← fields, ← recipe]; rfl,
    by rw [entered]; exact final.ge⟩
  have ends : (b.unsettle n).unitOver n true = true :=
    (unitOver_congr (second.nest n) (by rw [second.rest]) true).trans (unitOver_of_last last)
  have verdict := unsettled_verdict second hidb inTableb
  have noted : b.record id = u.unsettledAt q.stepIndex q.retries := first.record
  have failed : (b.record id).firstFailing.getD ((b.nest n).stepIndex, .unsettled) = failing := by
    rw [noted]
    rfl
  rw [failed] at verdict
  simp only [ends, if_true]
  set s2 := b.unsettle n
  have recipe2 : s2.recipe = s.recipe := by rw [second.rest]; exact recipe
  have link2 : s2.link = s.link := by rw [second.rest]; exact (congrArg State.link first.rest :)
  have yield2 : s2.yield = s.yield := by rw [second.rest]; exact (congrArg State.yield first.rest :)
  refine ⟨congrArg Sequencer.state verdict.nest, ?_, ?_, ?_, ?_⟩
  · refine (congrArg Sequencer.stepIndex verdict.nest).trans ?_
    show (s2.nest n).stepIndex = _
    rw [second.nest, entered]
  · exact (congrArg (fun a : Analyser => a.detector.get n) verdict.analyser).trans (PerNest.get_set_self _ _ _)
  · refine verdict.record.trans ?_
    rw [second.record, noted, second.nest, entered, recipe2]
    rfl
  · refine verdict.port.trans ((verdictNotices_congr link2 yield2 n id _ _).trans ?_)
    rw [second.port, entered, show b.port = _ from first.port]
    rfl

/-- A step that is UNSETTLED ends as the statements say. -/
theorem unsettledEnd_finishStep (hid : (s.nest n).record = some id) (step : (s.nest n).step = some st)
    (inTable : id < s.records.length) :
    s.unsettledEnd (State.withVerdict n ((s.unsettle n).finishStep n true)) n st id := by
  have first := unsettles_unsettle hid step inTable
  have moves : Moves s (State.withVerdict n ((s.unsettle n).finishStep n true)) :=
    moves_withVerdict s n ((moves_finishStep _ n true).after (moves_unsettle s n))
  set s1 := s.unsettle n
  have rest := first.rest
  have recipe : s1.recipe = s.recipe := by rw [rest]
  have nest := first.nest n
  unfold State.unsettledEnd
  intro u q failing sent
  refine ⟨moves.keepsLink, fun last => ?_, fun p f goesOn program fields more => ?_⟩
  · rw [unsettled_last first last]
    have verdict := unsettled_verdict first hid inTable
    refine ⟨?_, fun m hm => (verdict.others m hm).trans (first.nest m), ?_, ?_, ?_, ?_⟩
    · exact verdict.nest.trans (by rw [nest])
    · refine verdict.record.trans ?_
      rw [first.record, nest, recipe]
      rfl
    · refine verdict.port.trans ?_
      rw [first.port]
      exact verdictNotices_congr (by rw [rest]) (by rw [rest]) n id _ _
    · refine verdict.analyser.trans ?_
      rw [first.analyser, setDetector_setDetector]
    · refine verdict.capture.trans ?_
      rw [rest]
  · obtain ⟨steps, loaded⟩ := unsettled_next first (programFields_eq program fields) goesOn more
    rw [steps]
    intro next
    have range : s1.tone n = s.tone n := first.tone n
    refine ⟨fun begins => ?_, fun atEntry final => ?_⟩
    · have begins1 : s1.beginsNext n next.1 := by
        unfold State.beginsNext
        rw [range]
        exact begins
      obtain ⟨t, run, begun⟩ := runSteps_begins loaded begins1 255
      rw [run]
      refine ⟨nextBegun_congr nest range begun.begun, begun.port.trans first.port, begun.yield.trans (by rw [rest]),
        fun away => (begun.still away).trans first.analyser, (begun.skips id).trans ?_⟩
      rw [first.record]
      rfl
    · exact unsettled_atEntry first hid inTable program fields loaded atEntry final

end Unsettles

/-- Settles O21: the step ends UNSETTLED. -/
theorem settleCapUnsettles : Obligations.SettleCapUnsettles := by
  intro s n st id settle step unsettled hid inTable
  refine ⟨_, congrArg Host.Outcome.next (if_pos ?_), unsettledEnd_finishStep hid step inTable⟩
  unfold Sequencer.settleTest
  rw [settle, step]
  exact unsettled

/-! ### The end of a gap's phase -/

section GapPhase
variable {s : State} {n : Nest}

theorem exec_gapPhaseEnd (state : (s.nest n).state = .gap) {phase : GapPhase} (gap : (s.nest n).gap = some ⟨phase, 0⟩) :
    exec (.gapPhaseEnd n) s = .next (State.withVerdict n (s.gapPhaseEnd n)) :=
  congrArg Host.Outcome.next (if_pos ⟨state, by rw [gap]; rfl⟩)

theorem silenceOf_eq (g : Nat) :
    some (Gap.silenceOf g) = if g = 0 then some ⟨.rampUp, 192⟩ else some ⟨.silence, g * 96⟩ := by
  unfold Gap.silenceOf
  split <;> rfl

/-- The gap over: nest `n` in SETTLE, its detector started (R42 to R44). -/
def State.settleEntered (s : State) (n : Nest) (st : Step) : State :=
  (s.setNest n { s.nest n with state := .settle, gap := none, settleElapsed := 0, settledSeen := false }).setDetector n
    (.started st.tolerance)

theorem settleEntered_nest (s : State) (n : Nest) (st : Step) :
    (s.settleEntered n st).nest n =
      { s.nest n with state := .settle, gap := none, settleElapsed := 0, settledSeen := false } := State.nest_setNest s n _

/-- The gap over, into the step's first frame of SETTLE and its test. -/
theorem gapPhaseEnd_measure {st : Step} (gap : (s.nest n).gap = some ⟨.rampUp, 0⟩) (step : (s.nest n).step = some st)
    (measure : st.measure = true) :
    s.gapPhaseEnd n =
      match settleTest st 0 false with
      | .wait => (s.settleEntered n st, none)
      | .settled => ((s.settleEntered n st).requestLanes n, none)
      | .unsettled => ((s.settleEntered n st).unsettle n).finishStep n true := by
  have entered : s.enterStep n st = s.settleEntered n st := if_pos measure
  have tested : ((s.settleEntered n st).nest n).settleTest = settleTest st 0 false := by
    unfold Sequencer.settleTest
    rw [settleEntered_nest]
    simp only [step]
  unfold State.gapPhaseEnd
  rw [gap, step]
  show (s.enterStep n st).testSettle n = _
  rw [entered]
  unfold State.testSettle
  rw [tested] <;> rfl

theorem gapPhaseEnd_condition {st : Step} (gap : (s.nest n).gap = some ⟨.rampUp, 0⟩) (step : (s.nest n).step = some st)
    (measure : st.measure = false) :
    s.gapPhaseEnd n =
      ((s.setNest n { s.nest n with state := .condition, gap := none }).setTone n ((s.tone n).loadBurst st), none) := by
  have entered : s.enterStep n st =
      (s.setNest n { s.nest n with state := .condition, gap := none }).setTone n ((s.tone n).loadBurst st) :=
    if_neg (by rw [measure]; nofun)
  unfold State.gapPhaseEnd
  rw [gap, step]
  show (s.enterStep n st).testSettle n = _
  rw [entered]
  unfold State.testSettle Sequencer.settleTest
  rw [State.setTone_nest, State.nest_setNest]

/-- The step settled as it is entered: its lanes asked for. -/
theorem settledAtEntry {st : Step} (step : (s.nest n).step = some st) :
    let t := (s.settleEntered n st).requestLanes n
    t.analyser.detector.get n = .stopped ∧
      ((t.nest n).state = .waitLanes ∨ (t.nest n).state = .guardWait ∨ (t.nest n).state = .window) := by
  have granted := lanesGranted_requestLanes (s := s.settleEntered n st) (n := n) (st := st)
    (by rw [settleEntered_nest]; exact step)
  intro t
  refine ⟨?_, ?_⟩
  · rw [granted.detector]
    exact PerNest.get_set_self _ _ _
  · have moved := granted.states n
    rw [asked_nest] at moved
    exact moved

end GapPhase

/-- Settles O17: one phase after the other, and the step behind the last. -/
theorem gapPhaseEnds : Obligations.GapPhaseEnds := by
  intro s n state q
  refine ⟨fun gap => ?_, fun gap => ?_, fun st gap step => ⟨fun measure => ?_, fun measure waits => ?_,
    fun measure settled => ?_, fun id measure unsettled hid inTable => ?_⟩⟩
  · rw [exec_gapPhaseEnd state gap, ← silenceOf_eq]
    unfold State.gapPhaseEnd
    rw [show (s.nest n).gap = _ from gap]
    rfl
  · rw [exec_gapPhaseEnd state gap]
    unfold State.gapPhaseEnd
    rw [show (s.nest n).gap = _ from gap]
    rfl
  · rw [exec_gapPhaseEnd state gap, gapPhaseEnd_condition gap step measure]
    rfl
  · rw [exec_gapPhaseEnd state gap, gapPhaseEnd_measure gap step measure, waits]
    rfl
  · have run : exec (.gapPhaseEnd n) s = .next ((s.settleEntered n st).requestLanes n) := by
      rw [exec_gapPhaseEnd state gap, gapPhaseEnd_measure gap step measure, settled]
      rfl
    obtain ⟨detector, granted⟩ := settledAtEntry step
    refine ⟨_, run, Moves.keepsLink ?_, detector, granted⟩
    exact (moves_requestLanes _ n).after ((moves_setDetector _ n _).after (moves_setNest s n _ fun h => h))
  · intro entered
    have run : exec (.gapPhaseEnd n) s =
        .next (State.withVerdict n (((s.settleEntered n st).unsettle n).finishStep n true)) := by
      rw [exec_gapPhaseEnd state gap, gapPhaseEnd_measure gap step measure, unsettled]
    refine ⟨_, run, unsettledEnd_finishStep (s := entered) ?_ ?_ inTable⟩
    · exact (congrArg Sequencer.record (settleEntered_nest s n st)).trans hid
    · exact (congrArg Sequencer.step (settleEntered_nest s n st)).trans step

end Sys2Proof.Machine
end

section
/-! The evaluation's completion (O25): the result folded, the lanes released, the capture decided, and the step finished. -/

namespace Sys2Proof.Machine

/-! ### What the grants behind a release leave of the releasing nest -/

section Grants
variable {n : Nest}

theorem find?_dropWhile {α : Type} {p q : α → Bool} (disjoint : ∀ x, p x = true → q x = false) (l : List α) :
    (l.dropWhile p).find? q = l.find? q := by
  induction l with
  | nil => rfl
  | cons x l ih =>
    by_cases hp : p x = true
    · rw [List.dropWhile_cons_of_pos hp, ih, List.find?_cons_of_neg (by rw [disjoint x hp]; nofun)]
    · rw [List.dropWhile_cons_of_neg hp]

theorem provisional_reclaim (c : Capture) : c.reclaim.provisional n = c.provisional n := by
  unfold Capture.provisional
  show (match c.mark.get n with | none => none | some a => _) = _
  cases c.mark.get n with
  | none => rfl
  | some a =>
    refine find?_dropWhile (fun x void => ?_) c.records
    have state : x.state = .void := of_decide_eq_true void
    rw [state]
    rfl

theorem provisional_reserve {m : Nest} (hm : n ≠ m) (c : Capture) (carrier : Word) (i : Nat) (st : Step) (first : Word) :
    (c.reserve m carrier i st first).provisional n = c.provisional n := by
  have mark : (c.reserve m carrier i st first).mark.get n = c.mark.get n := PerNest.get_set_ne _ hm _
  unfold Capture.provisional
  rw [mark]
  cases c.mark.get n with
  | none => rfl
  | some a =>
    show (c.records ++ [_]).find? _ = _
    rw [List.find?_append]
    simp [hm.symm]

theorem provisional_reserveCapture {m : Nest} (hm : n ≠ m) (s : State) :
    (s.reserveCapture m).capture.provisional n = s.capture.provisional n := by
  unfold State.reserveCapture
  split
  · split
    · rfl
    · dsimp only
      split
      · rfl
      · split
        · exact provisional_reclaim _
        · exact (provisional_reserve hm _ _ _ _ _).trans (provisional_reclaim _)
  · rfl

theorem provisional_grant {r : LaneRequest} (hr : n ≠ r.nest) (s : State) (rest : List LaneRequest) :
    (s.grant r rest).capture.provisional n = s.capture.provisional n := by
  obtain ⟨loud, quiet⟩ := grant_capture s r rest
  by_cases h : (s.nest r.nest).guarded = true ∧ s.guard.loud = true
  · rw [(loud h).1]
  · rw [(quiet h).1]
    exact provisional_reserveCapture hr s

theorem overload_grant {r : LaneRequest} (hr : n ≠ r.nest) (s : State) (rest : List LaneRequest) :
    (s.grant r rest).analyser.overload.get n = s.analyser.overload.get n := by
  unfold State.grant
  dsimp only
  split
  · exact PerNest.get_set_ne _ hr _
  · rw [enterWindow_analyser]
    exact (PerNest.get_set_ne _ hr _).trans (PerNest.get_set_ne _ hr _)

/-- Grants to other nests leave nest `n` its provisional record and its overload mark. -/
theorem grantHeads_own (fuel : Nat) {s : State} (hq : ∀ r ∈ s.analyser.queue, n ≠ r.nest) :
    (s.grantHeads fuel).capture.provisional n = s.capture.provisional n ∧
      (s.grantHeads fuel).analyser.overload.get n = s.analyser.overload.get n := by
  induction fuel generalizing s with
  | zero => exact ⟨rfl, rfl⟩
  | succ fuel ih =>
    unfold State.grantHeads
    split
    · exact ⟨rfl, rfl⟩
    · rename_i r rest queue
      split
      · have hr := hq r (by rw [queue]; exact List.mem_cons_self)
        obtain ⟨provisional, overload⟩ := ih (s := s.grant r rest) fun x hx => by
          rw [grant_queue] at hx
          exact hq x (by rw [queue]; exact List.mem_cons_of_mem _ hx)
        exact ⟨provisional.trans (provisional_grant hr s rest), overload.trans (overload_grant hr s rest)⟩
      · exact ⟨rfl, rfl⟩

end Grants

/-! ### The result folded, the lanes released, the capture decided -/

/-- Whether the capture of nest `n`'s step is kept (R184). -/
def State.keepsCapture (s : State) (n : Nest) (o : StepOutcome) : Prop :=
  (s.capture.provisional n).isSome = true ∧
    ((s.nest n).settings.policy = .all ∨ (s.nest n).settings.policy = .failed ∧ o ≠ .pass)

/-- What the capture's decision changes. -/
theorem decideCapture_outcome {s : State} {n : Nest} {id : Nat} (o : StepOutcome) (hid : (s.nest n).record = some id)
    (inTable : id < s.records.length) :
    let t := s.decideCapture n o
    t = { s with capture := t.capture, records := t.records } ∧
      (s.keepsCapture n o → t.record id = { s.record id with capturesCommitted := (s.record id).capturesCommitted + 1 }) ∧
      (¬ s.keepsCapture n o → t.record id = s.record id) ∧ t.records.length = s.records.length := by
  unfold State.keepsCapture State.decideCapture
  rw [hid]
  cases provisional : s.capture.provisional n with
  | none => exact ⟨rfl, fun kept => absurd kept.1 (by decide), fun _ => rfl, rfl⟩
  | some r =>
    dsimp only
    split
    · rename_i keeps
      refine ⟨rfl, fun _ => ?_, fun lost => absurd ⟨rfl, keeps⟩ lost, List.length_set⟩
      exact State.record_setRecord _ inTable _
    · rename_i drops
      exact ⟨rfl, fun kept => absurd kept.2 drops, fun _ => rfl, rfl⟩

/-- The state in which an evaluated step is finished. -/
def State.evaluated (s : State) (n : Nest) (r : StepResult) : State :=
  ((s.foldResult r).releaseLanes n).decideCapture n r.outcome

/-- What it has become of nest `n`, its record `id` and the port; the other nests' lanes apart. -/
structure Evaluates (n : Nest) (id : Nat) (r : StepResult) (s t : State) : Prop where
  moves : Moves s t
  recipe : t.recipe = s.recipe
  tones : t.tones = s.tones
  yield : t.yield = s.yield
  port : t.port = s.port.notice (.step r)
  nest : t.nest n = s.nest n
  kept : s.keepsCapture n r.outcome →
    t.record id = { (s.record id).fold r with capturesCommitted := (s.record id).capturesCommitted + 1 }
  lost : ¬ s.keepsCapture n r.outcome → t.record id = (s.record id).fold r
  count : t.records.length = s.records.length
  lanes : t.analyser.lanesOf n = 0
  evaluation : t.analyser.evaluation.get n = none
  overload : t.analyser.overload.get n = false

theorem evaluates_evaluated {s : State} {n : Nest} {id : Nat} {r : StepResult} (h : Sound s)
    (state : (s.nest n).state = .evaluate) (hid : (s.nest n).record = some id) (own : r.record = id) :
    Evaluates n id r s (s.evaluated n r) := by
  have inTable := record_inTable h hid
  have hw : (s.nest n).state ≠ .waitLanes := by rw [state]; decide
  have pool : PoolBut none (s.foldResult r) := h.1.congr rfl (fun _ => rfl) (fun _ _ => rfl)
  have grants := grants_releaseLanes (n := n) pool hw
  have nest : ((s.foldResult r).releaseLanes n).nest n = s.nest n := grants.out n rfl
  set s1 := s.foldResult r with hs1
  set b := s1.modAnalyser fun a => a.release n
  have others : ∀ x ∈ b.analyser.queue, n ≠ x.nest := fun x hx e => hw (e ▸ waits_of_request (s := s1) pool hx)
  obtain ⟨hands, untouched⟩ := handsOn_grantHeads b b.analyser.queue.length
  obtain ⟨provisional, overload⟩ := grantHeads_own b.analyser.queue.length others
  have evaluation := grantHeads_evaluation b.analyser.queue.length b
  set s2 := s1.releaseLanes n with hs2
  have folded : s1.record id = (s.record id).fold r := by
    rw [hs1]
    unfold State.foldResult
    rw [own]
    exact s.record_setRecord inTable _
  have record : s2.record id = (s.record id).fold r := by
    refine (untouched id fun x hx held => ?_).trans folded
    exact record_ne h (others x hx).symm hid held
  have count : s2.records.length = s.records.length := grants.count.trans List.length_set
  have hid2 : (s2.nest n).record = some id := by rw [nest]; exact hid
  obtain ⟨decided, kept, lost, same⟩ := decideCapture_outcome r.outcome hid2 (by rw [count]; exact inTable)
  have keeps : s2.keepsCapture n r.outcome ↔ s.keepsCapture n r.outcome := by
    unfold State.keepsCapture
    rw [nest, show s2.capture.provisional n = s.capture.provisional n from provisional]
  have analyser : (s.evaluated n r).analyser = s2.analyser := decideCapture_analyser s2 n _
  refine
    { moves := (moves_decideCapture s2 n _).after ((moves_releaseLanes s1 n).after (moves_foldResult s r))
      recipe := (congrArg State.recipe decided).trans (congrArg State.recipe hands.rest :)
      tones := (congrArg State.tones decided).trans (congrArg State.tones hands.rest :)
      yield := (congrArg State.yield decided).trans (congrArg State.yield hands.rest :)
      port := (congrArg State.port decided).trans (congrArg State.port hands.rest :)
      nest := (decideCapture_nest s2 n n _).trans nest
      kept := fun k => ?_, lost := fun k => ?_, count := same.trans count, lanes := ?_, evaluation := ?_, overload := ?_ }
  · refine (kept (keeps.2 k)).trans ?_
    rw [record]
    rfl
  · exact (lost fun k' => k (keeps.1 k')).trans record
  · rw [analyser]
    exact (grants.pool.off n rfl).2
  · rw [analyser]
    refine (congrArg (fun e : PerNest _ => e.get n) evaluation).trans ?_
    exact (release_evaluation _ n n).trans (if_pos rfl)
  · rw [analyser]
    refine overload.trans ?_
    exact PerNest.get_set_self _ _ _

/-! ### The verdict of an evaluated unit -/

/-- A class that a record gives is no retest, and joins the window (R134, R164). -/
theorem windowEntry_ownClass (u : UnitRecord) (margin : Nat) :
    (u.ownClass margin).windowEntry = some (u.ownClass margin).passes := by
  have entry : ∀ c : UnitClass, c.windowEntry ≠ none → c.windowEntry = some c.passes := by
    intro c
    cases c <;> decide
  refine entry _ ?_
  unfold UnitRecord.ownClass
  split
  · rename_i cause _
    cases cause <;> decide
  · split
    · decide
    · split <;> decide

theorem Yield.judged_window {y : Yield} {n : Nest} {c : UnitClass} {pass : Bool} (entry : c.windowEntry = some pass) :
    (y.judged n c).window = (y.window ++ [pass]).drop (y.window.length + 1 - y.windowLength) := by
  show (y.counted n c).window = _
  unfold Yield.counted Yield.takeVerdict
  rw [entry]
  unfold Yield.join Yield.trim
  simp

/-- The class that a record gives, in the words of the statement. -/
theorem ownClass_eq (u : UnitRecord) (margin : Nat) :
    u.ownClass margin =
      match u.firstFailing with
      | some x => x.2.failClass
      | none =>
        match u.worstOverall with
        | none => .passA
        | some m => if m < (margin : Int) then .passB else .passA := by
  unfold UnitRecord.ownClass
  cases u.firstFailing <;> rfl

/-- Settles O25: the result, the lanes and the capture, and then the verdict or the next step. -/
theorem evaluationCompletes : Obligations.EvaluationCompletes := by
  intro s n
  refine ⟨fun away => congrArg Host.Outcome.next (if_neg fun due => away due.1), ?_⟩
  intro st id sound state inFlight step hid r u q first worst c folded kept sent
  have h := (sound_iff s).2 sound
  have inTable := record_inTable h hid
  have evaluated := evaluates_evaluated (r := r) h state hid rfl
  have complete : s.completeEvaluation n = (s.evaluated n r).finishStep n (decide (r.outcome ≠ .pass)) := by
    unfold State.completeEvaluation
    rw [hid, step]
    rfl
  have run : exec (.evaluationComplete n) s =
      .next (State.withVerdict n ((s.evaluated n r).finishStep n (decide (r.outcome ≠ .pass)))) := by
    rw [← complete]
    exact congrArg Host.Outcome.next (if_pos ⟨state, inFlight⟩)
  set e := s.evaluated n r
  have keepsLink : s.KeepsLink (State.withVerdict n (e.finishStep n (decide (r.outcome ≠ .pass)))) :=
    (moves_withVerdict s n ((moves_finishStep e n _).after evaluated.moves)).keepsLink
  have foldedEq : u.fold r = folded := rfl
  have record : e.record id = { folded with capturesCommitted := (e.record id).capturesCommitted } := by
    by_cases k : kept
    · rw [evaluated.kept k]
      exact congrArg (fun x : UnitRecord => { x with capturesCommitted := u.capturesCommitted + 1 }) foldedEq
    · rw [evaluated.lost k]
      exact foldedEq
  have committed : kept → (e.record id).capturesCommitted = u.capturesCommitted + 1 := fun k => by rw [evaluated.kept k]
  have skipped : ¬ kept → (e.record id).capturesCommitted = u.capturesCommitted := fun k => by rw [evaluated.lost k]; rfl
  have link := evaluated.moves.link
  refine ⟨fun last => ?_, fun p f goesOn program fields more => ?_⟩
  · have ends : e.finishStep n (decide (r.outcome ≠ .pass)) = (e, some .byRecord) :=
      if_pos ((unitOver_congr evaluated.nest evaluated.recipe _).trans (unitOver_of_last last))
    rw [ends] at run keepsLink
    have named : e.endClass n id .byRecord = c := by
      show (e.record id).ownClass (e.nest n).settings.gradeMargin = c
      rw [record, evaluated.nest]
      exact ownClass_eq _ _
    have verdict := givesVerdict (s := e) .byRecord (by rw [evaluated.nest]; exact hid) (by rw [evaluated.count]; exact inTable)
    rw [named] at verdict
    have entry : c.windowEntry = some c.passes := by
      rw [← named]
      exact windowEntry_ownClass _ _
    set t : State := State.withVerdict n (e, some .byRecord)
    have yield : t.yield = s.yield.judged n c := verdict.yield.trans (by rw [evaluated.yield])
    have judged : t.record id = (e.record id).judge q.retries c s.recipe.bins[c.code]? := by
      refine verdict.record.trans ?_
      rw [evaluated.nest, evaluated.recipe]
    have same : (t.record id).capturesCommitted = (e.record id).capturesCommitted := by
      rw [judged]
      rfl
    refine ⟨t, run, keepsLink, ?_, ?_, ?_, ?_, ?_, ?_, ?_, ?_, fun k => same.trans (committed k),
      fun k => same.trans (skipped k), ?_, ?_, ?_⟩
    · exact congrArg Sequencer.state verdict.nest
    · exact (congrArg Sequencer.record verdict.nest).trans (by rw [evaluated.nest]; exact hid)
    · exact congrArg Sequencer.deadlineRunning verdict.nest
    · exact (congrArg Sequencer.retries verdict.nest).trans (by rw [evaluated.nest])
    · exact (congrArg (fun a : Analyser => a.lanesOf n) verdict.analyser).trans evaluated.lanes
    · exact (congrArg (fun a : Analyser => a.evaluation.get n) verdict.analyser).trans evaluated.evaluation
    · exact (congrArg (fun a : Analyser => a.overload.get n) verdict.analyser).trans evaluated.overload
    · rw [same, judged, record]
      rfl
    · refine verdict.port.trans ?_
      rw [evaluated.port]
      exact verdictNotices_congr link evaluated.yield n id _ _
    · rw [yield]
      exact Yield.judged_window entry
    · rw [yield]
      exact PerNest.get_set_self _ _ _
  · intro next begins
    have same : e.programFields n = s.programFields n := by
      unfold State.programFields
      rw [evaluated.nest, evaluated.recipe]
    have running : e.unitOver n (decide (r.outcome ≠ .pass)) = false := by
      rw [unitOver_congr evaluated.nest evaluated.recipe, unitOver_eq (programFields_eq program fields), Bool.or_eq_false_iff]
      refine ⟨?_, decide_eq_false (Nat.not_le.2 more)⟩
      rcases goesOn with passes | stays
      · rw [passes]
        rfl
      · rw [show (s.nest n).settings.stopOnFail = false from stays, Bool.and_false]
    have steps : e.finishStep n (decide (r.outcome ≠ .pass)) = State.runSteps (255 + 1) n (e.nextIndex n) :=
      if_neg (by rw [running]; nofun)
    have loaded : (e.nextIndex n).loadStep n = e.nextLoaded n next := by
      rw [loadStep_nextIndex (same.trans (programFields_eq program fields)), evaluated.recipe, evaluated.nest]
    have tone : e.tone n = s.tone n := by
      unfold State.tone
      rw [evaluated.tones]
    have begins1 : e.beginsNext n next.1 := by
      unfold State.beginsNext
      rw [tone]
      exact begins
    obtain ⟨t, stepped, begun⟩ := runSteps_begins loaded begins1 255
    have pool : PoolBut none t := by
      have ok := (completeEvaluation_ok (n := n) h.1 (by rw [state]; rfl)).pool
      rwa [complete, steps, stepped] at ok
    rw [steps, stepped] at run keepsLink
    have unit := begun.skips id
    refine ⟨t, run, keepsLink, nextBegun_congr evaluated.nest tone begun.begun, begun.port.trans evaluated.port,
      begun.yield.trans evaluated.yield, (congrArg (fun x : PerNest _ => x.get n) begun.evaluation).trans evaluated.evaluation,
      fun unguarded closed => noLanes_of_state pool ?_, ?_, fun k => ?_, fun k => ?_⟩
    · cases at' : (t.nest n).state with
      | guardWait => exact absurd at' unguarded
      | window => exact absurd at' closed
      | evaluate => exact absurd at' begun.unevaluated
      | _ => rfl
    · rw [unit, record]
    · rw [unit]
      exact committed k
    · rw [unit]
      exact skipped k

end Sys2Proof.Machine
end

section
/-! What one nest's share of a frame leaves of another nest: its sequencer, but for lanes granted meanwhile, and its records
of the capture ring. (For a corrupted window, O9.) -/

namespace Sys2Proof.Machine

/-! ### The relation -/

/-- The nest waits for lanes or quiet, or is in WINDOW before its first window frame. -/
def Sequencer.Pending (q : Sequencer) : Prop :=
  q.state = .waitLanes ∨ q.state = .window ∧ q.windowCount = 0 ∨ q.state = .guardWait

/-- As it was, or brought to GUARD_WAIT or to the start of its window. -/
def Reopened (q r : Sequencer) : Prop :=
  r = q ∨ r.Pending ∧ r = { q with state := r.state, windowCount := r.windowCount }

theorem Reopened.refl (q : Sequencer) : Reopened q q := Or.inl rfl

theorem Reopened.trans {q r u : Sequencer} (h : Reopened q r) (k : Reopened r u) : Reopened q u := by
  rcases k with rfl | ⟨pending, same⟩
  · exact h
  · rcases h with rfl | ⟨-, before⟩
    · exact Or.inr ⟨pending, same⟩
    · refine Or.inr ⟨pending, ?_⟩
      rw [same, before]

theorem Reopened.pending {q r : Sequencer} (h : Reopened q r) (pending : q.Pending) : r.Pending := by
  rcases h with rfl | ⟨again, -⟩
  · exact pending
  · exact again

theorem reopened_window (q : Sequencer) : Reopened q { q with state := .window, windowCount := 0 } :=
  Or.inr ⟨Or.inr (Or.inl ⟨rfl, rfl⟩), rfl⟩

theorem reopened_guardWait (q : Sequencer) : Reopened q { q with state := .guardWait } := Or.inr ⟨Or.inr (Or.inr rfl), rfl⟩

/-- Nest `n` has no request in the queue. -/
def State.unqueued (s : State) (n : Nest) : Prop := ∀ r ∈ s.analyser.queue, n ≠ r.nest

theorem unqueued_of_state {s : State} {n : Nest} (h : PoolBut none s) (hw : (s.nest n).state ≠ .waitLanes) : s.unqueued n :=
  fun _ hr e => hw (e ▸ waits_of_request h hr)

/-- What an operation on another nest leaves to nest `n`: no more than a grant where it has asked for lanes, and its
sequencer and its captures as they are where it has not. -/
structure Past (n : Nest) (s t : State) : Prop where
  nest : Reopened (s.nest n) (t.nest n)
  still : s.unqueued n → t.unqueued n ∧ t.nest n = s.nest n ∧ Capture.Leaves n s.capture t.capture

theorem Past.refl (n : Nest) (s : State) : Past n s s := ⟨.refl _, fun h => ⟨h, rfl, .refl n _⟩⟩

theorem Past.trans {n : Nest} {s t u : State} (h : Past n s t) (k : Past n t u) : Past n s u := by
  refine ⟨h.nest.trans k.nest, fun away => ?_⟩
  obtain ⟨away1, same1, leaves1⟩ := h.still away
  obtain ⟨away2, same2, leaves2⟩ := k.still away1
  exact ⟨away2, same2.trans same1, leaves1.trans leaves2⟩

theorem Past.after {n : Nest} {s t u : State} (k : Past n t u) (h : Past n s t) : Past n s u := h.trans k

/-- A change of nothing that the nest is about but its captures. -/
theorem Past.of_leaves {n : Nest} {s t : State} (nest : t.nest n = s.nest n) (queue : t.analyser.queue = s.analyser.queue)
    (captures : Capture.Leaves n s.capture t.capture) : Past n s t := by
  refine ⟨Or.inl nest, fun away => ⟨?_, nest, captures⟩⟩
  unfold State.unqueued
  rw [queue]
  exact away

theorem Past.of_eq {n : Nest} {s t : State} (nest : t.nest n = s.nest n) (queue : t.analyser.queue = s.analyser.queue)
    (capture : t.capture = s.capture) : Past n s t := by
  refine .of_leaves nest queue ?_
  rw [capture]
  exact .refl n _

/-- A change of another nest's sequencer, and of nothing else that the nest is about. -/
theorem Past.of_set {n m : Nest} {s t : State} {q : Sequencer} (hm : n ≠ m) (nests : t.nests = s.nests.set m q)
    (queue : t.analyser.queue = s.analyser.queue) (capture : t.capture = s.capture) : Past n s t := by
  refine .of_eq ?_ queue capture
  unfold State.nest
  rw [nests]
  exact PerNest.get_set_ne _ hm _

/-! ### Captures of another nest -/

section Captures
variable {n m : Nest} (hm : n ≠ m) (s : State)
include hm

/-- A change of a nest's own provisional record. -/
theorem Capture.leaves_change (c : Capture) (f : CaptureRecord → CaptureRecord) (owner : ∀ r, (f r).owner = r.owner) :
    Capture.Leaves n c (c.change m f) := by
  unfold Capture.change
  split
  · exact .refl n _
  · rename_i a _
    refine ⟨rfl, fun x hx ho => ?_⟩
    obtain ⟨y, hy, rfl⟩ := List.mem_map.1 hx
    by_cases own : y.state = .provisional ∧ y.start = a ∧ y.owner = m
    · rw [if_pos own] at ho
      exact absurd ((ho.symm.trans (owner y)).trans own.2.2) hm
    · rw [if_neg own]
      exact hy

theorem past_voidCapture : Past n s (s.voidCapture m) := .of_leaves rfl rfl (Capture.leaves_voidRecord hm _)

theorem past_captureSample (x : Sample) : Past n s (s.captureSample m x) := by
  refine .of_leaves rfl rfl ?_
  show Capture.Leaves n s.capture (s.capture.writeSample m x)
  unfold Capture.writeSample
  split
  · exact .refl n _
  · rename_i r _
    have changed := Capture.leaves_change hm (s.capture.writeWord r (4 + r.fill) (x.signExtend 32))
      (fun r => { r with fill := r.fill + 1 }) fun _ => rfl
    exact ⟨changed.mark, changed.records⟩

theorem leaves_commitRecord (c : Capture) (o : StepOutcome) : Capture.Leaves n c (c.commitRecord m o) := by
  unfold Capture.commitRecord
  split
  · exact .refl n _
  · rename_i r _
    have changed := Capture.leaves_change hm (c.writeWord r 3 (causeWord (some o) r.length))
      (fun r => { r with state := .committed }) fun _ => rfl
    exact ⟨(PerNest.get_set_ne _ hm _).trans changed.mark, changed.records⟩

theorem past_decideCapture (o : StepOutcome) : Past n s (s.decideCapture m o) := by
  unfold State.decideCapture
  split
  · split
    · exact .of_leaves rfl rfl (leaves_commitRecord hm _ o)
    · exact past_voidCapture hm s
  · exact .refl n s

end Captures

/-! ### Lanes -/

section Lanes
variable {n m : Nest} (s : State)

theorem past_enterWindow (hm : n ≠ m) : Past n s (s.enterWindow m) := by
  refine .of_leaves ?_ ?_ (leaves_enterWindow s hm)
  · rw [enterWindow_nest, if_neg hm]
  · rw [enterWindow_analyser]
    rfl

theorem grant_reopens (r : LaneRequest) (rest : List LaneRequest) : Reopened (s.nest n) ((s.grant r rest).nest n) := by
  rw [grant_nest]
  split
  · rename_i own
    subst own
    split
    · exact reopened_guardWait _
    · exact reopened_window _
  · exact .refl _

theorem past_grantHeads (fuel : Nat) : Past n s (s.grantHeads fuel) := by
  induction fuel generalizing s with
  | zero => exact .refl n s
  | succ fuel ih =>
    unfold State.grantHeads
    split
    · exact .refl n s
    · rename_i r rest queue
      split
      · have later := ih (s.grant r rest)
        refine ⟨(grant_reopens s r rest).trans later.nest, fun away => ?_⟩
        have hr : n ≠ r.nest := away r (by rw [queue]; exact List.mem_cons_self)
        obtain ⟨away', same, leaves⟩ := later.still fun x hx => by
          rw [grant_queue] at hx
          exact away x (by rw [queue]; exact List.mem_cons_of_mem _ hx)
        refine ⟨away', same.trans ?_, (handsPast_grant s hr rest).captures.trans leaves⟩
        rw [grant_nest, if_neg hr]
      · exact .refl n s

theorem past_grantCheck : Past n s s.grantCheck := past_grantHeads s _

theorem past_releaseLanes (m : Nest) : Past n s (s.releaseLanes m) :=
  Past.after (past_grantCheck (s.modAnalyser fun a => a.release m)) (.of_eq rfl rfl rfl)

theorem past_withdraw (m : Nest) : Past n s (s.withdraw m) := by
  refine Past.after (past_grantCheck (s.modAnalyser fun a => { a with queue := a.queue.filter (fun r => decide (r.nest ≠ m)) })) ?_
  exact ⟨.refl _, fun away => ⟨fun x hx => away x (List.mem_filter.1 hx).1, rfl, .refl n _⟩⟩

variable (hm : n ≠ m)
include hm

theorem past_modNest (f : Sequencer → Sequencer) : Past n s (s.modNest m f) := .of_set hm rfl rfl rfl

theorem past_setNest (q : Sequencer) : Past n s (s.setNest m q) := .of_set hm rfl rfl rfl

theorem past_requestLanes : Past n s (s.requestLanes m) := by
  cases step : (s.nest m).step with
  | none =>
    unfold State.requestLanes
    rw [step]
    exact .refl n s
  | some st =>
    rw [requestLanes_eq step]
    refine Past.after (past_grantCheck _) ?_
    have same := asked_nest_ne s hm st
    refine ⟨Or.inl same, fun away => ⟨fun x hx => ?_, same, .refl n _⟩⟩
    rcases List.mem_append.1 hx with old | new
    · exact away x old
    · rw [List.mem_singleton.1 new]
      exact hm

theorem past_backToGuardWait : Past n s (s.backToGuardWait m) :=
  Past.after (past_voidCapture hm _) (.of_set hm rfl rfl rfl)

theorem past_giveBack : Past n s (s.giveBack m) := by
  have voided : Past n s ((s.releaseLanes m).voidCapture m) := Past.after (past_voidCapture hm _) (past_releaseLanes s m)
  unfold State.giveBack
  split
  · exact past_withdraw s m
  · exact past_releaseLanes s m
  · exact voided
  · exact voided
  all_goals exact .refl n s

theorem past_windowComplete : Past n s (s.windowComplete m) := .of_set hm rfl rfl rfl

theorem past_spoil (c : UnitClass) : Past n s (s.spoil m c).1 := by
  have back : Past n s ((s.releaseLanes m).voidCapture m) := Past.after (past_voidCapture hm _) (past_releaseLanes s m)
  unfold State.spoil
  dsimp only
  split
  · exact Past.after (past_requestLanes _ hm) (Past.after (past_modNest _ hm _) back)
  · exact back

end Lanes

/-! ### Steps -/

section Steps
variable {n m : Nest} (s : State) (hm : n ≠ m)

theorem past_foldResult (r : StepResult) : Past n s (s.foldResult r) := .of_eq rfl rfl rfl

theorem past_foldCondition (m : Nest) : Past n s (s.foldCondition m) := by
  unfold State.foldCondition
  split
  · exact .refl n s
  · exact .of_eq rfl rfl rfl

theorem past_unsettle (m : Nest) : Past n s (s.unsettle m) := by
  unfold State.unsettle State.foldUnsettled
  split
  · exact .of_eq rfl rfl rfl
  · exact .of_eq rfl rfl rfl

include hm

theorem past_loadStep : Past n s (s.loadStep m) := by
  unfold State.loadStep
  split
  · exact .refl n s
  · exact past_modNest s hm _

theorem past_openGap (st : Step) : Past n s (s.openGap m st) := by
  unfold State.openGap
  dsimp only
  split
  · exact .of_set hm rfl rfl rfl
  · split
    · exact .of_set hm rfl rfl rfl
    · exact .of_set hm rfl rfl rfl

theorem past_enterStep (st : Step) : Past n s (s.enterStep m st) := by
  unfold State.enterStep
  split
  · exact .of_set hm rfl rfl rfl
  · exact .of_set hm rfl rfl rfl

theorem past_runSteps (fuel : Nat) : Past n s (State.runSteps fuel m s).1 := by
  induction fuel generalizing s with
  | zero => exact .refl n s
  | succ fuel ih =>
    unfold State.runSteps
    dsimp only
    split
    · exact past_loadStep s hm
    · rename_i st _
      split
      · exact Past.after (past_openGap _ hm st) (past_loadStep s hm)
      · have entered : Past n s (((s.loadStep m).modTone m fun w => w.directStart st).enterStep m st) :=
          Past.after (past_enterStep ((s.loadStep m).modTone m fun w => w.directStart st) hm st)
            ((past_loadStep s hm).trans (.of_eq rfl rfl rfl))
        split
        · exact entered
        · exact Past.after (past_requestLanes _ hm) entered
        · split
          · exact Past.after (past_unsettle _ m) entered
          · exact Past.after (ih _) (Past.after (past_modNest _ hm _) (Past.after (past_unsettle _ m) entered))

theorem past_finishStep (failed : Bool) : Past n s (s.finishStep m failed).1 := by
  unfold State.finishStep
  split
  · exact .refl n s
  · exact Past.after (past_runSteps _ hm _) (past_modNest s hm _)

theorem past_testSettle : Past n s (s.testSettle m).1 := by
  unfold State.testSettle
  split
  · exact .refl n s
  · exact past_requestLanes s hm
  · exact Past.after (past_finishStep _ hm true) (past_unsettle s m)

theorem past_gapPhaseEnd : Past n s (s.gapPhaseEnd m).1 := by
  unfold State.gapPhaseEnd
  split
  · exact .of_set hm rfl rfl rfl
  · exact .of_set hm rfl rfl rfl
  · exact Past.after (past_testSettle _ hm) (past_enterStep s hm _)
  · exact .refl n s

theorem past_settleBlockEnd : Past n s (s.settleBlockEnd m) := .of_set hm rfl rfl rfl

theorem past_burstPhaseEnd : Past n s (s.burstPhaseEnd m).1 := by
  unfold State.burstPhaseEnd
  split
  · exact .refl n s
  · dsimp only
    split
    · exact Past.after (past_finishStep _ hm false) (Past.after (past_foldCondition _ m) (.of_eq rfl rfl rfl))
    · exact .of_eq rfl rfl rfl

theorem past_completeEvaluation : Past n s (s.completeEvaluation m).1 := by
  unfold State.completeEvaluation
  split
  · exact Past.after (past_finishStep _ hm _) (Past.after (past_decideCapture hm _ _)
      (Past.after (past_releaseLanes _ m) (past_foldResult s _)))
  · exact .refl n s

/-! ### One frame -/

theorem past_gapFrame : Past n s (s.gapFrame m).1 := by
  unfold State.gapFrame
  dsimp only
  split
  · exact Past.after (past_gapPhaseEnd _ hm) (past_modNest s hm _)
  · exact .of_set hm rfl rfl rfl

theorem past_settleFrame : Past n s (s.settleFrame m).1 := by
  have counted (d : Detector) :
      Past n s ((s.modNest m (fun q => { q with settleElapsed := q.settleElapsed + 1 })).setDetector m d) :=
    .of_set hm rfl rfl rfl
  unfold State.settleFrame
  dsimp only
  split
  · exact Past.after (past_testSettle _ hm) (Past.after (past_settleBlockEnd _ hm) (counted _))
  · exact Past.after (past_testSettle _ hm) (counted _)

theorem past_conditionFrame (w : Bool) : Past n s (s.conditionFrame m w).1 := by
  unfold State.conditionFrame
  dsimp only
  split
  · split
    · exact Past.after (past_burstPhaseEnd _ hm) (.of_eq rfl rfl rfl)
    · exact .of_eq rfl rfl rfl
  · exact .refl n s

theorem past_countWindowFrame (ph : Word) : Past n s (s.countWindowFrame m ph) :=
  Past.after (past_captureSample hm _ _) (.of_set hm rfl rfl rfl)

theorem past_windowCheck : Past n s (s.windowCheck m) := by
  unfold State.windowCheck
  split
  · exact past_windowComplete s hm
  · exact .refl n s

theorem past_windowFrame (ph : Word) (e x : Bool) : Past n s (s.windowFrame m ph e x).1 := by
  have counted := past_countWindowFrame s hm ph
  unfold State.windowFrame
  dsimp only
  split
  · split
    · exact Past.after (past_giveBack _ hm) counted
    · exact Past.after (past_spoil _ hm _) counted
  · split
    · exact Past.after (past_giveBack _ hm) (Past.after (past_windowCheck _ hm) counted)
    · exact Past.after (past_windowCheck _ hm) counted

theorem past_evaluateFrame : Past n s (s.evaluateFrame m).1 := by
  unfold State.evaluateFrame
  split
  · exact .refl n s
  · dsimp only
    split
    · exact Past.after (past_completeEvaluation _ hm) (.of_eq rfl rfl rfl)
    · exact .of_eq rfl rfl rfl

end Steps

end Sys2Proof.Machine
end

section
/-! One frame for a nest in WINDOW, and for the others: the guard and the nests before and behind it, the verdicts, and the
ack timers. (For a corrupted window, O9.) -/

namespace Sys2Proof.Machine

/-! ### The turns of the other consumers -/

/-- What another consumer's turn leaves to nest `n`. -/
structure TurnPast (n : Nest) (t u : Turn) : Prop where
  state : Past n t.state u.state
  endings : u.endings.get n = t.endings.get n
  before : u.before = t.before
  taken : u.taken.get n = t.taken.get n

theorem TurnPast.refl (n : Nest) (t : Turn) : TurnPast n t t := ⟨.refl n _, rfl, rfl, rfl⟩

theorem TurnPast.trans {n : Nest} {t u v : Turn} (h : TurnPast n t u) (k : TurnPast n u v) : TurnPast n t v :=
  ⟨h.state.trans k.state, k.endings.trans h.endings, k.before.trans h.before, k.taken.trans h.taken⟩

/-- The guard's entry to LOUD passes the nest by: its run is over, or it has the frame to count in WINDOW (R120). -/
def Turn.shields (t : Turn) (n : Nest) : Prop :=
  t.endings.get n ≠ none ∨ t.before.get n = .window ∧ t.taken.get n = false

theorem TurnPast.shields {n : Nest} {t u : Turn} (h : TurnPast n t u) (shield : t.shields n) : u.shields n := by
  unfold Turn.shields
  rw [h.endings, h.before, h.taken]
  exact shield

section Others
variable {n m : Nest} (t : Turn)

theorem turnPast_run (hm : n ≠ m) {f : State → State × Option Ending} (h : Past n t.state (f t.state).1) :
    TurnPast n t (t.run m f) := by
  refine ⟨h, ?_, rfl, rfl⟩
  show (match (f t.state).2 with | none => t.endings | some e => t.endings.set m (some e)).get n = _
  split
  · rfl
  · exact PerNest.get_set_ne _ hm _

theorem turnPast_count (hm : n ≠ m) (f : ToneFrame) : TurnPast n t (t.count m f) := by
  unfold Turn.count
  split
  · exact turnPast_run t hm (past_gapFrame _ hm)
  · exact turnPast_run t hm (past_settleFrame _ hm)
  · exact turnPast_run t hm (past_conditionFrame _ hm _)
  · exact turnPast_run t hm (past_windowFrame _ hm _ _ _)
  · exact turnPast_run t hm (past_evaluateFrame _ hm)
  all_goals exact .refl n t

theorem turnPast_nestFrame (hm : n ≠ m) (f : ToneFrame) : TurnPast n t (t.nestFrame m f) := by
  set t1 : Turn := { t with state := t.state.modNest m Sequencer.deadlineFrame, taken := t.taken.set m true }
  have first : TurnPast n t t1 := ⟨past_modNest _ hm _, rfl, rfl, PerNest.get_set_ne _ hm _⟩
  unfold Turn.nestFrame
  dsimp only
  split
  · exact first.trans (turnPast_run t1 hm (f := fun s => s.timeOut m) (past_giveBack _ hm))
  · exact first.trans (turnPast_count t1 hm f)

theorem turnPast_entryAt (hm : n ≠ m) : TurnPast n t (t.entryAt m) := by
  unfold Turn.entryAt
  dsimp only
  split
  · exact .refl n t
  · split
    · exact .refl n t
    · split
      · split
        · exact ⟨past_backToGuardWait _ hm, rfl, rfl, rfl⟩
        · exact turnPast_run t hm (past_spoil _ hm _)
      · split
        · exact turnPast_run t hm (past_spoil _ hm _)
        · exact .refl n t
      · exact .refl n t

theorem entryAt_shielded (shield : t.shields n) : t.entryAt n = t := by
  unfold Turn.entryAt
  dsimp only
  split
  · rfl
  · rename_i going
    refine if_pos ?_
    rcases shield with ended | counts
    · exact absurd (Or.inl (Option.isSome_iff_ne_none.2 ended)) going
    · exact counts

theorem turnPast_entries (ns : List Nest) {t : Turn} (shield : t.shields n) : TurnPast n t (ns.foldl Turn.entryAt t) := by
  induction ns generalizing t with
  | nil => exact .refl n t
  | cons m ns ih =>
    have first : TurnPast n t (t.entryAt m) := by
      by_cases hm : n = m
      · subst hm
        rw [entryAt_shielded t shield]
        exact .refl n t
      · exact turnPast_entryAt t hm
    exact first.trans (ih (first.shields shield))

theorem past_enterWindows (ns : List Nest) (hn : n ∉ ns) (s : State) : Past n s (ns.foldl State.enterWindow s) := by
  induction ns generalizing s with
  | nil => exact .refl n s
  | cons m ns ih =>
    rw [List.mem_cons, not_or] at hn
    exact (past_enterWindow s hn.1).trans (ih hn.2 _)

theorem past_becomeQuiet (s : State) (c : GuardCauses) (calm : (s.nest n).state ≠ .guardWait) : Past n s (s.becomeQuiet c) := by
  set s1 : State := { s with guard := { s.guard.clearHold with loud := false, holdDue := false } }
  have away : n ∉ s1.freeOrder s1.waitingForQuiet := fun waits => calm (mem_waitingForQuiet.1 waits)
  have entered : Past n s1 ((s1.freeOrder s1.waitingForQuiet).foldl State.enterWindow s1) := past_enterWindows _ away s1
  have first : Past n s s1 := .of_eq rfl rfl rfl
  exact (first.trans entered).trans (.of_eq rfl rfl rfl)

end Others

/-! ### The guard's turn -/

section Guard
variable {n : Nest}

/-- Nothing of the guard's turn reaches the nest. -/
def Turn.apart (t : Turn) (n : Nest) : Prop :=
  t.shields n ∧ t.state.unqueued n ∧ (t.state.nest n).state ≠ .guardWait

theorem TurnPast.apart {t u : Turn} (h : TurnPast n t u) (a : t.apart n) : u.apart n := by
  obtain ⟨shield, away, calm⟩ := a
  obtain ⟨away', same, -⟩ := h.state.still away
  exact ⟨h.shields shield, away', by rw [same]; exact calm⟩

/-- What a turn leaves to a nest in WAIT_LANES, in GUARD_WAIT or before its first window frame. -/
def TurnLoose (n : Nest) (t u : Turn) : Prop :=
  (t.state.nest n).Pending → Reopened (t.state.nest n) (u.state.nest n) ∧ u.endings.get n = t.endings.get n

theorem TurnLoose.refl (n : Nest) (t : Turn) : TurnLoose n t t := fun _ => ⟨.refl _, rfl⟩

theorem TurnLoose.trans {t u v : Turn} (h : TurnLoose n t u) (k : TurnLoose n u v) : TurnLoose n t v := fun pending => by
  obtain ⟨reopened, endings⟩ := h pending
  obtain ⟨reopened', endings'⟩ := k (reopened.pending pending)
  exact ⟨reopened.trans reopened', endings'.trans endings⟩

theorem TurnPast.loose {t u : Turn} (h : TurnPast n t u) : TurnLoose n t u := fun _ => ⟨h.state.nest, h.endings⟩

theorem turnLoose_entryAt (t : Turn) (m : Nest) : TurnLoose n t (t.entryAt m) := by
  by_cases hm : n = m
  · subst hm
    intro pending
    unfold Turn.entryAt
    dsimp only
    split
    · exact ⟨.refl _, rfl⟩
    · split
      · exact ⟨.refl _, rfl⟩
      · rcases pending with state | ⟨state, zero⟩ | state
        · simp only [state]
          exact ⟨.refl _, trivial⟩
        · simp only [state, zero, if_true]
          refine ⟨?_, rfl⟩
          have held : (t.state.backToGuardWait n).nest n = { t.state.nest n with state := .guardWait } :=
            State.nest_modNest t.state n (fun q => { q with state := .guardWait })
          show Reopened _ ((t.state.backToGuardWait n).nest n)
          rw [held]
          exact reopened_guardWait _
        · simp only [state]
          exact ⟨.refl _, trivial⟩
  · exact (turnPast_entryAt t hm).loose

theorem turnLoose_entries (ns : List Nest) (t : Turn) : TurnLoose n t (ns.foldl Turn.entryAt t) := by
  induction ns generalizing t with
  | nil => exact .refl n t
  | cons m ns ih => exact (turnLoose_entryAt t m).trans (ih _)

theorem reopened_becomeQuiet (s : State) (c : GuardCauses) : Reopened (s.nest n) ((s.becomeQuiet c).nest n) := by
  set s1 : State := { s with guard := { s.guard.clearHold with loud := false, holdDue := false } }
  have entered (ns : List Nest) (u : State) : Reopened (u.nest n) ((ns.foldl State.enterWindow u).nest n) := by
    induction ns generalizing u with
    | nil => exact .refl _
    | cons m ns ih =>
      refine Reopened.trans ?_ (ih (u.enterWindow m))
      rw [enterWindow_nest]
      split
      · rename_i own
        subst own
        exact reopened_window _
      · exact .refl _
  exact entered (s1.freeOrder s1.waitingForQuiet) s1

/-- Whatever holds of the guard's own changes, of an entry to LOUD and of a return to QUIET, holds of its turn. -/
theorem guardFrame_induction (R : Turn → Turn → Prop) (refl : ∀ t, R t t) (trans : ∀ t u v, R t u → R u v → R t v)
    (guard : ∀ t g, R t { t with state := { t.state with guard := g } }) (loud : ∀ t c l, R t (t.enterLoud c l))
    (quiet : ∀ t c, R t { t with state := t.state.becomeQuiet c }) (t : Turn) : R t t.guardFrame := by
  have held (t : Turn) (g : Guard) : R t { t with state := ({ t.state with guard := g } : State).guardHoldEnd } := by
    refine trans _ _ _ (guard t g) ?_
    unfold State.guardHoldEnd
    split
    · exact quiet { t with state := { t.state with guard := g } } _
    · exact refl _
  have judged (t : Turn) (l : Option Int) : R t (t.judgeGuard l) := by
    unfold Turn.judgeGuard
    dsimp only
    split
    · exact refl t
    · split
      · split
        · exact guard t _
        · exact loud t _ l
      · split
        · exact held t _
        · exact refl t
  unfold Turn.guardFrame
  dsimp only
  split
  · refine trans _ _ _ (guard t _) (trans _ _ _ (guard _ _) (judged _ _))
  · exact trans _ _ _ (guard t _) (judged _ none)

/-- An entry to LOUD: the guard's change, and then the nests it concerns. -/
theorem enterLoud_eq (t : Turn) (c : GuardCauses) (l : Option Int) :
    ∃ g x ns, t.enterLoud c l =
      List.foldl Turn.entryAt { t with state := { t.state with guard := g }, entered := true, notice := some x } ns :=
  ⟨_, _, _, rfl⟩

theorem turnPast_guardFrame {t : Turn} (a : t.apart n) : TurnPast n t t.guardFrame := by
  refine guardFrame_induction (fun t u => t.apart n → TurnPast n t u) (fun t _ => .refl n t)
    (fun t u v h k a => (h a).trans (k ((h a).apart a))) (fun t g _ => ⟨.of_eq rfl rfl rfl, rfl, rfl, rfl⟩)
    (fun t c l a => ?_) (fun t c a => ⟨past_becomeQuiet _ c a.2.2, rfl, rfl, rfl⟩) t a
  obtain ⟨g, x, ns, entered⟩ := enterLoud_eq t c l
  rw [entered]
  set t1 : Turn := { t with state := { t.state with guard := g }, entered := true, notice := some x }
  have first : TurnPast n t t1 := ⟨.of_eq rfl rfl rfl, rfl, rfl, rfl⟩
  exact first.trans (turnPast_entries ns (first.shields a.1))

theorem turnLoose_guardFrame (t : Turn) : TurnLoose n t t.guardFrame := by
  refine guardFrame_induction (TurnLoose n) (.refl n) (fun _ _ _ h k => h.trans k) (fun t g _ => ⟨.refl _, rfl⟩)
    (fun t c l => ?_) (fun t c _ => ⟨reopened_becomeQuiet _ c, rfl⟩) t
  obtain ⟨g, x, ns, entered⟩ := enterLoud_eq t c l
  rw [entered]
  set t1 : Turn := { t with state := { t.state with guard := g }, entered := true, notice := some x }
  have first : TurnLoose n t t1 := fun _ => ⟨.refl _, rfl⟩
  exact first.trans (turnLoose_entries ns t1)

/-! ### The consumers before and behind the nest -/

theorem consumers_past {f : PerNest ToneFrame} {cs : List Consumer} (hn : Consumer.nest n ∉ cs) {t : Turn} (a : t.apart n) :
    TurnPast n t (cs.foldl (Turn.consume f) t) := by
  induction cs generalizing t with
  | nil => exact .refl n t
  | cons c cs ih =>
    rw [List.mem_cons, not_or] at hn
    have first : TurnPast n t (t.consume f c) := by
      cases c with
      | guard => exact turnPast_guardFrame a
      | nest m => exact turnPast_nestFrame t (fun e => hn.1 (by rw [e])) _
    exact first.trans (ih hn.2 (first.apart a))

theorem consumers_loose {f : PerNest ToneFrame} {cs : List Consumer} (hn : Consumer.nest n ∉ cs) (t : Turn) :
    TurnLoose n t (cs.foldl (Turn.consume f) t) := by
  induction cs generalizing t with
  | nil => exact .refl n t
  | cons c cs ih =>
    rw [List.mem_cons, not_or] at hn
    have first : TurnLoose n t (t.consume f c) := by
      cases c with
      | guard => exact turnLoose_guardFrame t
      | nest m => exact (turnPast_nestFrame t (fun e => hn.1 (by rw [e])) _).loose
    exact first.trans (ih hn.2 _)

end Guard

end Sys2Proof.Machine
end

section
/-! A corrupted frame spoils the window that counts it (O9): a retry, or the unit's end. -/

namespace Sys2Proof.Machine

/-! ### The nest's own turn -/

section Own
variable {s : State} {n : Nest}

/-- A spoiled window with a retry left: the lanes are asked for again (R49). -/
theorem spoil_retry {st : Step} (c : UnitClass) (h : PoolBut none s) (state : (s.nest n).state = .window)
    (step : (s.nest n).step = some st) (left : (s.nest n).retries < (s.nest n).settings.retryBudget) :
    (s.spoil n c).2 = none ∧ ((s.spoil n c).1.nest n).Pending ∧
      (s.spoil n c).1.nest n =
        { s.nest n with
            retries := (s.nest n).retries + 1, state := ((s.spoil n c).1.nest n).state
            windowCount := ((s.spoil n c).1.nest n).windowCount } := by
  have own : ((s.releaseLanes n).voidCapture n).nest n = s.nest n :=
    (grants_releaseLanes h (by rw [state]; decide)).out n rfl
  set b := (s.releaseLanes n).voidCapture n
  set d := b.modNest n (fun q => { q with retries := q.retries + 1 })
  have nest : d.nest n = { s.nest n with retries := (s.nest n).retries + 1 } := by
    rw [← own]
    exact State.nest_modNest b n _
  have spoilt : s.spoil n c = (d.requestLanes n, none) := if_pos (by rw [own]; exact left)
  have asked := requestLanes_eq (s := d) (n := n) (st := st) (by rw [nest]; exact step)
  have granted : Reopened ((d.asked n st).nest n) ((d.requestLanes n).nest n) := by
    rw [asked]
    exact (past_grantCheck (d.asked n st)).nest
  rw [asked_nest] at granted
  have pending := granted.pending (Or.inl rfl)
  rw [spoilt]
  refine ⟨rfl, pending, ?_⟩
  rw [nest] at granted
  rcases granted with same | ⟨-, same⟩ <;> rw [same]

/-- A spoiled window without a retry left: the unit is to end with the cause's class, and what it held is given back. -/
theorem spoil_end (c : UnitClass) (h : PoolBut none s) (state : (s.nest n).state = .window)
    (spent : (s.nest n).settings.retryBudget ≤ (s.nest n).retries) :
    s.spoil n c = (s.giveBack n, some (.named c)) := by
  have own : ((s.releaseLanes n).voidCapture n).nest n = s.nest n :=
    (grants_releaseLanes h (by rw [state]; decide)).out n rfl
  have back : s.giveBack n = (s.releaseLanes n).voidCapture n := by
    unfold State.giveBack
    rw [state]
  rw [back]
  exact if_neg (by rw [own]; exact Nat.not_lt.2 spent)

/-- A nest in WINDOW counts a corrupted frame before its deadline: the window is spoiled (R49, R123). -/
theorem nestFrame_spoils {t : Turn} (f : ToneFrame) (before : t.before.get n = .window)
    (corrupt : t.state.link.current.substituted = true)
    (alive : (t.state.nest n).deadlineRunning = true → 1 < (t.state.nest n).deadline) :
    t.nestFrame n f =
      ({ t with state := t.state.modNest n Sequencer.deadlineFrame, taken := t.taken.set n true } : Turn).run n
        (fun s => (s.countWindowFrame n f.phase).spoil n .retestLink) := by
  set t1 : Turn := { t with state := t.state.modNest n Sequencer.deadlineFrame, taken := t.taken.set n true } with ht1
  have nest : t1.state.nest n = (t.state.nest n).deadlineFrame := State.nest_modNest _ n _
  have lives : t1.expiresFirst n = false := by
    unfold Turn.expiresFirst
    rw [nest]
    unfold Sequencer.deadlineFrame
    split
    · rename_i running
      have more := alive running
      rw [decide_eq_false (show ¬ (t.state.nest n).deadline - 1 = 0 by omega), Bool.and_false, Bool.false_and]
    · rename_i stopped
      rw [Bool.eq_false_iff.2 stopped, Bool.false_and, Bool.false_and]
  have counted : t.nestFrame n f = t1.count n f := by
    refine if_neg fun evaluates => ?_
    rw [show t1.before.get n = .window from before] at evaluates
    cases evaluates.1
  have window : t1.count n f = t1.run n (fun s => s.windowFrame n f.phase t1.entered (t1.expiresFirst n)) := by
    unfold Turn.count
    rw [show t1.before.get n = .window from before]
  have spoils : t1.state.windowFrame n f.phase t1.entered (t1.expiresFirst n) =
      (t1.state.countWindowFrame n f.phase).spoil n .retestLink := by
    have cause : (t1.state.countWindowFrame n f.phase).spoilCause n t1.entered = some .retestLink := if_pos corrupt
    unfold State.windowFrame
    rw [lives]
    simp only [cause]
    rfl
  rw [counted, window]
  unfold Turn.run
  dsimp only
  rw [spoils]

/-- The nest after the frame counted in WINDOW. -/
theorem countWindowFrame_nest (s : State) (n : Nest) (ph : Word) :
    (s.countWindowFrame n ph).nest n = { s.nest n with windowCount := (s.nest n).windowCount + 1 } :=
  State.nest_modNest s n (fun q => { q with windowCount := q.windowCount + 1 })

theorem countWindowFrame_pool {ph : Word} (h : PoolBut none s) (state : (s.nest n).state = .window) :
    PoolBut none (s.countWindowFrame n ph) :=
  h.swap (n := n) rfl (fun m => Analyser.lanesOf_windowFrame _ n m _ _ _) 
    (fun m hm => State.nest_modNest_ne s hm fun q => { q with windowCount := q.windowCount + 1 })
    (by rw [state]; decide) (by rw [countWindowFrame_nest]; show (s.nest n).state.mayHoldLanes = true; rw [state]; rfl)

/-- A sample written into a nest's provisional record: no other record of the nest changes. -/
theorem mem_writeSample {c : Capture} {x : CaptureRecord} {y : Sample} (hx : x ∈ (c.writeSample n y).records) :
    x ∈ c.records ∨ x.state = .provisional ∧ c.mark.get n = some x.start := by
  unfold Capture.writeSample at hx
  split at hx
  · exact Or.inl hx
  · unfold Capture.change at hx
    split at hx
    · exact Or.inl hx
    · rename_i a marked
      obtain ⟨z, hz, rfl⟩ := List.mem_map.1 hx
      by_cases own : z.state = .provisional ∧ z.start = a ∧ z.owner = n
      · rw [if_pos own]
        exact Or.inr ⟨own.1, by rw [show c.mark.get n = some a from marked, own.2.1]⟩
      · rw [if_neg own]
        exact Or.inl hz

theorem writeSample_mark (c : Capture) (m : Nest) (y : Sample) : (c.writeSample m y).mark = c.mark := by
  unfold Capture.writeSample Capture.change
  split
  · rfl
  · split <;> rfl

/-- The nest waits for its window again, its unit's retries `k`, its deadline not run out. -/
structure Sequencer.Retries (q : Sequencer) (id k : Nat) : Prop where
  pending : q.Pending
  record : q.record = some id
  retries : q.retries = k
  alive : q.deadlineRunning = true → q.deadline ≠ 0

theorem Reopened.retries {q r : Sequencer} {id k : Nat} (h : Reopened q r) (before : q.Retries id k) : r.Retries id k := by
  have pending := h.pending before.pending
  rcases h with rfl | ⟨-, same⟩
  · exact before
  · refine ⟨pending, ?_, ?_, ?_⟩
    · rw [same]; exact before.record
    · rw [same]; exact before.retries
    · rw [same]; exact before.alive

/-- The nest as it counts the frame: its deadline and its window one frame on. -/
def State.counting (s : State) (n : Nest) (ph : Word) : State := (s.modNest n Sequencer.deadlineFrame).countWindowFrame n ph

theorem counting_nest (s : State) (n : Nest) (ph : Word) :
    (s.counting n ph).nest n =
      { s.nest n with windowCount := (s.nest n).windowCount + 1, deadline := (s.nest n).deadlineFrame.deadline } := by
  have first : (s.modNest n Sequencer.deadlineFrame).nest n = (s.nest n).deadlineFrame := State.nest_modNest s n _
  unfold State.counting
  rw [countWindowFrame_nest, first]
  unfold Sequencer.deadlineFrame
  split <;> rfl

theorem counting_pool {ph : Word} (h : PoolBut none s) (state : (s.nest n).state = .window) :
    PoolBut none (s.counting n ph) := by
  have same (m : Nest) : ((s.modNest n Sequencer.deadlineFrame).nest m).state = (s.nest m).state := by
    by_cases hm : m = n
    · subst hm
      rw [State.nest_modNest]
      unfold Sequencer.deadlineFrame
      split <;> rfl
    · rw [State.nest_modNest_ne s hm]
  exact countWindowFrame_pool (h.congr rfl (fun _ => rfl) fun m _ => same m) (by rw [same, state])

theorem deadlineFrame_alive {q : Sequencer} (alive : q.deadlineRunning = true → 1 < q.deadline)
    (running : q.deadlineRunning = true) : q.deadlineFrame.deadline ≠ 0 := by
  unfold Sequencer.deadlineFrame
  rw [if_pos running]
  have := alive running
  show q.deadline - 1 ≠ 0
  omega

/-- The turn of a nest whose corrupted window can be retried. -/
theorem nestFrame_retries {t : Turn} {id : Nat} {st : Step} (f : ToneFrame) (h : Sound t.state)
    (state : (t.state.nest n).state = .window) (before : t.before.get n = .window)
    (corrupt : t.state.link.current.substituted = true) (hid : (t.state.nest n).record = some id)
    (step : (t.state.nest n).step = some st)
    (alive : (t.state.nest n).deadlineRunning = true → 1 < (t.state.nest n).deadline)
    (left : (t.state.nest n).retries < (t.state.nest n).settings.retryBudget) :
    (t.nestFrame n f).endings.get n = t.endings.get n ∧
      ((t.nestFrame n f).state.nest n).Retries id ((t.state.nest n).retries + 1) := by
  have nest := counting_nest t.state n f.phase
  obtain ⟨goesOn, pending, same⟩ := spoil_retry (s := t.state.counting n f.phase) (n := n) (st := st) .retestLink
    (counting_pool h.1 state) (by rw [nest]; exact state) (by rw [nest]; exact step) (by rw [nest]; exact left)
  rw [nestFrame_spoils f before corrupt alive]
  set u := (t.state.counting n f.phase).spoil n .retestLink with hu
  refine ⟨?_, ?_⟩
  · show (match u.2 with | none => t.endings | some e => t.endings.set n (some e)).get n = _
    rw [goesOn]
  · show (u.1.nest n).Retries id _
    refine ⟨pending, ?_, ?_, fun running => ?_⟩
    · rw [same, nest]; exact hid
    · rw [same, nest]
    · rw [same, nest] at running ⊢
      exact deadlineFrame_alive alive running

/-- The turn of a nest whose corrupted window ends its unit's run. -/
theorem nestFrame_ends {t : Turn} (f : ToneFrame) (h : Sound t.state)
    (state : (t.state.nest n).state = .window) (before : t.before.get n = .window)
    (corrupt : t.state.link.current.substituted = true)
    (alive : (t.state.nest n).deadlineRunning = true → 1 < (t.state.nest n).deadline)
    (spent : (t.state.nest n).settings.retryBudget ≤ (t.state.nest n).retries) :
    let u := t.nestFrame n f
    u.endings.get n = some (.named .retestLink) ∧ (u.state.nest n).record = (t.state.nest n).record ∧
      (u.state.nest n).retries = (t.state.nest n).retries ∧ u.state.capture.mark.get n = none ∧
      ∀ x ∈ u.state.capture.records, x.owner = n → x.state = .void ∨
        x ∈ t.state.capture.records ∧ ¬ (x.state = .provisional ∧ t.state.capture.mark.get n = some x.start) := by
  have nest := counting_nest t.state n f.phase
  have pool := counting_pool (ph := f.phase) h.1 state
  have window : ((t.state.counting n f.phase).nest n).state = .window := by rw [nest]; exact state
  have spoilt := spoil_end .retestLink pool window (by rw [nest]; exact spent)
  have own := (grants_giveBack (n := n) pool).out n rfl
  obtain ⟨mark, -, records⟩ := giveBack_own pool (Or.inl window)
  intro u
  have turn : u = { t with
      state := (t.state.counting n f.phase).giveBack n, taken := t.taken.set n true
      endings := t.endings.set n (some (.named .retestLink)) } := by
    show t.nestFrame n f = _
    rw [nestFrame_spoils f before corrupt alive]
    unfold Turn.run
    dsimp only
    rw [show (t.state.modNest n Sequencer.deadlineFrame).countWindowFrame n f.phase = t.state.counting n f.phase from rfl, spoilt]
  rw [turn]
  refine ⟨PerNest.get_set_self _ _ _, ?_, ?_, mark, fun x hx ho => (records x hx ho).imp id ?_⟩
  · show (((t.state.counting n f.phase).giveBack n).nest n).record = _
    rw [own, nest]
  · show (((t.state.counting n f.phase).giveBack n).nest n).retries = _
    rw [own, nest]
  · rintro ⟨old, kept⟩
    have marks : (t.state.counting n f.phase).capture.mark = t.state.capture.mark := writeSample_mark _ n _
    rw [marks] at kept
    rcases mem_writeSample old with older | new
    · exact ⟨older, kept⟩
    · exact absurd new kept

end Own

end Sys2Proof.Machine
end

section
/-! The verdicts of a frame and the ack timers, and the corrupted window from the frame's arrival on (O9). -/

namespace Sys2Proof.Machine

/-! ### The verdicts of a frame -/

section Judge
variable {n m : Nest} (hm : n ≠ m)
include hm

theorem apart_giveBack {s : State} (h : Sound s) : Apart n s (s.giveBack m) := by
  have grants := grants_giveBack (n := m) h.1
  obtain ⟨hands, -⟩ := handsOn_giveBack m h.1
  refine ⟨grants.nests n, ?_, handsPast_giveBack hm h.1, grants.lanes n (by simpa using hm), fun id _ => hands.skips id⟩
  unfold State.tone
  rw [hands.rest]

/-- Another nest's verdict. -/
theorem apart_verdict (s : State) (e : Ending)
    (other : ∀ id, (s.nest n).record = some id → (s.nest m).record ≠ some id) : Apart n s (s.verdict m e) := by
  obtain ⟨capture, evaluation, tones, records, nest⟩ := stopped_rest s m
  obtain ⟨-, -, -, -, others, -⟩ := recordVerdict_rest (s.stopped m) m e.unitClass
  have judges := judges_verdict s m e
  have closed : s.verdict m e = _ := recordVerdict_eq (s.stopped m) m e.unitClass
  refine ⟨Or.inl (judges.others n hm), ?_, fun _ => ⟨?_, ?_⟩, fun _ => ?_, fun id hid => ?_⟩
  · unfold State.tone
    rw [closed]
    show (s.stopped m).tones.get n = _
    rw [tones]
    exact PerNest.get_set_ne _ hm _
  · rw [closed]
    show Capture.Leaves n s.capture (s.stopped m).capture
    rw [capture]
    exact .refl n _
  · rw [closed]
    show (s.stopped m).analyser.evaluation.get n = _
    rw [evaluation]
  · unfold Analyser.lanesOf
    rw [judges.lanes]
  · have same : (s.verdict m e).record id = s.record id := by
      refine (others id ?_).trans (record_of_records records id)
      rw [nest]
      exact other id hid
    rw [same]

theorem apart_expire {s : State} (h : Sound s) : Apart n s (s.expire m) := by
  unfold State.expire
  split
  · have back := apart_giveBack hm h
    have grants := grants_giveBack (n := m) h.1
    refine back.trans (apart_verdict hm _ _ fun id hid => ?_)
    rw [grants.out m rfl]
    rw [(grants.nests n).record] at hid
    exact record_ne h hm.symm hid
  · exact .refl n s

theorem apart_judge (t : Turn) {s : State} (h : Sound s) : Apart n s (t.judge m s) := by
  unfold Turn.judge
  split
  · exact apart_verdict hm s _ fun id hid => record_ne h hm.symm hid
  · exact apart_expire hm h

end Judge

section Finish
variable {n : Nest} {t : Turn}

/-- The verdicts of the listed nests. -/
def Turn.judgeEach (t : Turn) (ns : List Nest) (s : State) : State := ns.foldl (fun s m => t.judge m s) s

/-- The verdicts of other nests. -/
theorem judgeEach_apart {ns : List Nest} (nodup : ns.Nodup) (hn : n ∉ ns) {s : State} (h : Sound s)
    (he : ∀ m ∈ ns, t.endings.get m ≠ none → s.spent m) :
    Sound (t.judgeEach ns s) ∧ Apart n s (t.judgeEach ns s) ∧
      ∀ k, k ∉ ns → s.spent k → (t.judgeEach ns s).spent k := by
  induction ns generalizing s with
  | nil => exact ⟨h, .refl n s, fun _ _ hs => hs⟩
  | cons m ns ih =>
    rw [List.mem_cons, not_or] at hn
    obtain ⟨fresh, nodup⟩ := List.nodup_cons.1 nodup
    obtain ⟨sound, spent⟩ := judge_ok (t := t) m h (he m List.mem_cons_self)
    obtain ⟨sound', apart', spent'⟩ := ih nodup hn.2 sound fun k hk ended => by
      refine spent k ?_ (he k (List.mem_cons_of_mem _ hk) ended)
      rintro rfl
      exact fresh hk
    refine ⟨sound', (apart_judge hn.1 t h).trans apart', fun k hk hs => ?_⟩
    rw [List.mem_cons, not_or] at hk
    exact spent' k hk.2 (spent k hk.1 hs)

/-- The frame's verdicts around the nest's own. -/
theorem finish_split (ok : TurnOk t) (n : Nest) :
    ∃ a, Sound a ∧ Apart n t.state a ∧ Apart n (t.judge n a) t.finish := by
  obtain ⟨before, later, order, notBefore, notLater⟩ := order_split n
  have nodup : (before ++ n :: later).Nodup := order ▸ (by decide : Nest.order.Nodup)
  obtain ⟨nodupBefore, nodupRest, -⟩ := List.nodup_append'.1 nodup
  have nodupLater := (List.nodup_cons.1 nodupRest).2
  have disjoint : ∀ k ∈ later, k ∉ before := fun k hk hb =>
    (List.disjoint_of_nodup_append nodup) hb (List.mem_cons_of_mem _ hk)
  obtain ⟨sound, apart, spent⟩ := judgeEach_apart nodupBefore notBefore ok.sound fun m _ => ok.ended m
  set a := t.judgeEach before t.state
  obtain ⟨soundOwn, spentOwn⟩ := judge_ok (t := t) n sound fun ended => spent n notBefore (ok.ended n ended)
  obtain ⟨-, apartLater, -⟩ := judgeEach_apart nodupLater notLater soundOwn fun k hk ended => by
    refine spentOwn k ?_ (spent k (disjoint k hk) (ok.ended k ended))
    rintro rfl
    exact notLater hk
  have turns : inNestOrder (fun n s => t.judge n s) t.state = t.judgeEach later (t.judge n a) := by
    show t.judgeEach Nest.order t.state = _
    rw [order]
    unfold Turn.judgeEach
    rw [List.foldl_append, List.foldl_cons]
    rfl
  refine ⟨a, sound, apart, ?_⟩
  rw [← turns] at apartLater
  unfold Turn.finish
  dsimp only
  split
  · exact apartLater
  · exact apartLater.trans (.of_eq rfl rfl rfl rfl rfl)

theorem GrantedOrSame.reopened {q r : Sequencer} (h : GrantedOrSame q r) : Reopened q r := by
  rcases h with rfl | ⟨-, rfl | rfl⟩
  · exact .refl _
  · exact reopened_guardWait q
  · exact reopened_window q

/-- A nest without a verdict on the frame, its deadline not run out. -/
theorem finish_retries (ok : TurnOk t) {id k : Nat} (none : t.endings.get n = none)
    (retries : (t.state.nest n).Retries id k) : (t.finish.nest n).Retries id k := by
  obtain ⟨a, -, before, later⟩ := finish_split ok n
  have first := before.nest.reopened.retries retries
  have own : t.judge n a = a := by
    unfold Turn.judge
    rw [none]
    exact if_neg fun due => first.alive due.2.1 due.2.2
  rw [own] at later
  exact later.nest.reopened.retries first

/-- A unit ended with RETEST_LINK. -/
structure EndsForLink (n : Nest) (id k : Nat) (s t : State) : Prop where
  state : (t.nest n).state = .judged
  record : (t.nest n).record = some id
  retries : (t.nest n).retries = k
  judged : (t.record id).state = .judged ∧ (t.record id).unitClass = some .retestLink
  captures : Capture.Leaves n s.capture t.capture

/-- A nest with the frame's verdict. -/
theorem finish_ends (ok : TurnOk t) {id : Nat} (ended : t.endings.get n = some (.named .retestLink))
    (hid : (t.state.nest n).record = some id) : EndsForLink n id (t.state.nest n).retries t.state t.finish := by
  obtain ⟨a, sound, before, later⟩ := finish_split ok n
  have counts := (ok.ended n (by rw [ended]; nofun)).2
  have waits := counts_wait counts
  have same := before.nest.same waits
  have own : t.judge n a = a.verdict n (.named .retestLink) := by
    unfold Turn.judge
    rw [ended]
  rw [own] at later
  have judges := judges_verdict a n (.named .retestLink)
  have names := names_verdict a n .retestLink
  have ida : (a.nest n).record = some id := by rw [same]; exact hid
  have judged := names.judged id ida (record_inTable sound ida)
  set b := a.verdict n (.named .retestLink)
  have stays : (b.nest n).state ≠ .waitLanes := by rw [judges.state]; decide
  have nest := later.nest.same stays
  have idb : (b.nest n).record = some id := judges.record.trans ida
  have unit := later.record id idb
  refine ⟨by rw [nest]; exact judges.state, by rw [nest]; exact idb, ?_, ?_, ?_⟩
  · rw [nest, (givesVerdict _ ida (record_inTable sound ida)).nest]
    show (a.nest n).retries = _
    rw [same]
  · rw [unit, judged]
    exact ⟨rfl, rfl⟩
  · refine (before.past waits).captures.trans (Capture.Leaves.trans ?_ (later.past stays).captures)
    rw [names.capture]
    exact .refl n _

end Finish

/-! ### One frame for all consumers -/

theorem mem_consumers {s : State} {n : Nest} (running : (s.nest n).state.running = true) : Consumer.nest n ∈ s.consumers := by
  have listed : Consumer.nest n ∈ (Nest.order.filter (fun n => (s.nest n).state.running)).map Consumer.nest :=
    List.mem_map.2 ⟨n, List.mem_filter.2 ⟨nest_mem_order n, running⟩, rfl⟩
  unfold State.consumers
  dsimp only
  split
  · exact (permute_perm _ _).mem_iff.2 (List.mem_cons_of_mem _ listed)
  · exact List.mem_cons_of_mem _ ((permute_perm _ _).mem_iff.2 listed)

theorem moves_consumers (f : PerNest ToneFrame) (cs : List Consumer) (t : Turn) :
    Moves t.state (cs.foldl (Turn.consume f) t).state := by
  induction cs generalizing t with
  | nil => exact .refl _
  | cons c cs ih =>
    refine (ih _).after ?_
    cases c with
    | guard => exact moves_guardFrame t
    | nest m => exact moves_nestFrame t m _

theorem start_apart {s : State} {n : Nest} (h : Sound s) (state : (s.nest n).state = .window) :
    (Turn.start s false).before.get n = .window ∧ (Turn.start s false).taken.get n = false ∧
      (Turn.start s false).apart n := by
  have before : (Turn.start s false).before.get n = .window := (PerNest.get_map _ _ n).trans state
  have taken : (Turn.start s false).taken.get n = false := by cases n <;> rfl
  refine ⟨before, taken, Or.inr ⟨before, taken⟩, unqueued_of_state (s := s) h.1 (by rw [state]; decide), ?_⟩
  show (s.nest n).state ≠ _
  rw [state]
  decide

/-- A unit ended with RETEST_LINK on the frame, and what it held given back. -/
structure LosesUnit (n : Nest) (id : Nat) (s t : State) : Prop where
  state : (t.nest n).state = .judged
  record : (t.nest n).record = some id
  retries : (t.nest n).retries = (s.nest n).retries
  judged : (t.record id).state = .judged ∧ (t.record id).unitClass = some .retestLink
  back : HandedBack n s t

/-- What a corrupted frame does to the window that counts it. -/
structure Spoils (n : Nest) (id : Nat) (s t : State) : Prop where
  retried : (s.nest n).retries < (s.nest n).settings.retryBudget → (t.nest n).Retries id ((s.nest n).retries + 1)
  ended : (s.nest n).settings.retryBudget ≤ (s.nest n).retries → LosesUnit n id s t

section Consume
variable {s : State} {n : Nest} {id : Nat} {st : Step}

theorem spoils_consumeFrame (f : PerNest ToneFrame) (h : Sound s) (state : (s.nest n).state = .window)
    (corrupt : s.link.current.substituted = true) (hid : (s.nest n).record = some id) (step : (s.nest n).step = some st)
    (alive : (s.nest n).deadlineRunning = true → 1 < (s.nest n).deadline) : Spoils n id s (s.consumeFrame f) := by
  obtain ⟨pre, post, split⟩ := List.append_of_mem (mem_consumers (s := s) (n := n) (by rw [state]; rfl))
  have nodup := consumers_nodup s
  rw [split] at nodup
  have notPre : Consumer.nest n ∉ pre := fun hp =>
    (List.disjoint_of_nodup_append nodup) hp List.mem_cons_self
  have notPost : Consumer.nest n ∉ post := (List.nodup_cons.1 (List.nodup_append'.1 nodup).2.1).1
  have ok0 := start_ok false h
  obtain ⟨before0, taken0, apart0⟩ := start_apart h state
  have ok3 := consumers_ok f s.consumers ok0 (consumers_nodup s) fun k _ => by cases k <;> rfl
  have ok1 := consumers_ok f pre ok0 (List.nodup_append'.1 nodup).1 fun k _ => by cases k <;> rfl
  have past1 := consumers_past (f := f) notPre apart0
  have link1 := (moves_consumers f pre (Turn.start s false)).link
  have whole : s.consumers.foldl (Turn.consume f) (Turn.start s false) =
      post.foldl (Turn.consume f) ((pre.foldl (Turn.consume f) (Turn.start s false)).nestFrame n (f.get n)) := by
    rw [split, List.foldl_append, List.foldl_cons]
    rfl
  have consumed : s.consumeFrame f = (s.consumers.foldl (Turn.consume f) (Turn.start s false)).finish := rfl
  rw [whole] at ok3 consumed
  set t1 := pre.foldl (Turn.consume f) (Turn.start s false)
  obtain ⟨-, same1, leaves1⟩ := past1.state.still apart0.2.1
  replace same1 : t1.state.nest n = s.nest n := same1
  have before1 : t1.before.get n = .window := by rw [past1.before]; exact before0
  have taken1 : t1.taken.get n = false := past1.taken.trans taken0
  have open1 : t1.endings.get n = none := (ok1.before n taken1 (by rw [before1]; rfl)).2
  have state1 : (t1.state.nest n).state = .window := by rw [same1]; exact state
  have corrupt1 : t1.state.link.current.substituted = true := by rw [link1]; exact corrupt
  have alive1 : (t1.state.nest n).deadlineRunning = true → 1 < (t1.state.nest n).deadline := by rw [same1]; exact alive
  obtain ⟨ok2, -⟩ := nestFrame_ok (f.get n) ok1 taken1
  rw [consumed]
  refine ⟨fun left => ?_, fun spent => ?_⟩
  · obtain ⟨endings, retries⟩ := nestFrame_retries (f.get n) ok1.sound state1 before1 corrupt1 (by rw [same1]; exact hid)
      (by rw [same1]; exact step) alive1 (by rw [same1]; exact left)
    obtain ⟨reopened, endings'⟩ := consumers_loose (f := f) notPost _ retries.pending
    rw [same1] at retries
    exact finish_retries ok3 (endings'.trans (endings.trans open1)) (reopened.retries retries)
  · obtain ⟨ended, record, retries, mark, records⟩ := nestFrame_ends (f.get n) ok1.sound state1 before1 corrupt1 alive1
      (by rw [same1]; exact spent)
    set t2 := t1.nestFrame n (f.get n)
    have counts := (ok2.ended n (by rw [ended]; nofun)).2
    have apart2 : t2.apart n := ⟨Or.inl (by rw [ended]; nofun), unqueued_of_state ok2.sound.1 (counts_wait counts),
      fun waits => by rw [waits] at counts; cases counts⟩
    have past3 := consumers_past (f := f) notPost apart2
    obtain ⟨-, same3, leaves3⟩ := past3.state.still apart2.2.1
    have final := finish_ends ok3 (past3.endings.trans ended) (by rw [same3, record, same1]; exact hid)
    have sound := finish_ok ok3
    set u := (post.foldl (Turn.consume f) t2).finish
    refine ⟨final.state, final.record, ?_, final.judged, noLanes_of_state sound.1 (by rw [final.state]; rfl),
      fun evaluates => ?_, fun _ => ⟨?_, fun x hx ho => ?_⟩⟩
    · rw [final.retries, same3, retries, same1]
    · rw [state] at evaluates
      cases evaluates
    · exact final.captures.mark.trans (leaves3.mark.trans mark)
    · have inTurn := leaves3.records x (final.captures.records x hx ho) ho
      refine (records x inTurn ho).imp_right fun ⟨old, kept⟩ => ⟨leaves1.records x old ho, ?_⟩
      rw [leaves1.mark] at kept
      exact kept

end Consume

/-! ### The ack timers -/

theorem mem_holders {m : Marking} {id : Nat} :
    id ∈ m.holders ↔ id ∈ m.queue ∨ ∃ i, (m.slot i).record = some id := by
  unfold Marking.holders
  simp only [List.mem_append, Option.mem_toList]
  constructor
  · rintro (queue | a | b)
    · exact Or.inl queue
    · exact Or.inr ⟨.a, a⟩
    · exact Or.inr ⟨.b, b⟩
  · rintro (queue | ⟨i, slot⟩)
    · exact Or.inl queue
    · cases i with
      | a => exact Or.inr (Or.inl slot)
      | b => exact Or.inr (Or.inr slot)

/-- What the label path leaves to a record that it does not hold, and to the nests. -/
structure LabelsPass (id : Nat) (s t : State) : Prop where
  nests : t.nests = s.nests
  analyser : t.analyser = s.analyser
  capture : t.capture = s.capture
  link : t.link = s.link
  still : id ∉ s.marking.holders → id ∉ t.marking.holders ∧ t.record id = s.record id

section Labels
variable {id : Nat}

theorem LabelsPass.refl (id : Nat) (s : State) : LabelsPass id s s := ⟨rfl, rfl, rfl, rfl, fun away => ⟨away, rfl⟩⟩

theorem LabelsPass.trans {s t u : State} (h : LabelsPass id s t) (k : LabelsPass id t u) : LabelsPass id s u := by
  refine ⟨k.nests.trans h.nests, k.analyser.trans h.analyser, k.capture.trans h.capture, k.link.trans h.link, fun away => ?_⟩
  obtain ⟨away1, same1⟩ := h.still away
  obtain ⟨away2, same2⟩ := k.still away1
  exact ⟨away2, same2.trans same1⟩

theorem setSlot_queue (m : Marking) (i : SlotId) (x : Slot) : (m.setSlot i x).queue = m.queue := by cases i <;> rfl

theorem not_mem_holders_setSlot {m : Marking} {i : SlotId} {x : Slot} (away : id ∉ m.holders) (hx : x.record ≠ some id) :
    id ∉ (m.setSlot i x).holders := by
  rw [mem_holders] at away ⊢
  rintro (queue | ⟨j, slot⟩)
  · rw [setSlot_queue] at queue
    exact away (Or.inl queue)
  · rw [Marking.slot_setSlot] at slot
    split at slot
    · exact hx slot
    · exact away (Or.inr ⟨j, slot⟩)

theorem labelsPass_setSlot (s : State) (i : SlotId) (x : Slot)
    (hx : x.record = none ∨ x.record = (s.marking.slot i).record) : LabelsPass id s (s.setSlot i x) := by
  refine ⟨rfl, rfl, rfl, rfl, fun away => ⟨not_mem_holders_setSlot away ?_, rfl⟩⟩
  rcases hx with empty | same
  · rw [empty]; nofun
  · rw [same]
    exact fun slot => away (mem_holders.2 (Or.inr ⟨i, slot⟩))

theorem labelsPass_fillSlot {s : State} (i : SlotId) {k : Nat} {rest : List Nat} (queue : s.marking.queue = k :: rest) :
    LabelsPass id s (s.fillSlot i k rest) := by
  refine ⟨rfl, rfl, rfl, rfl, fun away => ?_⟩
  have other : id ≠ k := by
    rintro rfl
    exact away (mem_holders.2 (Or.inl (by rw [queue]; exact List.mem_cons_self)))
  refine ⟨?_, State.record_setRecord_ne s other _⟩
  unfold State.fillSlot
  set y : Slot := ⟨.waitLine, some k, labelMessage i { s.record k with state := .labelling, slot := some i }, 0⟩
  have filled : id ∉ (s.marking.setSlot i y).holders :=
    not_mem_holders_setSlot away fun e => other (Option.some.inj e).symm
  rw [mem_holders] at filled ⊢
  rintro (waits | ⟨j, slot⟩)
  · have same := Marking.startMessage_queue
      ({ s.marking.setSlot i y with queue := rest, lastFilled := some i } : Marking)
    replace waits : id ∈ rest := (congrArg (fun waiting : List Nat => id ∈ waiting) same).mp waits
    refine away (mem_holders.2 (Or.inl ?_))
    rw [queue]
    exact List.mem_cons_of_mem _ waits
  · have before := (Marking.startMessage_slot
      { s.marking.setSlot i y with queue := rest, lastFilled := some i } j).1
    refine filled (Or.inr ⟨j, ?_⟩)
    have same : (({ s.marking.setSlot i y with queue := rest, lastFilled := some i } : Marking).slot j).record =
        ((s.marking.setSlot i y).slot j).record := by cases j <;> rfl
    exact same.symm.trans (before.symm.trans slot)

theorem labelsPass_fillSlots (fuel : Nat) (s : State) : LabelsPass id s (s.fillSlots fuel) := by
  induction fuel generalizing s with
  | zero => exact .refl id s
  | succ fuel ih =>
    unfold State.fillSlots
    split
    · rename_i queue _
      exact (labelsPass_fillSlot _ queue).trans (ih _)
    · exact .refl id s

theorem labelsPass_retireSlot (s : State) (i : SlotId) (o : LabelOutcome) : LabelsPass id s (s.retireSlot i o) := by
  have freed (t : State) : LabelsPass id t (t.setSlot i .free).fillCheck :=
    (labelsPass_setSlot t i .free (Or.inl rfl)).trans (labelsPass_fillSlots 2 _)
  unfold State.retireSlot
  cases slot : (s.marking.slot i).record with
  | none => exact freed s
  | some k =>
    have retired : LabelsPass id s (s.retire k o) := by
      refine ⟨rfl, rfl, rfl, rfl, fun away => ⟨away, ?_⟩⟩
      rw [retire_record, if_neg]
      rintro rfl
      exact away (mem_holders.2 (Or.inr ⟨i, slot⟩))
    exact retired.trans (freed (s.retire k o))

theorem labelsPass_ackFrame (s : State) (i : SlotId) : LabelsPass id s (s.ackFrame i) := by
  have ticked : LabelsPass id s (s.setSlot i (s.marking.slot i).tick) := by
    refine labelsPass_setSlot s i _ (Or.inr ?_)
    unfold Slot.tick
    split <;> rfl
  unfold State.ackFrame State.ackExpired
  split
  · exact ticked.trans (labelsPass_retireSlot _ i .noAck)
  · exact ticked

theorem labelsPass_ackFrames (id : Nat) (s : State) : LabelsPass id s s.ackFrames := by
  unfold State.ackFrames
  split
  · exact (labelsPass_ackFrame s .b).trans (labelsPass_ackFrame _ .a)
  · exact (labelsPass_ackFrame s .a).trans (labelsPass_ackFrame _ .b)

/-- A nest's record is not in the label path. -/
theorem not_mem_holders_of_nest {s : State} {n : Nest} (h : Sound s) (hid : (s.nest n).record = some id) :
    id ∉ s.marking.holders := by
  intro held
  have nodup := (holdersBut_perm s n).nodup_iff.1 h.2.nodup
  rw [hid] at nodup
  refine (List.nodup_cons.1 nodup).1 ?_
  show id ∈ [] ++ s.holdersBut (some n)
  rw [holdersBut_eq]
  exact List.mem_append_right _ (List.mem_append_right _ held)

end Labels

/-! ### The frame from its arrival on -/

section Arrival
variable {n : Nest} {id : Nat}

/-- The same effect from a state with the same nests and captures. -/
theorem Spoils.start {s s' t : State} (h : Spoils n id s' t) (nest : s'.nest n = s.nest n) (capture : s'.capture = s.capture) :
    Spoils n id s t := by
  refine ⟨fun left => ?_, fun spent => ?_⟩
  · rw [← nest] at left ⊢
    exact h.retried left
  · rw [← nest] at spent
    obtain ⟨state, record, retries, judged, back⟩ := h.ended spent
    refine ⟨state, record, by rw [← nest]; exact retries, judged, back.lanes, fun hs => ?_, fun hs => ?_⟩
    · exact back.evaluation (by rw [nest]; exact hs)
    · rw [← capture]
      exact back.captures (by rw [nest]; exact hs)

/-- The label path behind it. -/
theorem Spoils.labels {s t u : State} (h : Spoils n id s t) (sound : Sound t) (labels : LabelsPass id t u) : Spoils n id s u := by
  have nest : u.nest n = t.nest n := by
    unfold State.nest
    rw [labels.nests]
  refine ⟨fun left => ?_, fun spent => ?_⟩
  · rw [nest]
    exact h.retried left
  · obtain ⟨state, record, retries, judged, back⟩ := h.ended spent
    have unit := (labels.still (not_mem_holders_of_nest sound record)).2
    refine ⟨by rw [nest]; exact state, by rw [nest]; exact record, by rw [nest]; exact retries, by rw [unit]; exact judged,
      ?_, fun hs => ?_, fun hs => ?_⟩
    · rw [labels.analyser]
      exact back.lanes
    · rw [labels.analyser]
      exact back.evaluation hs
    · rw [labels.capture]
      exact back.captures hs

theorem spoils_frameUp {s : State} {st : Step} (h : Sound s) (state : (s.nest n).state = .window)
    (corrupt : s.link.current.substituted = true) (hid : (s.nest n).record = some id) (step : (s.nest n).step = some st)
    (alive : (s.nest n).deadlineRunning = true → 1 < (s.nest n).deadline) :
    Spoils n id s s.frameUp := by
  set f := s.beginTones.toneFrames
  set a := s.beginTones.advanceTones.answerFrame f
  have soundA : Sound a := h.same rfl rfl rfl rfl
  have up : s.frameUp = (a.consumeWithAcks fun s => s.consumeFrame f).spend := rfl
  have effect : Spoils n id a (a.consumeWithAcks fun s => s.consumeFrame f) := by
    unfold State.consumeWithAcks
    split
    · have labels := labelsPass_ackFrames id a
      have nest : a.ackFrames.nest n = s.nest n := by
        unfold State.nest
        rw [labels.nests]
        rfl
      exact (spoils_consumeFrame f (ackFrames_ok soundA) (by rw [nest]; exact state) (by rw [labels.link]; exact corrupt)
        (by rw [nest]; exact hid) (by rw [nest]; exact step) (by rw [nest]; exact alive)).start nest labels.capture
    · exact (spoils_consumeFrame f soundA state corrupt hid step alive).labels (consumeFrame_ok f soundA)
        (labelsPass_ackFrames id _)
  have sound := consumeWithAcks_ok (c := fun s => s.consumeFrame f) (fun s hs => consumeFrame_ok f hs) soundA
  have spends (t : State) : LabelsPass id t t.spend := ⟨rfl, rfl, rfl, rfl, fun away => ⟨away, rfl⟩⟩
  rw [up]
  exact (effect.labels sound (spends _)).start rfl rfl

/-- Settles O9: the substituted frame reaches the window, whoever takes it first. -/
theorem substitutedFrameSpoilsWindow : Obligations.SubstitutedFrameSpoilsWindow := by
  intro s bytes k n id sound up hk bad short state hid step alive
  obtain ⟨st, step⟩ := Option.isSome_iff_exists.1 step
  set s0 : State := { s with out := { s.out with downstream := [] } }
  set l : Link :=
    { s.link with badFrames := count s.link.badFrames 1, badRun := s.link.badRun + 1, silenceRunning := true }
  have arrives : s0.arriveUp none = (s0.withLink l.produceSubstitute).frameUp := if_pos (Nat.succ_lt_succ short)
  have h : Sound (s0.withLink l.produceSubstitute) := ((sound_iff s).2 sound).same rfl rfl rfl rfl
  have spoils : Spoils n id s (s0.withLink l.produceSubstitute).frameUp :=
    (spoils_frameUp h state rfl hid step alive).start rfl rfl
  have soundUp := frameUp_ok h
  refine ⟨(s0.withLink l.produceSubstitute).frameUp, ?_, fun left => ?_, fun spent => ?_⟩
  · rw [exec_frameArrival_up bytes up, bad]
    exact congrArg Host.Outcome.next arrives
  · have again := spoils.retried left
    exact ⟨again.retries, again.record, again.pending⟩
  · have lost := spoils.ended spent
    exact ⟨lost.state, lost.retries, lost.judged.1, lost.judged.2, lost.back.givenBack soundUp (by rw [lost.state]; decide)⟩

end Arrival

end Sys2Proof.Machine
end

section
/-! The tone generator's own events: the ends of a glide and of a ramp-down (O27), and of a burst phase, with the step's
end behind the last burst (O26). -/

namespace Sys2Proof.Machine

/-! ### The ends of a glide and of a ramp-down -/

theorem PerNest.set_get {α : Type} (p : PerNest α) (n : Nest) : p.set n (p.get n) = p := by cases n <;> rfl

/-- A generator set to what it is. -/
theorem setTone_tone (s : State) (n : Nest) : s.setTone n (s.tone n) = s :=
  congrArg (fun x => { s with tones := x }) (PerNest.set_get s.tones n)

theorem glideEnd_none {w : Tone} (glide : w.glide = none) : w.glideEnd = w := by
  unfold Tone.glideEnd
  simp only [glide]

theorem glideEnd_some {w : Tone} {g : Glide} (glide : w.glide = some g) :
    w.glideEnd = if 192 ≤ g.done then { w with glide := none, amplitude := g.target } else w := by
  unfold Tone.glideEnd
  simp only [glide]

theorem rampEnd_rampDown (r d : Nat) :
    (Envelope.rampDown r d).rampEnd = if 192 ≤ d then .silent else .rampDown r d := rfl

theorem rampEnd_other {e : Envelope} (noRamp : ∀ r d, e ≠ .rampDown r d) : e.rampEnd = e := by
  cases e with
  | rampDown r d => exact absurd rfl (noRamp r d)
  | _ => rfl

/-- A GLIDE_END that leaves the generator as it is changes nothing. -/
theorem exec_glideEnd_same {s : State} {n : Nest} (same : (s.tone n).glideEnd = s.tone n) :
    exec (.glideEnd n) s = .next s := by
  show Host.Outcome.next (s.setTone n (s.tone n).glideEnd) = _
  rw [same, setTone_tone]

/-- The same for a RAMP_END. -/
theorem exec_rampEnd_same {s : State} {n : Nest} (same : (s.tone n).envelope.rampEnd = (s.tone n).envelope) :
    exec (.rampEnd n) s = .next s := by
  show Host.Outcome.next (s.setTone n { s.tone n with envelope := (s.tone n).envelope.rampEnd }) = _
  rw [same]
  exact congrArg Host.Outcome.next (setTone_tone s n)

/-- Settles O27, by what the glide and the envelope hold. -/
theorem glideAndRampEnd : Obligations.GlideAndRampEnd := by
  intro s n
  refine ⟨fun g glide done => ?_, fun g glide early => ?_, fun none => exec_glideEnd_same (glideEnd_none none),
    fun r d ramp done => ?_, fun r d ramp early => ?_, fun noRamp => exec_rampEnd_same (rampEnd_other noRamp)⟩
  · show Host.Outcome.next (s.setTone n (s.tone n).glideEnd) = _
    rw [glideEnd_some glide, if_pos done]
  · exact exec_glideEnd_same (by rw [glideEnd_some glide, if_neg (Nat.not_le.2 early)])
  · show Host.Outcome.next (s.setTone n { s.tone n with envelope := (s.tone n).envelope.rampEnd }) = _
    rw [ramp, rampEnd_rampDown, if_pos done]
  · exact exec_rampEnd_same (by rw [ramp, rampEnd_rampDown, if_neg (Nat.not_le.2 early)])

/-! ### The end of a burst phase -/

section Bursts
variable {w : Tone} {st : Step} {b : Burst} (burst : w.burst = some b)
include burst

theorem burstEnd_offPhase (on : b.on = true) (off : 0 < st.offCycles) :
    w.burstEnd st = ({ w with burst := some ⟨false, st.offCycles, b.repeatsLeft⟩, burstMute := true }, false) := by
  unfold Tone.burstEnd
  simp only [burst, on, off, and_self, if_true]

/-- No off phase left: the next on phase, or the burst over. -/
theorem burstEnd_onPhase (noOff : b.on = false ∨ st.offCycles = 0) :
    w.burstEnd st =
      if 1 < b.repeatsLeft then
        ({ w with burst := some ⟨true, st.onCycles, b.repeatsLeft - 1⟩, burstMute := false }, false)
      else ({ w with burst := none }, true) := by
  have past : ¬ (b.on = true ∧ 0 < st.offCycles) := by
    rintro ⟨on, off⟩
    rcases noOff with no | no
    · exact absurd (on.symm.trans no) (by decide)
    · omega
  unfold Tone.burstEnd
  simp only [burst]
  exact if_neg past

end Bursts

section BurstPhase
variable {s : State} {n : Nest} {st : Step} {b : Burst} {id : Nat}

theorem exec_burstCountEnd (state : (s.nest n).state = .condition) (burst : (s.tone n).burst = some b)
    (counted : b.cyclesLeft = 0) : exec (.burstCountEnd n) s = .next (State.withVerdict n (s.burstPhaseEnd n)) :=
  congrArg Host.Outcome.next (if_pos ⟨state, by rw [burst]; exact decide_eq_true counted⟩)

/-- A burst phase with another behind it: the generator alone changes. -/
theorem burstPhaseEnd_goesOn {w : Tone} (step : (s.nest n).step = some st) (next : (s.tone n).burstEnd st = (w, false)) :
    s.burstPhaseEnd n = (s.setTone n w, none) := by
  unfold State.burstPhaseEnd
  simp only [step, next, Bool.false_eq_true, if_false]

/-- The state in which a CONDITION step whose last burst is over is finished (R79, R131). -/
def State.burstsOver (s : State) (n : Nest) (id : Nat) : State :=
  (s.setTone n { s.tone n with burst := none }).setRecord id
    { s.record id with stepsCompleted := (s.record id).stepsCompleted + 1 }

theorem burstPhaseEnd_last (step : (s.nest n).step = some st) (hid : (s.nest n).record = some id)
    (isOver : (s.tone n).burstEnd st = ({ s.tone n with burst := none }, true)) :
    s.burstPhaseEnd n = (s.burstsOver n id).finishStep n false := by
  unfold State.burstPhaseEnd State.foldCondition State.burstsOver
  simp only [step, isOver, if_true, State.setTone_nest, hid, State.setTone_record]

theorem burstsOver_tone (s : State) (n : Nest) (id : Nat) :
    (s.burstsOver n id).tone n = { s.tone n with burst := none } := State.tone_setTone s n _

theorem burstsOver_record (inTable : id < s.records.length) :
    (s.burstsOver n id).record id = { s.record id with stepsCompleted := (s.record id).stepsCompleted + 1 } :=
  State.record_setRecord _ inTable _

/-- How the next step begins does not turn on the burst before it. -/
theorem nextBegun_of_burstsOver {t : State} {x : Step × Limits} (begun : (s.burstsOver n id).nextBegun t n x.1 x.2) :
    s.nextBegun t n x.1 x.2 := by
  unfold State.nextBegun at begun ⊢
  rw [burstsOver_tone] at begun
  exact begun

/-- A step before the unit's last that finishes without failing: the next one begins (R51). -/
theorem finishStep_next {p : Nat} {f : ProgramFields} (program : (s.nest n).program = some p)
    (fields : (s.recipe.entry p).fields = some f) (more : (s.nest n).stepIndex + 1 < f.stepCount)
    (begins : s.beginsNext n (s.recipe.stepOf f ((s.nest n).stepIndex + 1)).1) :
    ∃ t, s.finishStep n false = (t, none) ∧ NextBegins n (s.recipe.stepOf f ((s.nest n).stepIndex + 1)) s t := by
  have found := programFields_eq program fields
  have running : s.unitOver n false = false := by
    rw [unitOver_eq found, Bool.false_and, Bool.false_or]
    exact decide_eq_false (Nat.not_le.2 more)
  have steps : s.finishStep n false = State.runSteps (255 + 1) n (s.nextIndex n) := if_neg (by rw [running]; nofun)
  rw [steps]
  exact runSteps_begins (loadStep_nextIndex found) begins 255

/-- A verdict leaves the other generators. -/
theorem verdict_tone_ne (e : Ending) (hid : (s.nest n).record = some id) {m : Nest} (hm : m ≠ n) :
    (s.verdict n e).tone m = s.tone m := by
  unfold State.tone
  rw [verdict_eq e hid]
  exact PerNest.get_set_ne _ hm _

end BurstPhase

/-- Settles O26: the next phase, or the step's end and with it the next step or the verdict. -/
theorem burstPhaseEnds : Obligations.BurstPhaseEnds := by
  intro s n st b state step burst counted
  have run := exec_burstCountEnd state burst counted
  refine ⟨fun on off => ?_, fun noOff repeats => ?_, fun id noOff last hid inTable => ?_⟩
  · rw [run, burstPhaseEnd_goesOn step (burstEnd_offPhase burst on off)]
    rfl
  · rw [run, burstPhaseEnd_goesOn step ((burstEnd_onPhase burst noOff).trans (if_pos repeats))]
    rfl
  have finish := burstPhaseEnd_last step hid ((burstEnd_onPhase burst noOff).trans (if_neg (Nat.not_lt.2 last)))
  have keepsLink : s.KeepsLink (State.withVerdict n (s.burstPhaseEnd n)) :=
    (moves_withVerdict s n (moves_burstPhaseEnd s n)).keepsLink
  rw [finish] at run keepsLink
  have tone := burstsOver_tone s n id
  have record := burstsOver_record (n := n) inTable
  refine ⟨fun p f program fields more => ?_, fun atLast => ?_⟩
  · intro next begins
    have begins1 : (s.burstsOver n id).beginsNext n next.1 := by
      unfold State.beginsNext
      rw [tone]
      exact begins
    obtain ⟨t, finished, begun⟩ := finishStep_next (s := s.burstsOver n id) program fields more begins1
    rw [finished] at run keepsLink
    refine ⟨t, run, keepsLink, nextBegun_of_burstsOver begun.begun, begun.port, begun.yield, ?_⟩
    rw [begun.skips id, record]
  · have ends : (s.burstsOver n id).finishStep n false = (s.burstsOver n id, some .byRecord) :=
      if_pos (unitOver_of_last (s := s.burstsOver n id) atLast)
    rw [ends] at run keepsLink
    set t : State := State.withVerdict n (s.burstsOver n id, some .byRecord)
    set c := (s.burstsOver n id).endClass n id .byRecord
    have verdict : GivesVerdict n id c (s.burstsOver n id) t :=
      givesVerdict .byRecord hid (inTable.trans_eq List.length_set.symm)
    have judged := verdict.record
    rw [record] at judged
    have sounds := verdict.tone
    rw [tone, toneVerdict_eq] at sounds
    refine ⟨t, run, keepsLink, verdict.nest, fun m other => ⟨verdict.others m other, ?_⟩, ?_, ?_, ?_, ?_, ?_, ?_, ?_, c, ?_,
      verdict.port⟩
    · exact (verdict_tone_ne (s := s.burstsOver n id) .byRecord hid other).trans (PerNest.get_set_ne s.tones other _)
    · rw [sounds]
    · rw [sounds]
    · rw [sounds]
    · rw [judged]; rfl
    · rw [judged]; rfl
    · rw [judged]; rfl
    · rw [judged]; rfl
    · rw [judged]; rfl

end Sys2Proof.Machine
end

section
/-! Levels, amplitudes and increments against the real numbers they round (O56): each search ends at the nearest integer
because its test compares with it exactly (log 19), and each entry of the sine table lies well off a half (log 18). -/

namespace Sys2Proof.Machine

/-! ### The search -/

/-- The search finds `top`, clamped, when its test holds up to `top` and nowhere above. -/
theorem largestFrom_eq {test : Int → Bool} {top : Int} (fuel : Nat) {lo hi : Int} (le : lo ≤ hi)
    (fits : hi - lo < 2 ^ fuel) (tests : ∀ r, lo < r → r ≤ hi → (test r = true ↔ r ≤ top)) :
    largestFrom test fuel lo hi = max lo (min hi top) := by
  induction fuel generalizing lo hi with
  | zero =>
    rw [pow_zero] at fits
    unfold largestFrom
    omega
  | succ fuel ih =>
    rw [pow_succ] at fits
    unfold largestFrom
    by_cases done : hi ≤ lo
    · rw [if_pos done]
      omega
    · rw [if_neg done]
      dsimp only
      have test_mid := tests ((lo + hi + 1) / 2) (by omega) (by omega)
      split
      · rename_i holds
        have below := test_mid.1 holds
        rw [ih (by omega) (by omega) fun r above upTo => tests r (by omega) upTo]
        omega
      · rename_i fails
        have above := mt test_mid.2 fails
        rw [ih (by omega) (by omega) fun r above upTo => tests r above (by omega)]
        omega

/-! ### Levels (R96, R98, R107, R112) -/

/-- A power of ten against a fraction, by whole numbers alone. -/
theorem tenPow_le_div_iff (e : Int) (p : Nat) {q : Nat} (hq : 0 < q) :
    (10 : ℝ) ^ e ≤ (p : ℝ) / q ↔ if 0 ≤ e then 10 ^ e.toNat * q ≤ p else q ≤ p * 10 ^ (-e).toNat := by
  have hq' : (0 : ℝ) < q := by exact_mod_cast hq
  rw [le_div_iff₀ hq']
  split
  · rename_i nonneg
    obtain ⟨k, rfl⟩ := Int.eq_ofNat_of_zero_le nonneg
    rw [zpow_natCast, Int.toNat_natCast]
    exact_mod_cast Iff.rfl
  · rename_i negative
    obtain ⟨k, hk⟩ := Int.eq_ofNat_of_zero_le (a := -e) (by omega)
    rw [hk, Int.toNat_natCast, ← neg_neg e, hk, zpow_neg, zpow_natCast, inv_mul_le_iff₀ (by positivity), mul_comm]
    exact_mod_cast Iff.rfl

theorem levelAtLeast_iff {p q : Nat} (hp : 0 < p) (hq : 0 < q) (r : Int) :
    levelAtLeast p q r = true ↔ r ≤ ⌊1000 * Real.logb 10 ((p : ℝ) / q) + 1 / 2⌋ := by
  have ratio : (0 : ℝ) < (p : ℝ) / q := div_pos (by exact_mod_cast hp) (by exact_mod_cast hq)
  have test : levelAtLeast p q r = true ↔ (10 : ℝ) ^ (2 * r - 1) ≤ ((p ^ 2000 : Nat) : ℝ) / (q ^ 2000 : Nat) := by
    rw [tenPow_le_div_iff _ _ (Nat.pow_pos hq)]
    unfold levelAtLeast
    dsimp only
    split <;> simp only [decide_eq_true_eq]
  have log : (10 : ℝ) ^ (2 * r - 1) ≤ ((p ^ 2000 : Nat) : ℝ) / (q ^ 2000 : Nat) ↔
      (2 * r - 1 : ℝ) ≤ 2000 * Real.logb 10 ((p : ℝ) / q) := by
    have power := Real.logb_pow 10 ((p : ℝ) / q) 2000
    rw [Nat.cast_ofNat] at power
    rw [← power, Real.le_logb_iff_rpow_le (by norm_num) (pow_pos ratio _), div_pow, Nat.cast_pow, Nat.cast_pow,
      ← Real.rpow_intCast]
    push_cast
    rfl
  rw [test, log, Int.le_floor]
  constructor <;> intro h <;> linarith

/-! ### Amplitudes (R71) -/

/-- A fraction of full scale against a number, both raised to the power that makes them whole. -/
theorem le_mul_tenPow_iff {x y : ℝ} (hx : 0 ≤ x) (hy : 0 ≤ y) (m : Nat) {k : Nat} (hk : k ≠ 0) :
    x ≤ y * (10 : ℝ) ^ (-(m : ℝ) / k) ↔ x ^ k * 10 ^ m ≤ y ^ k := by
  have power : ((10 : ℝ) ^ (-(m : ℝ) / k)) ^ k = (10 ^ m)⁻¹ := by
    rw [← Real.rpow_natCast, ← Real.rpow_mul (by norm_num), div_mul_cancel₀ _ (by exact_mod_cast hk),
      Real.rpow_neg (by norm_num), Real.rpow_natCast]
  rw [← pow_le_pow_iff_left₀ hx (by positivity) hk, mul_pow, power, ← div_eq_mul_inv, le_div_iff₀ (by positivity)]

theorem amplitudeAtLeast_iff {d a : Int} (hd : d ≤ 0) (ha : 0 < a) :
    amplitudeAtLeast d a = true ↔ a ≤ ⌊(8388607 : ℝ) * (10 : ℝ) ^ ((d : ℝ) / 2000) + 1 / 2⌋ := by
  obtain ⟨m, hm⟩ := Int.eq_ofNat_of_zero_le (a := -d) (by omega)
  obtain ⟨b, hb⟩ := Int.eq_ofNat_of_zero_le (a := 2 * a - 1) (by omega)
  have exponent : (d : ℝ) = -(m : ℝ) := by
    have : d = -(m : Int) := by omega
    rw [this]
    push_cast
    rfl
  have doubled : (2 * a - 1 : ℝ) = b := by exact_mod_cast hb
  have scaled := le_mul_tenPow_iff (x := b) (y := (2 * Config.fullScale : Nat)) (by positivity) (by positivity) m
    (k := 2000) (by norm_num)
  have test : amplitudeAtLeast d a = true ↔
      (b : ℝ) ≤ (2 * Config.fullScale : Nat) * (10 : ℝ) ^ (-(m : ℝ) / (2000 : Nat)) := by
    rw [scaled]
    unfold amplitudeAtLeast
    rw [decide_eq_true_iff, hm, hb, Int.toNat_natCast, Int.toNat_natCast]
    exact_mod_cast Iff.rfl
  have whole : ((2 * Config.fullScale : Nat) : ℝ) = 2 * 8388607 := by norm_num [Config.fullScale]
  rw [test, Int.le_floor, exponent, ← doubled, whole, Nat.cast_ofNat]
  constructor <;> intro h <;> linarith

/-- The amplitude of a drive level of at most 0 (R71). -/
theorem amplitudeOf_eq {d : Int} (hd : d ≤ 0) :
    (amplitudeOf d : Int) = ⌊(8388607 : ℝ) * (10 : ℝ) ^ ((d : ℝ) / 2000) + 1 / 2⌋ := by
  have small : (10 : ℝ) ^ ((d : ℝ) / 2000) ≤ 1 :=
    Real.rpow_le_one_of_one_le_of_nonpos (by norm_num) (div_nonpos_of_nonpos_of_nonneg (by exact_mod_cast hd) (by norm_num))
  set top := ⌊(8388607 : ℝ) * (10 : ℝ) ^ ((d : ℝ) / 2000) + 1 / 2⌋
  have nonneg : 0 ≤ top := Int.floor_nonneg.2 (by positivity)
  have most : top < 8388608 := Int.floor_lt.2 (by push_cast; linarith)
  have found : largestFrom (amplitudeAtLeast d) 24 0 Config.fullScale = max 0 (min (Config.fullScale : Int) top) :=
    largestFrom_eq 24 (by decide) (by decide) fun r above _ => amplitudeAtLeast_iff hd above
  have scale : (Config.fullScale : Int) = 8388607 := rfl
  unfold amplitudeOf
  rw [found, scale]
  omega

/-! ### The sine table (R70) -/

/-- `piFixed` agrees with pi x 2^80 to twenty decimals of pi. -/
theorem piFixed_near : |(piFixed : ℝ) - 2 ^ 80 * Real.pi| ≤ 2 ^ 14 := by
  have above := Real.pi_gt_d20
  have below := Real.pi_lt_d20
  unfold piFixed
  rw [abs_le]
  constructor <;> norm_num at above below ⊢ <;> linarith

/-- The angle of entry `j` of the first quarter, times 2^80. -/
def quarterAngle (j : Nat) : Nat := piFixed * j / 8192

theorem quarterAngle_near {j : Nat} (hj : j ≤ 4096) :
    |(quarterAngle j : ℝ) - 2 ^ 80 * (Real.pi * j / 8192)| ≤ 2 ^ 14 := by
  have near := piFixed_near
  have most : (j : ℝ) ≤ 4096 := by exact_mod_cast hj
  have cut : |(quarterAngle j : ℝ) - piFixed * j / 8192| ≤ 1 := by
    have up : (quarterAngle j : ℝ) ≤ ((piFixed * j : Nat) : ℝ) / (8192 : Nat) := Nat.cast_div_le
    have down : ((piFixed * j : Nat) : ℝ) < (quarterAngle j * 8192 + 8192 : Nat) := by
      exact_mod_cast Nat.lt_div_mul_add (by norm_num)
    push_cast at up down
    rw [abs_le]
    constructor <;> linarith
  have scaled : |(piFixed : ℝ) * j / 8192 - 2 ^ 80 * (Real.pi * j / 8192)| ≤ 2 ^ 13 := by
    have factored : (piFixed : ℝ) * j / 8192 - 2 ^ 80 * (Real.pi * j / 8192) =
        (piFixed - 2 ^ 80 * Real.pi) * (j / 8192) := by ring
    rw [factored, abs_mul, abs_of_nonneg (a := (j : ℝ) / 8192) (by positivity)]
    calc |(piFixed : ℝ) - 2 ^ 80 * Real.pi| * ((j : ℝ) / 8192) ≤ 2 ^ 14 * (4096 / 8192) := by gcongr
      _ = 2 ^ 13 := by norm_num
  calc |(quarterAngle j : ℝ) - 2 ^ 80 * (Real.pi * j / 8192)|
      ≤ |(quarterAngle j : ℝ) - piFixed * j / 8192| + |(piFixed : ℝ) * j / 8192 - 2 ^ 80 * (Real.pi * j / 8192)| :=
        abs_sub_le _ _ _
    _ ≤ 1 + 2 ^ 13 := add_le_add cut scaled
    _ ≤ 2 ^ 14 := by norm_num

/-- The series at the angle of entry `j`, times 2^80. -/
def quarterSeries (j : Nat) : Int :=
  sineSeries 14 1 (quarterAngle j) (quarterAngle j * quarterAngle j / 2 ^ 80) false (quarterAngle j)

theorem quarterSine_eq (j : Nat) : quarterSine j = (65534 * quarterSeries j + 2 ^ 80) / 2 ^ 81 := rfl

theorem quarterSeries_near {j : Nat} (hj : j ≤ 4096) :
    |(quarterSeries j : ℝ) - 2 ^ 80 * Real.sin (Real.pi * j / 8192)| ≤ 2 ^ 15 := by
  have inRange : quarterAngle j ≤ 2 ^ 81 := by
    unfold quarterAngle piFixed
    omega
  have series : |(quarterSeries j : ℝ) - 2 ^ 80 * Real.sin ((quarterAngle j : ℝ) / 2 ^ 80)| ≤ 2 ^ 10 :=
    sineSeries_near _ inRange
  have angle : |2 ^ 80 * Real.sin ((quarterAngle j : ℝ) / 2 ^ 80) - 2 ^ 80 * Real.sin (Real.pi * j / 8192)| ≤ 2 ^ 14 := by
    have scale : |(2 : ℝ) ^ 80| = 2 ^ 80 := abs_of_nonneg (by positivity)
    have factored : (quarterAngle j : ℝ) - 2 ^ 80 * (Real.pi * j / 8192) =
        2 ^ 80 * ((quarterAngle j : ℝ) / 2 ^ 80 - Real.pi * j / 8192) := by ring
    have near := quarterAngle_near hj
    rw [factored, abs_mul, scale] at near
    rw [← mul_sub, abs_mul, scale]
    exact (mul_le_mul_of_nonneg_left (Real.abs_sin_sub_sin_le _ _) (by positivity)).trans near
  calc |(quarterSeries j : ℝ) - 2 ^ 80 * Real.sin (Real.pi * j / 8192)| ≤ 2 ^ 10 + 2 ^ 14 :=
        (abs_sub_le _ _ _).trans (add_le_add series angle)
    _ ≤ 2 ^ 15 := by norm_num

/-- Entry `j`, before it is rounded, lies off a half by more than the series' error. -/
def offHalf (j : Nat) : Bool :=
  let x := (65534 * quarterSeries j + 2 ^ 80) % 2 ^ 81
  decide (2 ^ 32 ≤ x) && decide (x ≤ 2 ^ 81 - 2 ^ 32)

/-- No general fact keeps a sine off a half: the 4,097 entries of the first quarter are computed (log 18). -/
theorem offHalf_firstQuarter : (List.range 4097).all offHalf = true := by decide +kernel

theorem quarterSine_near {j : Nat} (hj : j ≤ 4096) :
    |32767 * Real.sin (Real.pi * j / 8192) - quarterSine j| < 1 / 2 := by
  have off := List.all_eq_true.1 offHalf_firstQuarter j (List.mem_range.2 (Nat.lt_succ_of_le hj))
  have near := quarterSeries_near hj
  unfold offHalf at off
  simp only [Bool.and_eq_true, decide_eq_true_eq] at off
  obtain ⟨low, high⟩ := off
  set v := 65534 * quarterSeries j + 2 ^ 80 with hv
  have parts : v = 2 ^ 81 * quarterSine j + v % 2 ^ 81 := (Int.mul_ediv_add_emod v _).symm
  set r := v % 2 ^ 81
  set y := Real.sin (Real.pi * j / 8192)
  have low' : (2 : ℝ) ^ 32 ≤ r := by exact_mod_cast low
  have high' : (r : ℝ) ≤ 2 ^ 81 - 2 ^ 32 := by exact_mod_cast high
  have scaled : 65534 * (quarterSeries j : ℝ) + 2 ^ 80 = 2 ^ 81 * quarterSine j + r := by exact_mod_cast hv.symm.trans parts
  rw [abs_le] at near
  obtain ⟨down, up⟩ := near
  rw [abs_lt]
  norm_num at low' high' scaled down up ⊢
  constructor <;> linarith

/-- Entry `j` of quarter `k` of the table. -/
theorem sineEntry_quarter (k : Nat) {j : Nat} (hj : j < 4096) :
    sineEntry (4096 * k + j) =
      match k % 4 with
      | 0 => quarterSine j
      | 1 => quarterSine (4096 - j)
      | 2 => -quarterSine j
      | _ => -quarterSine (4096 - j) := by
  have place : (4096 * k + j) % 4096 = j := by omega
  have quarter : (4096 * k + j) / 4096 = k := by omega
  unfold sineEntry
  rw [place, quarter] <;> rfl

theorem quarterSine_near_cos {j : Nat} (hj : j ≤ 4096) :
    |32767 * Real.cos (Real.pi * j / 8192) - quarterSine (4096 - j)| < 1 / 2 := by
  have mirrored : Real.pi * (4096 - j : Nat) / 8192 = Real.pi / 2 - Real.pi * j / 8192 := by
    rw [Nat.cast_sub hj]
    push_cast
    ring
  rw [← Real.sin_pi_div_two_sub, ← mirrored]
  exact quarterSine_near (Nat.sub_le _ _)

/-- Every entry lies within a half of the value it rounds (R70). -/
theorem sineEntry_near {i : Nat} (hi : i < 16384) :
    |32767 * Real.sin (2 * Real.pi * i / 16384) - sineEntry i| < 1 / 2 := by
  obtain ⟨k, j, hj, rfl⟩ : ∃ k j, j < 4096 ∧ i = 4096 * k + j := ⟨i / 4096, i % 4096, by omega, by omega⟩
  have angle : 2 * Real.pi * (4096 * k + j : Nat) / 16384 = Real.pi * j / 8192 + k * (Real.pi / 2) := by
    push_cast
    ring
  rw [angle, sineEntry_quarter k hj]
  have sine := quarterSine_near hj.le
  have cosine := quarterSine_near_cos hj.le
  set x := Real.pi * j / 8192
  have quarters : k < 4 := by omega
  interval_cases k
  · rw [Nat.cast_zero, zero_mul, add_zero]
    exact sine
  · rw [Nat.cast_one, one_mul, Real.sin_add_pi_div_two]
    exact cosine
  · rw [Nat.cast_ofNat, mul_div_cancel₀ _ (by norm_num), Real.sin_add_pi, mul_neg]
    show |_ - ((-quarterSine j : Int) : ℝ)| < _
    rw [Int.cast_neg, neg_sub_neg, abs_sub_comm]
    exact sine
  · have turn : x + (3 : Nat) * (Real.pi / 2) = x + Real.pi / 2 + Real.pi := by
      push_cast
      ring
    rw [turn, Real.sin_add_pi, Real.sin_add_pi_div_two, mul_neg]
    show |_ - ((-quarterSine (4096 - j) : Int) : ℝ)| < _
    rw [Int.cast_neg, neg_sub_neg, abs_sub_comm]
    exact cosine

theorem floor_add_half_of_near {x : ℝ} {n : Int} (near : |x - n| < 1 / 2) : ⌊x + 1 / 2⌋ = n := by
  rw [abs_lt] at near
  obtain ⟨low, high⟩ := near
  rw [Int.floor_eq_iff]
  constructor <;> linarith

/-! ### Increments (R69) -/

theorem incrementOf_toNat {f : Nat} (most : f ≤ 4000000) :
    (incrementOf f).toNat = (2 * f * 2 ^ 32 + 9600000) / (2 * 9600000) := by
  unfold incrementOf roundHalfUp
  rw [BitVec.toNat_ofNat, Nat.mod_eq_of_lt (by omega), Nat.mul_assoc]

/-- Settles O56, one clause from each part above. -/
theorem levelsAmplitudesIncrements : Obligations.LevelsAmplitudesIncrements := by
  refine ⟨fun p q lo hi hp hq le fits => ?_, fun q lo hi => if_pos rfl, fun d _ nonpos => amplitudeOf_eq nonpos,
    fun f _ most => incrementOf_toNat most, fun i hi => (floor_add_half_of_near (sineEntry_near hi)).symm⟩
  have found : levelOf p q lo hi = largestFrom (levelAtLeast p q) 16 lo hi := if_neg hp.ne'
  rw [found]
  exact largestFrom_eq 16 le fits fun r _ _ => levelAtLeast_iff hp hq r

end Sys2Proof.Machine
end

section
/-! A settle detector's block judged in SETTLE (O20). -/

namespace Sys2Proof.Machine

section Block
variable {s : State} {n : Nest} {st : Step}

/-- The test of a nest in SETTLE is the test of its step. -/
theorem Sequencer.settleTest_settle {q : Sequencer} (settle : q.state = .settle) (step : q.step = some st) :
    q.settleTest = Sys2Proof.Machine.settleTest st q.settleElapsed q.settledSeen := by
  unfold Sequencer.settleTest
  rw [settle, step]

/-- A substituted block leaves no pair and no reference (R109). -/
theorem Detector.compare_substituted {d : Detector} (h : d.substituted = true) (b : Int) : d.compare b = (0, none) :=
  if_pos h

/-- A block with no block before it to compare with is the reference (R108). -/
theorem Detector.compare_first {d : Detector} (h : d.substituted = false) (first : d.reference = none) (b : Int) :
    d.compare b = (d.pairs, some b) := by
  unfold Detector.compare
  rw [h, first]
  rfl

/-- A block compared with the reference (R108). -/
theorem Detector.compare_pair {d : Detector} {r : Int} (h : d.substituted = false) (ref : d.reference = some r) (b : Int) :
    d.compare b = (if (b - r).natAbs ≤ d.tolerance then d.pairs + 1 else 0, some b) := by
  unfold Detector.compare
  rw [h, ref]
  rfl

theorem settleBlockEnd_nest (s : State) (n : Nest) :
    (s.settleBlockEnd n).nest n =
      { s.nest n with settledSeen := (s.nest n).settledSeen || (s.analyser.detector.get n).blockEnd.reported } :=
  State.nest_modNest _ n _

/-- The event at the 240th frame of a block: the block judged, then the dwell rule and the cap. -/
theorem exec_settleBlockEnd (settle : (s.nest n).state = .settle)
    (complete : (s.analyser.detector.get n).position = 240) :
    exec (.settleBlockEnd n) s = .next (State.withVerdict n ((s.settleBlockEnd n).testSettle n)) :=
  congrArg Host.Outcome.next (if_pos ⟨settle, complete⟩)

/-- The lanes asked for: the nest keeps what it saw of its detector, and waits for lanes, for the guard, or measures. -/
theorem requestLanes_nest (step : (s.nest n).step = some st) :
    ((s.requestLanes n).nest n).settledSeen = (s.nest n).settledSeen ∧
      (((s.requestLanes n).nest n).state = .waitLanes ∨ ((s.requestLanes n).nest n).state = .guardWait ∨
        ((s.requestLanes n).nest n).state = .window) := by
  have granted := lanesGranted_requestLanes step
  have kept := congrArg Sequencer.settledSeen (granted.nest n)
  have moved := granted.states n
  rw [asked_nest] at kept moved
  exact ⟨kept, moved⟩

end Block

/-- Settles O20: the block judged by its three cases, then one clause for each answer of the dwell test. -/
theorem settleBlockJudged : Obligations.SettleBlockJudged := by
  intro s n st settle step complete d level pairs reported seen judged
  have compared : d.compare level = (pairs, if d.substituted then none else some level) := by
    cases substituted : d.substituted with
    | true => simp only [pairs, d.compare_substituted substituted, substituted, if_true]
    | false =>
      cases reference : d.reference with
      | none => simp only [pairs, d.compare_first substituted reference, substituted, reference, Bool.false_eq_true, if_false]
      | some r => simp only [pairs, d.compare_pair substituted reference, substituted, reference, Bool.false_eq_true, if_false]
  have blockEnd : s.settleBlockEnd n = judged := by
    unfold State.settleBlockEnd Detector.blockEnd
    rw [show (s.analyser.detector.get n).compare _ = _ from compared]
    rfl
  have nest : judged.nest n = { s.nest n with settledSeen := seen } := State.nest_setNest _ n _
  have own : (judged.nest n).step = some st := by rw [nest]; exact step
  have tested : (judged.nest n).settleTest = settleTest st (s.nest n).settleElapsed seen := by
    rw [Sequencer.settleTest_settle (by rw [nest]; exact settle) own, nest]
  rw [exec_settleBlockEnd settle complete, blockEnd]
  unfold State.testSettle
  rw [tested]
  refine ⟨fun waits => ?_, fun settled => ?_, fun id unsettled hid inTable => ?_⟩
  · rw [waits]
    rfl
  · rw [settled]
    obtain ⟨kept, state⟩ := requestLanes_nest own
    have moves : Moves s judged := blockEnd ▸ moves_settleBlockEnd s n
    exact ⟨_, rfl, ((moves_requestLanes judged n).after moves).keepsLink, kept.trans (congrArg Sequencer.settledSeen nest),
      state⟩
  · rw [unsettled]
    exact ⟨_, rfl, unsettledEnd_finishStep (by rw [nest]; exact hid) own inTable⟩

end Sys2Proof.Machine
end

section
/-! Judging a step: its levels, its margins, and its outcome by priority (O24). -/

namespace Sys2Proof.Machine

/-! ### Levels and ratios (R95 to R99) -/

theorem clamp_eq_max_min {lo hi : Int} (ordered : lo ≤ hi) (x : Int) : clamp lo hi x = max lo (min hi x) := by
  unfold clamp
  split
  · omega
  · split <;> omega

/-- A ratio is absent exactly where no lane has its role (R99). -/
theorem ratioLevel_eq_none_iff (ls : List Assignment) (r : LaneRole) :
    ratioLevel ls r = none ↔ ∀ l ∈ ls, l.role ≠ r := by
  have lanes : ls.any (fun l => decide (l.role = r)) = true ↔ ∃ l ∈ ls, l.role = r := by simp
  unfold ratioLevel
  split
  · rename_i held
    obtain ⟨l, mem, role⟩ := lanes.1 held
    refine iff_of_false ?_ fun noLane => noLane l mem role
    split <;> nofun
  · rename_i unheld
    exact iff_of_true rfl fun l mem role => unheld (lanes.2 ⟨l, mem, role⟩)

/-- The value of a ratio that is present (R98). -/
theorem ratioLevel_eq_some {ls : List Assignment} {r : LaneRole} {v : Int} (present : ratioLevel ls r = some v) :
    v = if rolePower ls .fundamental = 0 then 3000
      else levelOf (rolePower ls r) (rolePower ls .fundamental) (-14000) 3000 := by
  unfold ratioLevel at present
  split at present
  · split at present <;> rename_i silent
    · rw [if_pos silent]
      exact (Option.some.inj present).symm
    · rw [if_neg silent]
      exact (Option.some.inj present).symm
  · cases present

/-! ### Margins (R103) -/

theorem upperMargin_some (b v : Int) : upperMargin (some b) (some v) = some (b - v) := rfl

theorem upperMargin_absent {bound value : Option Int} (absent : bound = none ∨ value = none) :
    upperMargin bound value = none := by
  rcases absent with rfl | rfl
  · rfl
  · cases bound <;> rfl

theorem any_present_iff (m : Option Int) (p : Int → Prop) [DecidablePred p] :
    m.any (fun v => decide (p v)) = true ↔ ∃ v, m = some v ∧ p v := by
  simp only [Option.any_eq_true, decide_eq_true_eq]

theorem negative_iff (m : Option Int) : negative m = true ↔ ∃ v, m = some v ∧ v < 0 := any_present_iff m _

/-- The smaller of two margins is negative where one of them is. -/
theorem negative_minPresent (a b : Option Int) : negative (minPresent a b) = (negative a || negative b) := by
  cases a with
  | none => rfl
  | some x =>
    cases b with
    | none => exact (Bool.or_false _).symm
    | some y =>
      show decide ((if y < x then y else x) < 0) = (decide (x < 0) || decide (y < 0))
      rw [← Bool.decide_or]
      refine decide_eq_decide.2 ?_
      split <;> omega

/-- A margin to a bound is negative where the bound is violated. -/
theorem negative_lowerMargin (bound : Option Int) (level : Int) :
    negative (bound.map fun b => level - b) = bound.any fun b => decide (level < b) := by
  cases bound <;> simp [negative]

theorem negative_higherMargin (bound : Option Int) (level : Int) :
    negative (bound.map fun b => b - level) = bound.any fun b => decide (b < level) := by
  cases bound <;> simp [negative]

/-! ### The outcome (R104) -/

section Outcome
variable {lim : Limits} {level : Int} {thd hoh : Option Int}

theorem judgeStep_overload (silent : Bool) : judgeStep true silent lim level thd hoh = .overload := rfl

theorem judgeStep_silent : judgeStep false true lim level thd hoh = .noResponse := rfl

theorem judgeStep_rub (rub : negative hoh = true) : judgeStep false false lim level thd hoh = .rub := if_pos rub

theorem judgeStep_thd (rub : ¬ negative hoh = true) (distorted : negative thd = true) :
    judgeStep false false lim level thd hoh = .thd := (if_neg rub).trans (if_pos distorted)

/-- With no distortion to report the level decides. -/
theorem judgeStep_level (rub : ¬ negative hoh = true) (distorted : ¬ negative thd = true) :
    judgeStep false false lim level thd hoh =
      if lim.lower.any (fun b => decide (level < b)) then .low
      else if lim.upper.any (fun b => decide (b < level)) then .high else .pass :=
  (if_neg rub).trans (if_neg distorted)

/-- PASS is the outcome of a step with nothing wrong, a margin of zero included. -/
theorem judgeStep_eq_pass_iff (overload silent : Bool) :
    judgeStep overload silent lim level thd hoh = .pass ↔
      overload = false ∧ silent = false ∧ ¬ negative hoh = true ∧ ¬ negative thd = true ∧
        ¬ negative (minPresent (lim.lower.map fun b => level - b) (lim.upper.map fun b => b - level)) = true := by
  cases overload with
  | true => simp [judgeStep_overload]
  | false =>
    cases silent with
    | true => simp [judgeStep_silent]
    | false =>
      by_cases rub : negative hoh = true
      · simp [judgeStep_rub rub, rub]
      by_cases distorted : negative thd = true
      · simp [judgeStep_thd rub distorted, distorted]
      rw [judgeStep_level rub distorted, negative_minPresent, negative_lowerMargin, negative_higherMargin]
      split
      · simp [*]
      split <;> simp [*]

end Outcome

/-- Settles O24: levels, margins and outcome, each by the lemma of its rule. -/
theorem stepIsJudged : Obligations.StepIsJudged := by
  intro ls overload cal n id i retries st lim r power p1 silent ratio raw below
  have clamped := clamp_eq_max_min (show (-20000 : Int) ≤ 20000 by decide) (raw + cal)
  set level := clamp (-20000) 20000 (raw + cal)
  have outcome : r.outcome = judgeStep overload (decide (p1 = 0)) lim level r.thdMargin r.hohMargin := rfl
  have belowIff : ∀ m, below m ↔ negative m = true := fun m => (negative_iff m).symm
  have sounds : ¬ silent → decide (p1 = 0) = false := decide_eq_false
  simp only [belowIff, ← any_present_iff, outcome]
  refine ⟨level, rfl, by omega, by omega, clamped, ratioLevel_eq_none_iff ls .thd, ratioLevel_eq_none_iff ls .hoh,
    fun v => ratioLevel_eq_some, fun v => ratioLevel_eq_some, fun b v bound value => ?_, fun b v bound value => ?_,
    upperMargin_absent, upperMargin_absent, fun lower upper => ?_, rfl, rfl, fun loaded => ?_, fun within quiet => ?_,
    fun within loud rub => ?_, fun within loud rub distorted => ?_, fun within loud rub distorted low => ?_,
    fun within loud rub distorted low high => ?_, fun a b _ _ ordered => by omega, ?_, rfl⟩
  · exact (congrArg₂ upperMargin bound value).trans (upperMargin_some b v)
  · exact (congrArg₂ upperMargin bound value).trans (upperMargin_some b v)
  · show minPresent (lim.lower.map _) (lim.upper.map _) = none
    rw [lower, upper]
    rfl
  · rw [loaded, judgeStep_overload]
  · rw [within, decide_eq_true quiet, judgeStep_silent]
  · rw [within, sounds loud, judgeStep_rub rub]
  · rw [within, sounds loud, judgeStep_thd rub distorted]
  · rw [within, sounds loud, judgeStep_level rub distorted, if_pos low]
  · rw [within, sounds loud, judgeStep_level rub distorted, if_neg low, if_pos high]
  · rw [judgeStep_eq_pass_iff, decide_eq_false_iff_not]
    rfl

end Sys2Proof.Machine
end

section
/-! The settings and counters of the analyser, the guard and the yield block: SET CALIBRATION, CLEAR COUNTS and SET YIELD's
Q byte of 0xFF (O46), and the reads (O54). -/

namespace Sys2Proof.Machine

/-! ### SET CALIBRATION -/

theorem actSetCalibration_outside {ops : List Byte}
    (outside : Nest.ofNum (fieldAt ops 0 1) = none ∨ signedAt ops 1 2 < -20000 ∨ 20000 < signedAt ops 1 2) (s : State) :
    actSetCalibration ops s = refuse .range [] s := by
  unfold actSetCalibration
  cases nest : Nest.ofNum (fieldAt ops 0 1) with
  | none => rfl
  | some n =>
    have range := outside.resolve_left (by rw [nest]; nofun)
    exact if_pos (by omega)

theorem actSetCalibration_within {ops : List Byte} {n : Nest} (nest : Nest.ofNum (fieldAt ops 0 1) = some n)
    (low : -20000 ≤ signedAt ops 1 2) (high : signedAt ops 1 2 ≤ 20000) (s : State) :
    actSetCalibration ops s =
      ({ s with analyser := { s.analyser with calibration := s.analyser.calibration.set n (signedAt ops 1 2) } },
        .done []) := by
  unfold actSetCalibration
  rw [nest]
  exact if_neg (not_not.2 ⟨low, high⟩)

/-! ### SET YIELD -/

/-- A field out of its range is refused by its position (R172). -/
theorem actSetYield_fieldBad {ops : List Byte} {i : Nat}
    (bad : yieldFieldBad (fieldAt ops 0 2) (fieldAt ops 2 2) (fieldAt ops 4 1) = some i) (s : State) :
    actSetYield ops s = refuse .range (toBytes 1 i) s := by
  unfold actSetYield
  dsimp only
  rw [bad]

/-- With W and L in range a Q byte of 0xFF is the first field out of its range (log 38). -/
theorem yieldFieldBad_absentLevel {w l : Nat} (low : 16 ≤ w) (high : w ≤ 1024) (hold : l ≤ w) :
    yieldFieldBad w l 255 = some 2 := by
  unfold yieldFieldBad
  rw [if_neg (not_not.2 ⟨low, high⟩), if_neg (not_not.2 hold), if_pos le_rfl]

/-- Settles O46, one command after the other. -/
theorem setCalibrationAndClearCounts : Obligations.SetCalibrationAndClearCounts := by
  refine ⟨fun s tag ops rest takes length => ⟨fun outside => ?_, fun n nest low high => ?_⟩,
    fun s tag rest takes => ?_, fun s tag ops rest takes length absent low high hold => ?_⟩
  · exact congrArg _ (takeCommand_refused takes (operands_length length) (actSetCalibration_outside outside _))
  · exact congrArg _ (takeCommand_done takes (operands_length length) (actSetCalibration_within nest low high _))
  · exact congrArg _ (takeCommand_done takes (operands_length (n := 0) rfl) rfl)
  · refine congrArg _ (takeCommand_refused takes (operands_length length) ?_)
    exact actSetYield_fieldBad (by rw [absent]; exact yieldFieldBad_absentLevel low high hold) _

/-! ### The reads -/

/-- Settles O54: each read answers its fields from the state with its cell gone. -/
theorem settingsAndCountsRead : Obligations.SettingsAndCountsRead := by
  intro s tag rest
  have none : operands 0 [] = true := rfl
  refine ⟨fun takes => ?_, fun takes => ?_, fun takes => ?_⟩
  · exact congrArg _ (takeCommand_done takes none rfl)
  · exact congrArg _ (takeCommand_done takes none rfl)
  · exact congrArg _ (takeCommand_done takes none rfl)

end Sys2Proof.Machine
end

section
/-! The return to QUIET in any state (R115, R119), and SET GUARD (O16). -/

namespace Sys2Proof.Machine

/-! ### The return to QUIET -/

section Quiet
variable (s : State) (c : GuardCauses)

/-- A return to QUIET as its parts: the guard's change, the entries to WINDOW, the notice. -/
theorem becomeQuiet_eq :
    ∃ ns : List Nest, (∀ n, n ∈ ns ↔ (s.nest n).state = .guardWait) ∧
      s.becomeQuiet c =
        (ns.foldl State.enterWindow { s with guard := { s.guard.clearHold with loud := false, holdDue := false } }).notice
          (.guard false s.link.frameIndex c none s.guard.loudEntries) := by
  set s1 : State := { s with guard := { s.guard.clearHold with loud := false, holdDue := false } } with hs1
  refine ⟨s1.freeOrder s1.waitingForQuiet, fun n => mem_waitingForQuiet, ?_⟩
  obtain ⟨-, -, -, -, guard, -, link⟩ := enterWindows_rest s1 (s1.freeOrder s1.waitingForQuiet)
  unfold State.becomeQuiet
  dsimp only
  rw [← hs1, link, guard]
  rfl

theorem becomeQuiet_guard : (s.becomeQuiet c).guard = { s.guard.clearHold with loud := false, holdDue := false } := by
  obtain ⟨ns, -, quiet⟩ := becomeQuiet_eq s c
  rw [quiet, State.notice_guard]
  exact (enterWindows_rest _ ns).2.2.2.2.1

theorem becomeQuiet_port :
    (s.becomeQuiet c).port = s.port.notice (.guard false s.link.frameIndex c none s.guard.loudEntries) := by
  obtain ⟨ns, -, quiet⟩ := becomeQuiet_eq s c
  rw [quiet]
  exact congrArg (fun p => Port.notice p _) (enterWindows_rest _ ns).2.2.2.2.2.1

theorem becomeQuiet_nest (n : Nest) :
    (s.becomeQuiet c).nest n =
      if (s.nest n).state = .guardWait then { s.nest n with state := .window, windowCount := 0 } else s.nest n := by
  obtain ⟨ns, waits, quiet⟩ := becomeQuiet_eq s c
  rw [quiet, State.notice_nest, enterWindows_nest]
  simp only [waits]
  rfl

end Quiet

/-! ### The settings that SET GUARD carries -/

/-- The five settings in a command's operands (R117, R218). -/
def guardSettings (ops : List Byte) : GuardSettings :=
  ⟨decide (fieldAt ops 0 1 = 1), signedAt ops 1 2, signedAt ops 3 2,
    if fieldAt ops 5 4 = 0 then none else some (fieldAt ops 5 4), fieldAt ops 9 2⟩

theorem withSettings_guardSettings (g : Guard) (ops : List Byte) : g.withSettings (guardSettings ops) = guardWith g ops := rfl

/-- A yes/no byte is 0 or 1 (R218). -/
theorem yesNo_eq (b : Nat) : yesNo b = if 1 < b then none else some (decide (b = 1)) := by
  match b with
  | 0 => rfl
  | 1 => rfl
  | b + 2 => exact (if_pos (by omega)).symm

/-- The checks of R117 in their order: the first field at fault, or the settings. -/
theorem ofBytes_eq (ops : List Byte) :
    GuardSettings.ofBytes ops = (guardFault ops).elim (.ok (guardSettings ops)) .error := by
  unfold GuardSettings.ofBytes guardFault guardSettings
  rw [yesNo_eq]
  by_cases enable : 1 < fieldAt ops 0 1
  · rw [if_pos enable, if_pos enable]
    rfl
  · rw [if_neg enable, if_neg enable]
    simp only [not_and_or, not_le, decide_eq_true_eq]
    split_ifs <;> rfl

/-- The hold so far was not quiet by the new values (R117). -/
theorem holdBroken_guardWith (g : Guard) (ops : List Byte) :
    (guardWith g ops).holdBroken = true ↔
      (fieldAt ops 5 4 ≠ 0 ∧ fieldAt ops 5 4 < g.peakSince) ∨
        ∃ b, g.loudestSince = some b ∧ signedAt ops 1 2 - signedAt ops 3 2 < b := by
  unfold Guard.holdBroken guardWith
  rw [Bool.or_eq_true, Option.any_eq_true, Option.any_eq_true]
  simp only [decide_eq_true_eq]
  by_cases off : fieldAt ops 5 4 = 0
  · simp [off]
  · simp [off]

/-! ### SET GUARD -/

/-- Accepted settings by the table of R117. -/
theorem setGuard_eq (s : State) (ops : List Byte) :
    s.setGuard (guardSettings ops) =
      if s.guard.loud = false then { s with guard := guardWith s.guard ops }
      else if fieldAt ops 0 1 ≠ 1 then
        (({ s with guard := guardWith s.guard ops } : State).becomeQuiet ⟨false, false, false, false, true⟩).spend
      else if (guardWith s.guard ops).holdBroken then { s with guard := (guardWith s.guard ops).clearHold }
      else { s with guard := guardWith s.guard ops } := by
  have disabled : (guardSettings ops).enable = false ↔ fieldAt ops 0 1 ≠ 1 := decide_eq_false_iff_not
  unfold State.setGuard
  simp only [withSettings_guardSettings, disabled]
  rfl

@[simp] theorem State.taken_guard (s : State) (rest : List CommandCell) : (s.taken rest).guard = s.guard := rfl

theorem State.done_port_congr {s t : State} (h : t.port = s.port) (tag code : Byte) (data : List Byte) :
    (t.done tag code data).port = (s.done tag code data).port := by
  unfold State.done State.reply
  rw [h]

section Taken
variable {s : State} {tag : Byte} {ops : List Byte} {rest : List CommandCell} (takes : s.takes tag 0x38 ops rest)
  (length : ops.length = 11)
include takes length

theorem exec_setGuard_refused {i : Nat} (bad : guardFault ops = some i) :
    exec .setGuard s = .next ((s.taken rest).refusal tag 0x38 .range (toBytes 1 i)) := by
  refine congrArg _ (takeCommand_refused takes (operands_length length) ?_)
  unfold actSetGuard
  rw [ofBytes_eq, bad]
  rfl

theorem exec_setGuard_accepted (good : guardFault ops = none) :
    exec .setGuard s = .next (((s.taken rest).setGuard (guardSettings ops)).done tag 0x38 []) := by
  refine congrArg _ (takeCommand_done takes (operands_length length) ?_)
  unfold actSetGuard
  rw [ofBytes_eq, good]
  rfl

end Taken

/-- Settles O16: the checks by `ofBytes_eq`, and the table of R117 by `setGuard_eq`. -/
theorem setGuard : Obligations.SetGuard := by
  intro s tag ops rest takes length enable threshold hysteresis peak bad g broken
  have table := setGuard_eq (s.taken rest) ops
  rw [State.taken_guard] at table
  have quiet : (guardWith s.guard ops).holdBroken = true ↔ broken := holdBroken_guardWith s.guard ops
  refine ⟨fun i fault => exec_setGuard_refused takes length fault, fun good stays => ?_, fun good loud on restarts => ?_,
    fun good loud off => ?_⟩
  all_goals rw [exec_setGuard_accepted takes length good, table]
  · rcases stays with silent | ⟨on, unbroken⟩
    · rw [if_pos silent]
    · rw [if_neg (not_not.2 on), if_neg (mt quiet.1 unbroken), ite_self]
  · rw [if_neg (ne_false_of_eq_true loud), if_neg (not_not.2 on), if_pos (quiet.2 restarts)]
    rfl
  · rw [if_neg (ne_false_of_eq_true loud), if_pos fun on => absurd (off.symm.trans on) (by decide)]
    set d : State := { s.taken rest with guard := g }
    set causes : GuardCauses := ⟨false, false, false, false, true⟩
    exact ⟨(d.becomeQuiet causes).spend.done tag 0x38 [], rfl, becomeQuiet_guard d causes, becomeQuiet_nest d causes,
      State.done_port_congr (becomeQuiet_port d causes) tag 0x38 []⟩

end Sys2Proof.Machine
end

section
/-! What the guard's entry and a frame's verdicts leave of the guard and, where no deadline has run out, of the nests. (For a
completed guard block, O14.) -/

namespace Sys2Proof.Machine

/-! ### The blocks that the guard's entry reaches -/

section Hands
variable (s : State)

theorem HandsOn.guard {s t : State} (h : HandsOn s t) : t.guard = s.guard := by rw [h.rest]

theorem handsOn_grantCheck : HandsOn s s.grantCheck := (handsOn_grantHeads s _).1

theorem handsOn_requestLanes (n : Nest) : HandsOn s (s.requestLanes n) := by
  cases step : (s.nest n).step with
  | none =>
    unfold State.requestLanes
    rw [step]
    exact .refl s
  | some st =>
    rw [requestLanes_eq step]
    exact (handsOn_grantCheck (s.asked n st)).after (.of_eq rfl rfl)

theorem handsOn_releaseLanes (n : Nest) : HandsOn s (s.releaseLanes n) :=
  (handsOn_grantCheck (s.modAnalyser fun a => a.release n)).after (.of_eq rfl rfl)

theorem handsOn_spoil (n : Nest) (c : UnitClass) : HandsOn s (s.spoil n c).1 := by
  have back : HandsOn s ((s.releaseLanes n).voidCapture n) := HandsOn.after (.of_eq rfl rfl) (handsOn_releaseLanes s n)
  unfold State.spoil
  dsimp only
  split
  · exact (handsOn_requestLanes _ n).after (HandsOn.after (.of_eq rfl rfl) back)
  · exact back

theorem handsOn_backToGuardWait (n : Nest) : HandsOn s (s.backToGuardWait n) := .of_eq rfl rfl

theorem handsOn_entryAt (t : Turn) (n : Nest) : HandsOn t.state (t.entryAt n).state := by
  unfold Turn.entryAt
  dsimp only
  split
  · exact .refl _
  · split
    · exact .refl _
    · split
      · split
        · exact handsOn_backToGuardWait _ n
        · exact handsOn_spoil _ n _
      · split
        · exact handsOn_spoil _ n _
        · exact .refl _
      · exact .refl _

theorem handsOn_entries (ns : List Nest) (t : Turn) : HandsOn t.state (ns.foldl Turn.entryAt t).state := by
  induction ns generalizing t with
  | nil => exact .refl _
  | cons n ns ih => exact (ih _).after (handsOn_entryAt t n)

theorem entryAt_notice (t : Turn) (n : Nest) : (t.entryAt n).notice = t.notice := by
  unfold Turn.entryAt
  dsimp only
  split
  · rfl
  · split
    · rfl
    · split
      · split <;> rfl
      · split <;> rfl
      · rfl

theorem entries_notice (ns : List Nest) (t : Turn) : (ns.foldl Turn.entryAt t).notice = t.notice := by
  induction ns generalizing t with
  | nil => rfl
  | cons n ns ih => exact (ih _).trans (entryAt_notice t n)

end Hands

/-! ### The frame's verdicts -/

section Verdicts
variable {s : State} {n : Nest}

theorem verdict_guard (s : State) (n : Nest) (e : Ending) : (s.verdict n e).guard = s.guard := by
  have judged : s.verdict n e = (s.stopped n).recordVerdict n e.unitClass := rfl
  rw [judged, recordVerdict_eq, stopped_eq]

theorem verdict_capture (s : State) (n : Nest) (e : Ending) : (s.verdict n e).capture = s.capture := by
  have judged : s.verdict n e = (s.stopped n).recordVerdict n e.unitClass := rfl
  rw [judged, recordVerdict_eq, stopped_eq]

theorem judge_guard (t : Turn) (n : Nest) (s : State) : (t.judge n s).guard = s.guard := by
  unfold Turn.judge
  split
  · exact verdict_guard s n _
  · unfold State.expire
    split
    · exact (verdict_guard _ n _).trans (lanesGranted_giveBack s n).hands.guard
    · rfl

/-- The verdicts in nest order, then the notice of an entry to LOUD. -/
theorem finish_eq (t : Turn) :
    t.finish = t.notice.elim (t.judgeEach Nest.order t.state) (t.judgeEach Nest.order t.state).notice := by
  unfold Turn.finish
  cases t.notice <;> rfl

theorem judgeEach_guard (t : Turn) (ns : List Nest) (s : State) : (t.judgeEach ns s).guard = s.guard := by
  induction ns generalizing s with
  | nil => rfl
  | cons n ns ih => exact (ih _).trans (judge_guard t n s)

/-- A frame's verdicts leave the guard as it is. -/
theorem finish_guard (t : Turn) : t.finish.guard = t.state.guard := by
  rw [finish_eq]
  cases t.notice with
  | none => exact judgeEach_guard t _ _
  | some x => exact judgeEach_guard t _ _

/-- The nest's deadline has not run out. -/
def Sequencer.Alive (q : Sequencer) : Prop := q.state.running = true → q.deadlineRunning = true → q.deadline ≠ 0

theorem expire_of_alive (alive : (s.nest n).Alive) : s.expire n = s :=
  if_neg fun ⟨running, counting, zero⟩ => alive running counting zero

theorem judge_of_alive {t : Turn} (none : t.endings.get n = none) (alive : (s.nest n).Alive) : t.judge n s = s := by
  unfold Turn.judge
  rw [none]
  exact expire_of_alive alive

/-- The verdicts of a frame on which no deadline runs out. -/
theorem judgeEach_alive (t : Turn) (ns : List Nest) (alive : ∀ n, (s.nest n).Alive) :
    (t.judgeEach ns s).capture = s.capture ∧
      ∀ n, t.endings.get n = none → (t.judgeEach ns s).nest n = s.nest n := by
  induction ns generalizing s with
  | nil => exact ⟨rfl, fun _ _ => rfl⟩
  | cons m ns ih =>
    cases ended : t.endings.get m with
    | none =>
      have same : t.judgeEach (m :: ns) s = t.judgeEach ns s := by
        unfold Turn.judgeEach
        rw [List.foldl_cons, judge_of_alive ended (alive m)]
      rw [same]
      exact ih alive
    | some e =>
      have judged : t.judgeEach (m :: ns) s = t.judgeEach ns (s.verdict m e) := by
        unfold Turn.judgeEach
        rw [List.foldl_cons]
        unfold Turn.judge
        rw [ended]
      have judges := judges_verdict s m e
      obtain ⟨capture, nests⟩ := ih (s := s.verdict m e) fun k => by
        by_cases own : k = m
        · subst own
          intro running
          rw [judges.state] at running
          cases running
        · rw [judges.others k own]
          exact alive k
      rw [judged]
      refine ⟨capture.trans (verdict_capture s m e), fun k none => (nests k none).trans (judges.others k ?_)⟩
      rintro rfl
      rw [ended] at none
      cases none

/-- A frame that brings no verdict to a nest leaves its sequencer, and every verdict leaves the captures. -/
theorem finish_alive {t : Turn} (alive : ∀ n, (t.state.nest n).Alive) :
    t.finish.capture = t.state.capture ∧ ∀ n, t.endings.get n = none → t.finish.nest n = t.state.nest n := by
  have each := judgeEach_alive t Nest.order alive
  rw [finish_eq]
  cases t.notice with
  | none => exact each
  | some x => exact each

/-- A frame without verdicts and without an entry to LOUD. -/
theorem finish_idle {t : Turn} (alive : ∀ n, (t.state.nest n).Alive) (goesOn : ∀ n, t.endings.get n = none)
    (silent : t.notice = none) : t.finish = t.state := by
  have each (ns : List Nest) : t.judgeEach ns t.state = t.state := by
    induction ns with
    | nil => rfl
    | cons n ns ih =>
      unfold Turn.judgeEach at ih ⊢
      rw [List.foldl_cons, judge_of_alive (goesOn n) (alive n), ih]
  rw [finish_eq, silent]
  exact each _

/-- A notice that is enabled, and finds room, is the queue's last (R202). -/
theorem Port.notice_last {p : Port} {x : Notice} (enabled : p.enables.allow x = true)
    (room : (p.notice x).notices.length < 32) : (p.notice x).notices.getLast? = some x := by
  unfold Port.notice at room ⊢
  rw [if_pos enabled] at room ⊢
  by_cases free : p.notices.length < 32
  · rw [if_pos free]
    exact List.getLast?_concat
  · rw [if_neg free] at room
    exact absurd room free

/-- The notice of an entry to LOUD is the frame's last. -/
theorem finish_notice {t : Turn} {x : Notice} (alarm : t.notice = some x) (enabled : t.state.port.enables.allow x = true)
    (room : t.finish.port.notices.length < 32) : t.finish.port.notices.getLast? = some x := by
  have noticed : t.finish.port = (t.judgeEach Nest.order t.state).port.notice x := by
    rw [finish_eq, alarm]
    rfl
  have enables : (t.judgeEach Nest.order t.state).port.enables = t.state.port.enables := by
    rw [← (moves_finish t).port.enables, noticed]
    exact (portMoves_notice _ x).enables.symm
  rw [noticed] at room ⊢
  exact Port.notice_last (by rw [enables]; exact enabled) room

end Verdicts

end Sys2Proof.Machine
end

section
/-! An entry to LOUD nest by nest (R120, R121): what it does to the nest it reaches, and what it leaves of the others. (For a
completed guard block, O14.) -/

namespace Sys2Proof.Machine

/-! ### A nest kept out of its window -/

/-- In LOUD, a nest with a guarded step that is not in WINDOW. -/
def State.shut (s : State) (n : Nest) : Prop :=
  s.guard.loud = true ∧ (s.nest n).guarded = true ∧ (s.nest n).state ≠ .window

section Shut
variable {s t : State} {n m : Nest}

theorem State.shut.congr (h : s.shut n) (guard : t.guard = s.guard) (nest : t.nest n = s.nest n) : t.shut n := by
  unfold State.shut
  rw [guard, nest]
  exact h

theorem shut_grant (h : s.shut n) (r : LaneRequest) (rest : List LaneRequest) : (s.grant r rest).shut n := by
  obtain ⟨loud, guarded, out⟩ := h
  have guard := (handsOn_grant s r rest).1.guard
  by_cases own : n = r.nest
  · have nest := grant_nest s r rest n
    rw [if_pos own, if_pos ⟨own ▸ guarded, loud⟩] at nest
    refine ⟨by rw [guard]; exact loud, ?_, ?_⟩
    · rw [nest]
      exact own ▸ guarded
    · rw [nest]
      nofun
  · exact State.shut.congr ⟨loud, guarded, out⟩ guard ((grant_nest s r rest n).trans (if_neg own))

theorem shut_grantHeads (fuel : Nat) (h : s.shut n) : (s.grantHeads fuel).shut n := by
  induction fuel generalizing s with
  | zero => exact h
  | succ fuel ih =>
    unfold State.grantHeads
    split
    · exact h
    · split
      · exact ih (shut_grant h _ _)
      · exact h

theorem shut_grantCheck (h : s.shut n) : s.grantCheck.shut n := shut_grantHeads _ h

theorem shut_requestLanes (hm : n ≠ m) (h : s.shut n) : (s.requestLanes m).shut n := by
  cases step : (s.nest m).step with
  | none =>
    unfold State.requestLanes
    rw [step]
    exact h
  | some st =>
    rw [requestLanes_eq step]
    exact shut_grantCheck (h.congr rfl (asked_nest_ne s hm st))

theorem shut_spoil (hm : n ≠ m) (h : s.shut n) (c : UnitClass) : (s.spoil m c).1.shut n := by
  have back : ((s.releaseLanes m).voidCapture m).shut n :=
    shut_grantCheck (s := s.modAnalyser fun a => a.release m) h
  unfold State.spoil
  dsimp only
  split
  · exact shut_requestLanes hm (back.congr rfl (State.nest_modNest_ne _ hm _))
  · exact back

theorem shut_entryAt {t : Turn} (hm : n ≠ m) (h : t.state.shut n) : (t.entryAt m).state.shut n := by
  unfold Turn.entryAt
  dsimp only
  split
  · exact h
  · split
    · exact h
    · split
      · split
        · exact h.congr rfl (State.nest_modNest_ne t.state hm fun q => { q with state := .guardWait })
        · exact shut_spoil hm h _
      · split
        · exact shut_spoil hm h _
        · exact h
      · exact h

end Shut

/-! ### What an operation on another nest leaves -/

section Other
variable {s t : State} {n m : Nest}

theorem requestLanes_evaluation (s : State) (n : Nest) : (s.requestLanes n).analyser.evaluation = s.analyser.evaluation := by
  cases step : (s.nest n).step with
  | none =>
    unfold State.requestLanes
    rw [step]
  | some st =>
    rw [requestLanes_eq step]
    exact grantHeads_evaluation _ (s.asked n st)

theorem spoil_evaluation (hm : n ≠ m) (s : State) (c : UnitClass) :
    (s.spoil m c).1.analyser.evaluation.get n = s.analyser.evaluation.get n := by
  have back : ((s.releaseLanes m).voidCapture m).analyser.evaluation.get n = s.analyser.evaluation.get n := by
    have checked : (s.releaseLanes m).analyser.evaluation = (s.analyser.release m).evaluation :=
      grantHeads_evaluation _ (s.modAnalyser fun a => a.release m)
    show (s.releaseLanes m).analyser.evaluation.get n = _
    rw [checked, release_evaluation, if_neg hm]
  unfold State.spoil
  dsimp only
  split
  · rw [requestLanes_evaluation]
    exact back
  · exact back

/-- An operation on another nest, by what is known of it already. -/
theorem apart_of_acts (hm : n ≠ m) (h : PoolBut none s) (acts : Acts m s t) (hands : HandsOn s t) (past : Past n s t)
    (evaluation : t.analyser.evaluation.get n = s.analyser.evaluation.get n) : Apart n s t := by
  refine ⟨acts.others n hm, ?_, fun waits => ⟨(past.still (unqueued_of_state h waits)).2.2, evaluation⟩,
    fun waits => acts.lanes n hm waits, fun id _ => hands.skips id⟩
  unfold State.tone
  rw [hands.rest]

theorem apart_entryAt {t : Turn} (hm : n ≠ m) (ok : TurnOk t) : Apart n t.state (t.entryAt m).state := by
  have pool := ok.sound.1
  have spoilt (counts : (t.state.nest m).state.counts = true) : Apart n t.state (t.state.spoil m .retestNoise).1 :=
    apart_of_acts hm pool (spoil_ok _ pool counts).acts (handsOn_spoil _ m _) (past_spoil _ hm _) (spoil_evaluation hm _ _)
  unfold Turn.entryAt
  dsimp only
  split
  · exact .refl n _
  · split
    · exact .refl n _
    · split
      · rename_i window
        split
        · exact apart_of_acts hm pool (backToGuardWait_ok pool (by rw [window]; decide)).acts
            (handsOn_backToGuardWait _ m) (past_backToGuardWait _ hm) rfl
        · exact spoilt (by rw [window]; rfl)
      · rename_i evaluates
        split
        · exact spoilt (by rw [evaluates]; rfl)
        · exact .refl n _
      · exact .refl n _

/-- What the guard's entry at other nests leaves to nest `n`. -/
structure EntriesPast (n : Nest) (t u : Turn) : Prop where
  ok : TurnOk u
  apart : Apart n t.state u.state
  shut : t.state.shut n → u.state.shut n
  endings : u.endings.get n = t.endings.get n
  taken : u.taken = t.taken

theorem entriesPast {ns : List Nest} (hn : n ∉ ns) {t : Turn} (ok : TurnOk t) :
    EntriesPast n t (ns.foldl Turn.entryAt t) := by
  induction ns generalizing t with
  | nil => exact ⟨ok, .refl n _, id, rfl, rfl⟩
  | cons m ns ih =>
    rw [List.mem_cons, not_or] at hn
    have first := turnPast_entryAt t hn.1
    have rest := ih hn.2 (entryAt_ok m ok)
    exact ⟨rest.ok, (apart_entryAt hn.1 ok).trans rest.apart, fun h => rest.shut (shut_entryAt hn.1 h),
      rest.endings.trans first.endings, rest.taken.trans (entryAt_taken t m)⟩

end Other

/-! ### The entry at a nest of its own -/

section Own
variable {s : State} {n : Nest}

/-- A guarded nest in WINDOW before its first window frame (R121). -/
def State.early (s : State) (n : Nest) : Prop :=
  (s.nest n).guarded = true ∧ (s.nest n).state = .window ∧ (s.nest n).windowCount = 0

/-- A guarded nest later in its window, or in the first frame of its evaluation (R120). -/
def State.disturbed (s : State) (n : Nest) : Prop :=
  (s.nest n).guarded = true ∧
    ((s.nest n).state = .window ∧ (s.nest n).windowCount ≠ 0 ∨
      (s.nest n).state = .evaluate ∧ s.analyser.evaluation.get n = some 0)

theorem State.disturbed.held (h : s.disturbed n) : (s.nest n).state = .window ∨ (s.nest n).state = .evaluate :=
  h.2.imp And.left And.left

theorem State.early.not_disturbed (h : s.early n) : ¬ s.disturbed n := by
  rintro ⟨-, ⟨-, later⟩ | ⟨evaluates, -⟩⟩
  · exact later h.2.2
  · rw [h.2.1] at evaluates
    cases evaluates

/-- A window or an evaluation spoiled: what it held given back, then a retry or the unit's end (R49, R123). -/
theorem spoil_eq (h : PoolBut none s) (held : (s.nest n).state = .window ∨ (s.nest n).state = .evaluate) (c : UnitClass) :
    s.spoil n c =
      if (s.nest n).retries < (s.nest n).settings.retryBudget then
        (((s.giveBack n).modNest n (fun q => { q with retries := q.retries + 1 })).requestLanes n, none)
      else (s.giveBack n, some (.named c)) := by
  have own : (s.giveBack n).nest n = s.nest n := (grants_giveBack h).out n rfl
  have back : s.giveBack n = (s.releaseLanes n).voidCapture n := by
    unfold State.giveBack
    rcases held with held | held <;> rw [held]
  unfold State.spoil
  dsimp only
  rw [← back, own]

/-- In LOUD, a guarded nest's retry waits for lanes, or with its lanes for QUIET. -/
theorem spoil_retried (h : PoolBut none s) (loud : s.guard.loud = true) (met : s.disturbed n)
    (left : (s.nest n).retries < (s.nest n).settings.retryBudget) (c : UnitClass) :
    (s.spoil n c).2 = none ∧ (s.spoil n c).1.shut n ∧
      (s.spoil n c).1.nest n =
        { s.nest n with
            retries := (s.nest n).retries + 1, state := ((s.spoil n c).1.nest n).state
            windowCount := ((s.spoil n c).1.nest n).windowCount } ∧
      (((s.spoil n c).1.nest n).state = .waitLanes ∨ ((s.spoil n c).1.nest n).state = .guardWait) := by
  obtain ⟨st, step, -⟩ := (Option.any_eq_true _ _).1 met.1
  have own : (s.giveBack n).nest n = s.nest n := (grants_giveBack h).out n rfl
  set d := (s.giveBack n).modNest n (fun q => { q with retries := q.retries + 1 })
  have nest : d.nest n = { s.nest n with retries := (s.nest n).retries + 1 } := by
    rw [← own]
    exact State.nest_modNest (s.giveBack n) n _
  have spoilt : s.spoil n c = (d.requestLanes n, none) := (spoil_eq h met.held c).trans (if_pos left)
  have asked : d.requestLanes n = (d.asked n st).grantCheck := requestLanes_eq (by rw [nest]; exact step)
  have waits := asked_nest d n st
  rw [nest] at waits
  have guard : (d.asked n st).guard = s.guard := (lanesGranted_giveBack s n).hands.guard
  have shut : (d.asked n st).shut n := by
    refine ⟨by rw [guard]; exact loud, ?_, ?_⟩
    · rw [waits]; exact met.1
    · rw [waits]; nofun
  have later := shut_grantCheck shut
  have granted := lanesGranted_grantCheck (d.asked n st)
  have same := granted.nest n
  have states := granted.states n
  rw [waits] at same states
  rw [spoilt]
  dsimp only
  rw [asked]
  refine ⟨rfl, later, same, ?_⟩
  rcases states with waiting | waiting | window
  · exact Or.inl waiting
  · exact Or.inr waiting
  · exact absurd window later.2.2

/-- What an entry to LOUD has done to nest `n` of `s`, before the frame's verdicts: `t` is behind its last nest. -/
inductive Reached (n : Nest) (s : State) (t : Turn) : Prop
  | early (met : s.early n) (nest : t.state.nest n = { s.nest n with state := .guardWait })
      (goesOn : t.endings.get n = none) (mark : t.state.capture.mark.get n = none)
  | retried (met : s.disturbed n) (left : (s.nest n).retries < (s.nest n).settings.retryBudget) (shut : t.state.shut n)
      (nest : t.state.nest n =
        { s.nest n with
            retries := (s.nest n).retries + 1, state := (t.state.nest n).state
            windowCount := (t.state.nest n).windowCount })
      (waits : (t.state.nest n).state = .waitLanes ∨ (t.state.nest n).state = .guardWait)
      (goesOn : t.endings.get n = none)
  | ended (met : s.disturbed n) (spent : (s.nest n).settings.retryBudget ≤ (s.nest n).retries)
      (nest : t.state.nest n = s.nest n) (ending : t.endings.get n = some (.named .retestNoise))
      (back : HandedBack n s t.state)
  | spared (notEarly : ¬ s.early n) (notDisturbed : ¬ s.disturbed n) (nest : GrantedOrSame (s.nest n) (t.state.nest n))
      (goesOn : t.endings.get n = none)

section Entry
variable {t : Turn} (taken : t.taken.get n = true) (goesOn : t.endings.get n = none)
include taken goesOn

/-- The entry at a guarded nest that has taken the frame: its state alone decides. -/
theorem entryAt_taken_eq (guarded : (t.state.nest n).guarded = true) :
    t.entryAt n =
      if (t.state.nest n).state = .window then
        if (t.state.nest n).windowCount = 0 then t.withState (fun s => s.backToGuardWait n)
        else t.run n (fun s => s.spoil n .retestNoise)
      else if (t.state.nest n).state = .evaluate ∧ t.state.analyser.evaluation.get n = some 0 then
        t.run n (fun s => s.spoil n .retestNoise)
      else t := by
  unfold Turn.entryAt
  dsimp only
  rw [if_neg (by rw [goesOn, guarded]; nofun), if_neg (by rw [taken]; nofun)]
  cases state : (t.state.nest n).state <;> simp [taken]

theorem entryAt_spared (notEarly : ¬ t.state.early n) (notDisturbed : ¬ t.state.disturbed n) : t.entryAt n = t := by
  cases guarded : (t.state.nest n).guarded with
  | false =>
    unfold Turn.entryAt
    exact if_pos (Or.inr guarded)
  | true =>
    rw [entryAt_taken_eq taken goesOn guarded]
    by_cases window : (t.state.nest n).state = .window
    · by_cases zero : (t.state.nest n).windowCount = 0
      · exact absurd ⟨guarded, window, zero⟩ notEarly
      · exact absurd ⟨guarded, Or.inl ⟨window, zero⟩⟩ notDisturbed
    · rw [if_neg window, if_neg fun evaluates => notDisturbed ⟨guarded, Or.inr evaluates⟩]

theorem entryAt_early (met : t.state.early n) : t.entryAt n = t.withState (fun s => s.backToGuardWait n) := by
  obtain ⟨guarded, window, zero⟩ := met
  rw [entryAt_taken_eq taken goesOn guarded, if_pos window, if_pos zero]

theorem entryAt_disturbed (met : t.state.disturbed n) : t.entryAt n = t.run n (fun s => s.spoil n .retestNoise) := by
  obtain ⟨guarded, ⟨window, later⟩ | ⟨evaluates, first⟩⟩ := met
  · rw [entryAt_taken_eq taken goesOn guarded, if_pos window, if_neg later]
  · rw [entryAt_taken_eq taken goesOn guarded, if_neg (by rw [evaluates]; nofun), if_pos ⟨evaluates, first⟩]

/-- The entry at the nest itself. -/
theorem reached_entryAt (ok : TurnOk t) (loud : t.state.guard.loud = true) : Reached n t.state (t.entryAt n) := by
  by_cases early : t.state.early n
  · rw [entryAt_early taken goesOn early]
    refine .early early ?_ goesOn ?_
    · exact State.nest_modNest t.state n fun q => { q with state := .guardWait }
    · exact (Capture.voidRecord_mark n n _).trans (if_pos rfl)
  · by_cases disturbed : t.state.disturbed n
    · rw [entryAt_disturbed taken goesOn disturbed]
      by_cases left : (t.state.nest n).retries < (t.state.nest n).settings.retryBudget
      · obtain ⟨noEnding, shut, nest, waits⟩ := spoil_retried ok.sound.1 loud disturbed left .retestNoise
        refine .retried disturbed left shut nest waits ?_
        unfold Turn.run
        dsimp only
        rw [noEnding]
        exact goesOn
      · have ends := (spoil_eq ok.sound.1 disturbed.held .retestNoise).trans (if_neg left)
        have run : t.run n (fun s => s.spoil n .retestNoise) =
            { t with
                state := t.state.giveBack n
                endings := t.endings.set n (some (.named .retestNoise)) } := by
          unfold Turn.run
          dsimp only
          rw [ends]
        rw [run]
        exact .ended disturbed (Nat.not_lt.1 left) ((grants_giveBack ok.sound.1).out n rfl) (PerNest.get_set_self _ _ _)
          (handedBack_giveBack ok.sound rfl rfl rfl)
    · rw [entryAt_spared taken goesOn early disturbed]
      exact .spared early disturbed (.refl _) goesOn

end Entry

/-- The entry at other nests before the nest's own. -/
theorem Reached.prepend {t u v : Turn} (past : EntriesPast n t u) (waits : (t.state.nest n).state ≠ .waitLanes)
    (h : Reached n u.state v) : Reached n t.state v := by
  have nest : u.state.nest n = t.state.nest n := past.apart.nest.same waits
  have evaluation := (past.apart.past waits).evaluation
  have early : u.state.early n ↔ t.state.early n := by
    unfold State.early
    rw [nest]
  have disturbed : u.state.disturbed n ↔ t.state.disturbed n := by
    unfold State.disturbed
    rw [nest, evaluation]
  cases h with
  | early met same goesOn mark => exact .early (early.1 met) (by rw [same, nest]) goesOn mark
  | retried met left shut same waits goesOn =>
    rw [nest] at left same
    exact .retried (disturbed.1 met) left shut same waits goesOn
  | ended met spent same ending back =>
    rw [nest] at spent same
    exact .ended (disturbed.1 met) spent same ending (back.prepend past.apart)
  | spared notEarly notDisturbed same goesOn =>
    rw [nest] at same
    exact .spared (mt early.2 notEarly) (mt disturbed.2 notDisturbed) same goesOn

/-- The entry at other nests behind the nest's own. -/
theorem Reached.append {t u : Turn} (h : Reached n s t) (past : EntriesPast n t u) : Reached n s u := by
  have endings := past.endings
  cases h with
  | early met same goesOn mark =>
    have waits : (t.state.nest n).state ≠ .waitLanes := by rw [same]; nofun
    exact .early met ((past.apart.nest.same waits).trans same) (endings.trans goesOn)
      ((past.apart.past waits).captures.mark.trans mark)
  | retried met left shut same waits goesOn =>
    have later := past.shut shut
    refine .retried met left later ?_ ?_ (endings.trans goesOn)
    · rcases past.apart.nest with kept | ⟨-, granted | granted⟩
      · rw [kept]; exact same
      · rw [granted, same]
      · rw [granted, same]
    · rcases past.apart.nest.state with kept | ⟨-, granted | granted⟩
      · rw [kept]; exact waits
      · exact Or.inr granted
      · exact absurd granted later.2.2
  | ended met spent same ending back =>
    have waits : (t.state.nest n).state ≠ .waitLanes := by
      rw [same]
      rcases met.held with held | held <;> rw [held] <;> nofun
    exact .ended met spent ((past.apart.nest.same waits).trans same) (endings.trans ending) (back.append waits past.apart)
  | spared notEarly notDisturbed same goesOn =>
    exact .spared notEarly notDisturbed (same.trans past.apart.nest) (endings.trans goesOn)

/-- The entry at every nest in WINDOW or EVALUATE, in any order. -/
theorem reached_entries {ns : List Nest} (nodup : ns.Nodup) {t : Turn}
    (listed : ∀ n, n ∈ ns ↔ (t.state.nest n).state = .window ∨ (t.state.nest n).state = .evaluate) (ok : TurnOk t)
    (loud : t.state.guard.loud = true) (taken : ∀ n, t.taken.get n = true) (goesOn : ∀ n, t.endings.get n = none) (n : Nest) :
    Reached n t.state (ns.foldl Turn.entryAt t) := by
  by_cases mem : n ∈ ns
  · obtain ⟨pre, post, rfl⟩ := List.append_of_mem mem
    obtain ⟨-, nodupPost, disjoint⟩ := List.nodup_append'.1 nodup
    have first := entriesPast (fun hp => disjoint hp List.mem_cons_self) ok
    have waits : (t.state.nest n).state ≠ .waitLanes := by
      rcases (listed n).1 mem with held | held <;> rw [held] <;> nofun
    have own : Reached n (pre.foldl Turn.entryAt t).state ((pre.foldl Turn.entryAt t).entryAt n) :=
      reached_entryAt (by rw [first.taken]; exact taken n) (first.endings.trans (goesOn n)) first.ok
        (by rw [(handsOn_entries pre t).guard]; exact loud)
    rw [List.foldl_append, List.foldl_cons]
    exact (own.prepend first waits).append (entriesPast (List.nodup_cons.1 nodupPost).1 (entryAt_ok n first.ok))
  · have past := entriesPast mem ok
    refine .spared (fun met => mem ((listed n).2 (Or.inl met.2.1))) (fun met => mem ((listed n).2 met.held))
      past.apart.nest (past.endings.trans (goesOn n))

/-- A nest whose deadline has not run out is reached so. -/
theorem Reached.alive {t : Turn} (h : Reached n s t) (alive : (s.nest n).Alive) : (t.state.nest n).Alive := by
  have running (held : (s.nest n).state = .window ∨ (s.nest n).state = .evaluate) : (s.nest n).state.running = true := by
    rcases held with held | held <;> rw [held] <;> rfl
  cases h with
  | early met same =>
    rw [same]
    exact fun _ => alive (running (Or.inl met.2.1))
  | retried met left shut same =>
    rw [same]
    exact fun _ => alive (running met.held)
  | ended met spent same =>
    rw [same]
    exact alive
  | spared notEarly notDisturbed same =>
    rcases same with same | ⟨waits, same | same⟩
    · rw [same]; exact alive
    · rw [same]; exact fun _ => alive (by rw [waits]; rfl)
    · rw [same]; exact fun _ => alive (by rw [waits]; rfl)

end Own

end Sys2Proof.Machine
end

section
/-! A completed guard block (O14): the guard by its causes, an entry to LOUD at every nest, and a return to QUIET. -/

namespace Sys2Proof.Machine

/-! ### The verdicts behind an entry to LOUD -/

section Finish
variable {s : State} {n : Nest} {t : Turn}

theorem HandedBack.congr {u v : State} (h : HandedBack n s u) (lanes : v.analyser.lanes = u.analyser.lanes)
    (evaluation : v.analyser.evaluation = u.analyser.evaluation) (capture : v.capture = u.capture) : HandedBack n s v := by
  refine ⟨?_, fun hs => ?_, fun hs => ?_⟩
  · unfold Analyser.lanesOf
    rw [lanes]
    exact h.lanes
  · rw [evaluation]
    exact h.evaluation hs
  · rw [capture]
    exact h.captures hs

/-- A unit ended with a named class by the frame: JUDGED, and what the nest held in `s` given back. -/
structure EndsNamed (n : Nest) (c : UnitClass) (q : Sequencer) (s t : State) : Prop where
  state : (t.nest n).state = .judged
  retries : (t.nest n).retries = q.retries
  back : s.givenBack t n
  judged : ∀ id, q.record = some id → (t.record id).state = .judged ∧ (t.record id).unitClass = some c

theorem finish_named (ok : TurnOk t) {c : UnitClass} (ended : t.endings.get n = some (.named c))
    (back : HandedBack n s t.state) : EndsNamed n c (t.state.nest n) s t.finish := by
  obtain ⟨a, sound, before, later⟩ := finish_split ok n
  have counts := (ok.ended n (by rw [ended]; nofun)).2
  have same := before.nest.same (counts_wait counts)
  have own : t.judge n a = a.verdict n (.named c) := by
    unfold Turn.judge
    rw [ended]
  rw [own] at later
  have judges := judges_verdict a n (.named c)
  have names := names_verdict a n c
  obtain ⟨id, hid⟩ := record_of_holdsUnit ok.sound (holdsUnit_of_running (counts_running counts))
  have ida : (a.nest n).record = some id := by rw [same]; exact hid
  have judged := names.judged id ida (record_inTable sound ida)
  have gives := givesVerdict (.named c) ida (record_inTable sound ida)
  set b := a.verdict n (.named c)
  have stays : (b.nest n).state ≠ .waitLanes := by rw [judges.state]; nofun
  have nest := later.nest.same stays
  refine ⟨by rw [nest]; exact judges.state, ?_, ?_, fun k hk => ?_⟩
  · rw [nest, gives.nest, same]
  · refine HandedBack.givenBack ?_ (finish_ok ok) (by rw [nest]; exact stays)
    exact ((back.append (counts_wait counts) before).congr judges.lanes names.evaluation names.capture).append stays later
  · rw [hid] at hk
    cases hk
    rw [later.record id (judges.record.trans ida), judged]
    exact ⟨rfl, rfl⟩

section Reached
variable (h : Reached n s t)
include h

/-- A nest before its first window frame is back in GUARD_WAIT, and has no capture record. -/
theorem Reached.finish_early (alive : ∀ m, (t.state.nest m).Alive) (met : s.early n) :
    t.finish.nest n = { s.nest n with state := .guardWait } ∧ t.finish.capture.mark.get n = none := by
  obtain ⟨capture, nests⟩ := finish_alive alive
  cases h with
  | early _ nest goesOn mark => exact ⟨(nests n goesOn).trans nest, by rw [capture]; exact mark⟩
  | retried disturbed => exact absurd disturbed met.not_disturbed
  | ended disturbed => exact absurd disturbed met.not_disturbed
  | spared notEarly => exact absurd met notEarly

/-- A disturbed nest with a retry left asks for its lanes again. -/
theorem Reached.finish_retried (alive : ∀ m, (t.state.nest m).Alive) (met : s.disturbed n)
    (left : (s.nest n).retries < (s.nest n).settings.retryBudget) :
    (t.finish.nest n).retries = (s.nest n).retries + 1 ∧ (t.finish.nest n).record = (s.nest n).record ∧
      ((t.finish.nest n).state = .waitLanes ∨ (t.finish.nest n).state = .guardWait) := by
  cases h with
  | early early => exact absurd met early.not_disturbed
  | retried _ _ _ nest waits goesOn =>
    rw [(finish_alive alive).2 n goesOn]
    exact ⟨by rw [nest], by rw [nest], waits⟩
  | ended _ spent => exact absurd left (Nat.not_lt.2 spent)
  | spared _ notDisturbed => exact absurd met notDisturbed

/-- A disturbed nest without a retry left: its unit's run is over. -/
theorem Reached.finish_ended (ok : TurnOk t) (met : s.disturbed n)
    (spent : (s.nest n).settings.retryBudget ≤ (s.nest n).retries) :
    EndsNamed n .retestNoise (s.nest n) s t.finish := by
  cases h with
  | early early => exact absurd met early.not_disturbed
  | retried _ left => exact absurd left (Nat.not_lt.2 spent)
  | ended _ _ nest ending back => exact nest ▸ finish_named ok ending back
  | spared _ notDisturbed => exact absurd met notDisturbed

/-- A nest that the entry passes by, and that waits for no lanes. -/
theorem Reached.finish_spared (alive : ∀ m, (t.state.nest m).Alive) (waits : (s.nest n).state ≠ .waitLanes)
    (notDisturbed : ¬ s.disturbed n) (notEarly : ¬ s.early n) : t.finish.nest n = s.nest n := by
  cases h with
  | early met => exact absurd met notEarly
  | retried met => exact absurd met notDisturbed
  | ended met => exact absurd met notDisturbed
  | spared _ _ nest goesOn => exact ((finish_alive alive).2 n goesOn).trans (nest.same waits)

end Reached

end Finish

/-! ### The block judged -/

section Block
variable {s : State}

/-- The state with the guard's block closed: its level kept, the next block begun (R112). -/
def State.blockClosed (s : State) : State :=
  { s with guard := { s.guard with position := 0, sum := 0, lastLevel := some (blockLevel s.guard.sum) } }

theorem exec_guardBlockEnd (full : s.guard.position = 240) :
    exec .guardBlockEnd s =
      .next ((Turn.start s.blockClosed true).judgeGuard (some (blockLevel s.guard.sum))).finish :=
  congrArg Host.Outcome.next (if_pos full)

/-- The causes that the frame and a block's level give the guard (R113). -/
def Turn.causes (t : Turn) (level : Option Int) : GuardCauses :=
  t.state.guard.causes (t.state.link.current.samples.getD 4 0).toInt.natAbs (t.state.link.current.overloads.getD 4 false)
    level

section Judge
variable {t : Turn} {level : Option Int}

theorem judgeGuard_disabled (off : t.state.guard.enable = false) : t.judgeGuard level = t := if_pos off

theorem judgeGuard_calm (on : t.state.guard.enable = true) (quiet : t.state.guard.loud = false)
    (calm : ¬ (t.causes level).any = true) : t.judgeGuard level = t := by
  refine (if_neg (ne_false_of_eq_true on)).trans ((if_neg calm).trans (if_neg ?_))
  exact ne_true_of_eq_false quiet

theorem judgeGuard_enters (on : t.state.guard.enable = true) (quiet : t.state.guard.loud = false)
    (met : (t.causes level).any = true) : t.judgeGuard level = t.enterLoud (t.causes level) level := by
  refine (if_neg (ne_false_of_eq_true on)).trans ((if_pos met).trans (if_neg ?_))
  exact ne_true_of_eq_false quiet

theorem judgeGuard_restarts (on : t.state.guard.enable = true) (loud : t.state.guard.loud = true)
    (met : (t.causes level).any = true) :
    t.judgeGuard level = t.withState (fun s => { s with guard := t.state.guard.clearHold }) :=
  (if_neg (ne_false_of_eq_true on)).trans ((if_pos met).trans (if_pos loud))

theorem judgeGuard_holds (on : t.state.guard.enable = true) (loud : t.state.guard.loud = true)
    (calm : ¬ (t.causes level).any = true) :
    t.judgeGuard level = t.withState (fun s =>
      ({ s with
          guard := t.state.guard.holdFrame (t.state.link.current.samples.getD 4 0).toInt.natAbs level } :
        State).guardHoldEnd) :=
  (if_neg (ne_false_of_eq_true on)).trans ((if_neg calm).trans (if_pos loud))

end Judge

theorem causes_any_iff (g : Guard) (x : Nat) (overload : Bool) (level : Int) :
    (g.causes x overload (some level)).any = true ↔
      g.blockLimit < level ∨ (∃ p, g.peak = some p ∧ p < x) ∨ overload = true := by
  unfold GuardCauses.any Guard.causes
  simp [Option.any_eq_true, or_assoc]

/-- The guard as an entry to LOUD sets it (R114). -/
def State.alarmed (s : State) : State :=
  { s with guard := { s.guard.clearHold with loud := true, loudEntries := count s.guard.loudEntries 1 } }

/-- An entry to LOUD as its parts: the guard's change with its notice, then each nest in WINDOW or EVALUATE. -/
theorem enterLoud_parts (t : Turn) (c : GuardCauses) (level : Option Int) :
    ∃ ns : List Nest, ns.Nodup ∧
      (∀ n, n ∈ ns ↔ (t.state.nest n).state = .window ∨ (t.state.nest n).state = .evaluate) ∧
      t.enterLoud c level =
        ns.foldl Turn.entryAt
          { t with
              state := t.state.alarmed
              entered := true
              notice := some (.guard true t.state.link.frameIndex c (if c.block then level else none)
                (count t.state.guard.loudEntries 1)) } := by
  refine ⟨_, ?_, fun n => ?_, rfl⟩
  · exact (permute_perm _ _).nodup_iff.2 (List.Nodup.filter _ (by decide))
  · refine (permute_perm _ _).mem_iff.trans ?_
    unfold State.guardedNests
    rw [List.mem_filter, Bool.or_eq_true, decide_eq_true_eq, decide_eq_true_eq]
    exact and_iff_right (nest_mem_order n)

theorem enterLoud_guard (t : Turn) (c : GuardCauses) (level : Option Int) :
    (t.enterLoud c level).state.guard = t.state.alarmed.guard := by
  obtain ⟨ns, -, -, entered⟩ := enterLoud_parts t c level
  rw [entered]
  exact (handsOn_entries ns _).guard

theorem enterLoud_notice (t : Turn) (c : GuardCauses) (level : Option Int) :
    (t.enterLoud c level).notice =
      some (.guard true t.state.link.frameIndex c (if c.block then level else none) (count t.state.guard.loudEntries 1)) := by
  obtain ⟨ns, -, -, entered⟩ := enterLoud_parts t c level
  rw [entered]
  exact entries_notice ns _

/-- The entry standing alone: every nest has taken the frame (log 1). -/
theorem enterLoud_reached (h : Sound s) (c : GuardCauses) (level : Option Int) (n : Nest) :
    Reached n s.alarmed ((Turn.start s true).enterLoud c level) := by
  obtain ⟨ns, nodup, listed, entered⟩ := enterLoud_parts (Turn.start s true) c level
  have base : TurnOk (Turn.start s.alarmed true) := start_ok true (h.same rfl rfl rfl rfl)
  rw [entered]
  exact reached_entries (t := { Turn.start s true with state := s.alarmed, entered := true, notice := some _ }) nodup listed
    ⟨base.sound, base.ended, base.before⟩ rfl (fun m => by cases m <;> rfl) (fun m => by cases m <;> rfl) n

/-- A cause-free frame before the hold's end (R115). -/
theorem holdFrame_holds (x : Nat) (level : Option Int) (going : s.guard.holdCount + 1 < 96 * s.guard.holdMs) :
    ({ s with guard := s.guard.holdFrame x level } : State).guardHoldEnd =
      { s with
          guard := { s.guard with
            holdCount := s.guard.holdCount + 1, peakSince := max s.guard.peakSince x
            loudestSince := maxLevel s.guard.loudestSince level, holdDue := false } } := by
  have early : (s.guard.holdFrame x level).holdDue = false := decide_eq_false (Nat.not_le.2 going)
  have kept : ({ s with guard := s.guard.holdFrame x level } : State).guardHoldEnd =
      { s with guard := s.guard.holdFrame x level } := if_neg fun due => absurd due.2 (by rw [early]; decide)
  rw [kept, ← early]
  rfl

/-- The cause-free frame that brings the hold's end (R115). -/
theorem holdFrame_ends (x : Nat) (level : Option Int) (loud : s.guard.loud = true)
    (due : 96 * s.guard.holdMs ≤ s.guard.holdCount + 1) :
    ({ s with guard := s.guard.holdFrame x level } : State).guardHoldEnd =
      ({ s with guard := s.guard.holdFrame x level } : State).becomeQuiet ⟨false, false, false, true, false⟩ :=
  if_pos ⟨loud, decide_eq_true due⟩

/-- A return to QUIET leaves the deadlines. -/
theorem becomeQuiet_alive (c : GuardCauses) (alive : ∀ n, (s.nest n).Alive) (n : Nest) : ((s.becomeQuiet c).nest n).Alive := by
  rw [becomeQuiet_nest]
  split
  · rename_i waits
    exact fun _ => alive n (by rw [waits]; rfl)
  · exact alive n

end Block

/-- Settles O14: the judgement by the cases of `judgeGuard`, an entry to LOUD by `enterLoud_reached` with the verdicts behind
it, a return to QUIET by `becomeQuiet_nest` and `becomeQuiet_port`. -/
theorem guardBlockJudged : Obligations.GuardBlockJudged := by
  intro s
  refine ⟨fun early => congrArg _ (if_neg early), fun full => ?_⟩
  intro g level x limit cause causes kept noneDue
  set t := Turn.start s.blockClosed true
  have run : exec .guardBlockEnd s = .next (t.judgeGuard (some level)).finish := exec_guardBlockEnd full
  have any : causes.any = true ↔ cause := causes_any_iff kept x _ level
  have guard := finish_guard (t.judgeGuard (some level))
  have moves : Moves s (t.judgeGuard (some level)).state := (moves_judgeGuard t _).after (moves_guard s kept)
  refine ⟨_, run, ((moves_finish _).after moves).keepsLink, fun off => ?_, fun on quiet calm => ?_,
    fun on quiet met => ?_, fun on loud met => ?_, fun on loud calm going => ?_, fun on loud calm past => ?_⟩
  · rw [guard, judgeGuard_disabled (t := t) off]
    rfl
  · rw [guard, judgeGuard_calm (t := t) (level := some level) on quiet (mt any.1 calm)]
    rfl
  · have entered : t.judgeGuard (some level) = t.enterLoud causes (some level) :=
      judgeGuard_enters (t := t) on quiet (any.2 met)
    rw [entered] at guard moves ⊢
    have reached (h : s.sound) (n : Nest) : Reached n s.blockClosed.alarmed (t.enterLoud causes (some level)) :=
      enterLoud_reached (s := s.blockClosed) (((sound_iff s).2 h).same rfl rfl rfl rfl) causes (some level) n
    refine ⟨guard.trans (enterLoud_guard t causes _), fun enabled room => ?_, fun sound due n => ?_⟩
    · have alarm := enterLoud_notice t causes (some level)
      have shown : (if causes.block = true then some level else none) = if limit < level then some level else none :=
        if_congr decide_eq_true_iff rfl rfl
      rw [shown] at alarm
      exact finish_notice alarm (by rw [moves.port.enables]; exact enabled) room
    · have alive (m : Nest) := (reached sound m).alive (due m)
      have ok := (enterLoud_ok causes (some level)
        (start_ok (s := s.blockClosed) true (((sound_iff s).2 sound).same rfl rfl rfl rfl))).1
      have own := reached sound n
      exact ⟨fun guarded window zero => own.finish_early alive ⟨guarded, window, zero⟩,
        fun disturbed left => own.finish_retried alive disturbed left,
        fun disturbed spent =>
          have ends := own.finish_ended ok disturbed spent
          ⟨ends.state, ends.retries, ends.back, ends.judged⟩,
        fun waits notDisturbed notEarly => own.finish_spared alive waits notDisturbed notEarly⟩
  · rw [guard, judgeGuard_restarts (t := t) (level := some level) on loud (any.2 met)]
    rfl
  · rw [guard, judgeGuard_holds (t := t) (level := some level) on loud (mt any.1 calm)]
    exact congrArg State.guard (holdFrame_holds (s := s.blockClosed) x (some level) going)
  · set u : State := { s.blockClosed with guard := kept.holdFrame x (some level) }
    set c : GuardCauses := ⟨false, false, false, true, false⟩
    have returned : t.judgeGuard (some level) = { t with state := u.becomeQuiet c } :=
      (judgeGuard_holds (t := t) (level := some level) on loud (mt any.1 calm)).trans
        (congrArg (fun v : State => { t with state := v }) (holdFrame_ends (s := s.blockClosed) x (some level) loud past))
    rw [returned] at guard ⊢
    refine ⟨guard.trans (becomeQuiet_guard u c), fun due => ?_⟩
    have idle : Turn.finish { t with state := u.becomeQuiet c } = u.becomeQuiet c :=
      finish_idle (becomeQuiet_alive c due) (fun n => by cases n <;> rfl) rfl
    rw [idle]
    exact ⟨becomeQuiet_port u c, becomeQuiet_nest u c⟩

end Sys2Proof.Machine
end

section
/-! The transmitter of the marking line (O34). -/

namespace Sys2Proof.Machine

section Transmitter
variable {m : Marking} {i : SlotId}

/-- The message of slot `i` going out from its first character on (R147). -/
def Marking.started (m : Marking) (i : SlotId) : Marking :=
  { m.setSlot i { m.slot i with state := .sending } with transmitter := .sending i 0 }

/-- The message of slot `i` gone out: the slot awaits its answer, its timer loaded, and the line is IDLE (R147, R148). -/
def Marking.sentFrom (m : Marking) (i : SlotId) : Marking :=
  { m.setSlot i { m.slot i with state := .awaitAck, ackLeft := 96 * m.ackMs } with transmitter := .idle }

theorem eq_or_eq_other (i j : SlotId) : j = i ∨ j = i.other := by
  cases i <;> cases j <;> decide

theorem other_ne (i : SlotId) : i.other ≠ i := by cases i <;> decide

theorem other_other (i : SlotId) : i.other.other = i := by cases i <;> rfl

/-- Something said of both slots, said of a slot and the other. -/
theorem forall_slot_iff {P : SlotId → Prop} (i : SlotId) : (∀ j, P j) ↔ P i ∧ P i.other :=
  ⟨fun all => ⟨all i, all i.other⟩, fun ⟨own, other⟩ j => by
    rcases eq_or_eq_other i j with rfl | rfl
    · exact own
    · exact other⟩

@[simp] theorem Marking.slot_withTransmitter (m : Marking) (x : Transmitter) (j : SlotId) :
    ({ m with transmitter := x } : Marking).slot j = m.slot j := by cases j <;> rfl

@[simp] theorem Marking.slot_setSlot_self (m : Marking) (i : SlotId) (x : Slot) : (m.setSlot i x).slot i = x := by
  rw [Marking.slot_setSlot, if_pos rfl]

@[simp] theorem Marking.slot_setSlot_other (m : Marking) (i : SlotId) (x : Slot) :
    (m.setSlot i x).slot i.other = m.slot i.other := by
  rw [Marking.slot_setSlot, if_neg (other_ne i)]

@[simp] theorem Marking.started_slot_self (m : Marking) (i : SlotId) :
    (m.started i).slot i = { m.slot i with state := .sending } :=
  (Marking.slot_withTransmitter _ _ i).trans (m.slot_setSlot_self i _)

@[simp] theorem Marking.started_slot_other (m : Marking) (i : SlotId) : (m.started i).slot i.other = m.slot i.other :=
  (Marking.slot_withTransmitter _ _ i.other).trans (m.slot_setSlot_other i _)

/-! ### Which message goes next -/

theorem nextMessage_eq_none (resting : ∀ j, (m.slot j).state ≠ .waitLine) : m.nextMessage = none := by
  unfold Marking.nextMessage
  rw [decide_eq_false (show ¬ m.slotA.state = .waitLine from resting .a),
    decide_eq_false (show ¬ m.slotB.state = .waitLine from resting .b)]

/-- Of two waiting messages the one that is not of the slot filled last. -/
theorem nextMessage_eq_some (waits : (m.slot i).state = .waitLine)
    (first : (m.slot i.other).state ≠ .waitLine ∨ m.lastFilled = some i.other) : m.nextMessage = some i := by
  unfold Marking.nextMessage
  by_cases both : (m.slot i.other).state = .waitLine
  · have last := first.resolve_left (not_not.2 both)
    cases i with
    | a => rw [decide_eq_true (show m.slotA.state = _ from waits), decide_eq_true (show m.slotB.state = _ from both), last]
           rfl
    | b => rw [decide_eq_true (show m.slotB.state = _ from waits), decide_eq_true (show m.slotA.state = _ from both), last]
           rfl
  · cases i with
    | a => rw [decide_eq_true (show m.slotA.state = _ from waits), decide_eq_false (show ¬ m.slotB.state = _ from both)]
    | b => rw [decide_eq_true (show m.slotB.state = _ from waits), decide_eq_false (show ¬ m.slotA.state = _ from both)]

theorem nextMessage_waits (next : m.nextMessage = some i) : (m.slot i).state = .waitLine := by
  by_contra rests
  by_cases other : (m.slot i.other).state = .waitLine
  · have taken : m.nextMessage = some i.other :=
      nextMessage_eq_some other (Or.inl (by rwa [other_other]))
    exact other_ne i (Option.some.inj (taken.symm.trans next))
  · rw [nextMessage_eq_none ((forall_slot_iff i).2 ⟨rests, other⟩)] at next
    cases next

/-! ### Starting it -/

theorem startMessage_busy (busy : m.transmitter ≠ .idle) : m.startMessage = m := by
  unfold Marking.startMessage
  cases line : m.transmitter with
  | idle => exact absurd line busy
  | sending => rfl
  | stopping => rfl

theorem startMessage_none (none : m.nextMessage = none) : m.startMessage = m := by
  unfold Marking.startMessage
  rw [none]
  cases m.transmitter <;> rfl

theorem startMessage_starts (idle : m.transmitter = .idle) (next : m.nextMessage = some i) :
    m.startMessage = m.started i := by
  unfold Marking.startMessage
  rw [idle, next]
  rfl

/-- All that the transmitter's decision can do. -/
theorem startMessage_cases (m : Marking) :
    m.startMessage = m ∨ ∃ i, m.nextMessage = some i ∧ m.startMessage = m.started i := by
  by_cases idle : m.transmitter = .idle
  · cases next : m.nextMessage with
    | none => exact Or.inl (startMessage_none next)
    | some i => exact Or.inr ⟨i, rfl, startMessage_starts idle next⟩
  · exact Or.inl (startMessage_busy idle)

/-! ### The events -/

theorem messageSent_resting (rests : ∀ j k, m.transmitter ≠ .sending j k) : m.messageSent = m := by
  unfold Marking.messageSent
  cases line : m.transmitter with
  | idle => rfl
  | sending j k => exact absurd line (rests j k)
  | stopping => rfl

theorem messageSent_sending {k : Nat} (sending : m.transmitter = .sending i k) :
    m.messageSent = (m.sentFrom i).startMessage := by
  unfold Marking.messageSent
  rw [sending]
  rfl

theorem sentFrom_slot_self (m : Marking) (i : SlotId) :
    (m.sentFrom i).slot i = { m.slot i with state := .awaitAck, ackLeft := 96 * m.ackMs } :=
  (Marking.slot_withTransmitter _ _ i).trans (m.slot_setSlot_self i _)

theorem sentFrom_slot_other (m : Marking) (i : SlotId) : (m.sentFrom i).slot i.other = m.slot i.other :=
  (Marking.slot_withTransmitter _ _ i.other).trans (m.slot_setSlot_other i _)

/-- A slot whose message has gone out does not wait for the line. -/
theorem sentFrom_rests (m : Marking) (i : SlotId) : ((m.sentFrom i).slot i).state ≠ .waitLine := by
  rw [sentFrom_slot_self]
  nofun

theorem transmitterStopped_running (runs : ∀ k, m.transmitter ≠ .stopping k) : m.transmitterStopped = m := by
  unfold Marking.transmitterStopped
  cases line : m.transmitter with
  | idle => rfl
  | sending => rfl
  | stopping k => exact absurd line (runs k)

theorem transmitterStopped_stopping {k : Nat} (stopping : m.transmitter = .stopping k) :
    m.transmitterStopped = ({ m with transmitter := .idle } : Marking).startMessage := by
  unfold Marking.transmitterStopped
  rw [stopping]

end Transmitter

/-- Settles O34: each event is the transmitter's decision on the line as the event leaves it. -/
theorem transmitterEvents : Obligations.TransmitterEvents := by
  intro s i m started
  have start {x y : Marking} (e : x = y) : (Host.Outcome.next { s with marking := x } : Host.Outcome State Fault Refusal) =
      .next { s with marking := y } := by rw [e]
  refine ⟨fun busy => start (startMessage_busy busy), fun a b => start (startMessage_none (nextMessage_eq_none ?_)),
    fun idle waits first => start (startMessage_starts idle (nextMessage_eq_some waits first)),
    fun rests => start (messageSent_resting rests), fun k sending => ⟨fun rests => start ?_, fun waits => start ?_⟩,
    fun runs => start (transmitterStopped_running runs), fun k stopping => ⟨fun a b => start ?_,
      fun waits first => start ?_⟩⟩
  · exact (forall_slot_iff .a).2 ⟨a, b⟩
  · refine (messageSent_sending sending).trans (startMessage_none (nextMessage_eq_none ((forall_slot_iff i).2 ⟨?_, ?_⟩)))
    · exact sentFrom_rests m i
    · rwa [sentFrom_slot_other]
  · refine (messageSent_sending sending).trans (startMessage_starts rfl (nextMessage_eq_some ?_ (Or.inl ?_)))
    · rwa [sentFrom_slot_other]
    · rw [other_other]
      exact sentFrom_rests m i
  · exact (transmitterStopped_stopping stopping).trans
      (startMessage_none (nextMessage_eq_none ((forall_slot_iff .a).2 ⟨a, b⟩)))
  · refine (transmitterStopped_stopping stopping).trans (startMessage_starts rfl (nextMessage_eq_some ?_ ?_))
    · rwa [Marking.slot_withTransmitter]
    · rwa [Marking.slot_withTransmitter]

end Sys2Proof.Machine
end

section
/-! A slot filled from the head of the label queue (O32). -/

namespace Sys2Proof.Machine

/-! ### What the transmitter's decision leaves alone -/

theorem startMessage_message (m : Marking) (j : SlotId) : (m.startMessage.slot j).message = (m.slot j).message := by
  obtain same | ⟨i, -, starts⟩ := startMessage_cases m
  · rw [same]
  · rw [starts]
    obtain rfl | rfl := eq_or_eq_other i j
    · rw [Marking.started_slot_self]
    · rw [Marking.started_slot_other]

/-- A slot that does not wait stays as it is. -/
theorem startMessage_slot_resting {m : Marking} {j : SlotId} (rests : (m.slot j).state ≠ .waitLine) :
    m.startMessage.slot j = m.slot j := by
  obtain same | ⟨i, next, starts⟩ := startMessage_cases m
  · rw [same]
  · obtain rfl | rfl := eq_or_eq_other i j
    · exact absurd (nextMessage_waits next) rests
    · rw [starts, Marking.started_slot_other]

theorem startMessage_rest (m : Marking) :
    m.startMessage =
      { m with slotA := m.startMessage.slotA, slotB := m.startMessage.slotB, transmitter := m.startMessage.transmitter } := by
  obtain same | ⟨i, -, starts⟩ := startMessage_cases m
  · rw [same]
  · rw [starts]
    cases i <;> rfl

/-! ### One fill -/

/-- The label queue and the slots with slot `i` filled, before the transmitter decides (R145). -/
def Marking.filled (m : Marking) (i : SlotId) (id : Nat) (rest : List Nat) (message : List Byte) : Marking :=
  { m.setSlot i ⟨.waitLine, some id, message, 0⟩ with queue := rest, lastFilled := some i }

section Filled
variable (m : Marking) (i : SlotId) (id : Nat) (rest : List Nat) (message : List Byte)

@[simp] theorem Marking.filled_slot_self : (m.filled i id rest message).slot i = ⟨.waitLine, some id, message, 0⟩ := by
  cases i <;> rfl

@[simp] theorem Marking.filled_slot_other : (m.filled i id rest message).slot i.other = m.slot i.other := by
  cases i <;> rfl

@[simp] theorem Marking.filled_transmitter : (m.filled i id rest message).transmitter = m.transmitter := by
  cases i <;> rfl

theorem Marking.filled_rest :
    m.filled i id rest message =
      { m with queue := rest, lastFilled := some i, slotA := (m.filled i id rest message).slotA
               slotB := (m.filled i id rest message).slotB } := by
  cases i <;> rfl

/-- With nothing else waiting the filled slot's message is the next. -/
theorem nextMessage_filled (rests : (m.slot i.other).state ≠ .waitLine) :
    (m.filled i id rest message).nextMessage = some i := by
  refine nextMessage_eq_some ?_ (Or.inl ?_)
  · rw [Marking.filled_slot_self]
  · rwa [Marking.filled_slot_other]

end Filled

/-- The record as a fill leaves it: LABELLING in slot `i` (R145). -/
def UnitRecord.labelling (u : UnitRecord) (i : SlotId) : UnitRecord := { u with state := .labelling, slot := some i }

section Fill
variable {s : State} {i : SlotId} {id : Nat} {rest : List Nat}

theorem fillSlot_eq (s : State) (i : SlotId) (id : Nat) (rest : List Nat) :
    s.fillSlot i id rest =
      { s.setRecord id ((s.record id).labelling i) with
          marking := (s.marking.filled i id rest (labelMessage i ((s.record id).labelling i))).startMessage } := rfl

/-- With nothing to fill from, or no slot to fill, the fill check does nothing. -/
theorem fillSlots_nothing (fuel : Nat) (nothing : s.marking.queue = [] ∨ s.marking.freeSlot = none) :
    s.fillSlots fuel = s := by
  cases fuel with
  | zero => rfl
  | succ fuel =>
    unfold State.fillSlots
    obtain empty | full := nothing
    · rw [empty]
    · rw [full]
      cases s.marking.queue <;> rfl

/-- A slot just filled is not FREE, so that the fill check ends behind it where the other is taken or the queue empty. -/
theorem fillSlot_nothing (single : (s.marking.slot i.other).state = .free → rest = []) :
    (s.fillSlot i id rest).marking.queue = [] ∨ (s.fillSlot i id rest).marking.freeSlot = none := by
  rw [fillSlot_eq]
  set m := s.marking.filled i id rest (labelMessage i ((s.record id).labelling i)) with hm
  by_cases free : (s.marking.slot i.other).state = .free
  · refine Or.inl ((Marking.startMessage_queue m).trans ?_)
    rw [hm, Marking.filled_rest]
    exact single free
  · have taken : ∀ j, (m.startMessage.slot j).state ≠ .free := by
      refine (forall_slot_iff i).2 ⟨?_, ?_⟩
      · rw [Ne, (m.startMessage_slot i).2, hm, Marking.filled_slot_self]
        nofun
      · rwa [Ne, (m.startMessage_slot i.other).2, hm, Marking.filled_slot_other]
    exact Or.inr (freeSlot_eq_none (taken .a) (taken .b))

/-- The fill check fills one slot where one is FREE, or two with a single record in the queue (R145). -/
theorem fillCheck_fills (queue : s.marking.queue = id :: rest) (free : s.marking.freeSlot = some i)
    (single : (s.marking.slot i.other).state = .free → rest = []) : s.fillCheck = s.fillSlot i id rest := by
  have first : s.fillCheck = (s.fillSlot i id rest).fillSlots 1 := by
    unfold State.fillCheck
    rw [State.fillSlots, queue, free]
  exact first.trans (fillSlots_nothing 1 (fillSlot_nothing single))

theorem fillSlot_record (inTable : id < s.records.length) :
    (s.fillSlot i id rest).record id = (s.record id).labelling i := s.record_setRecord inTable _

theorem fillSlot_message (s : State) (i : SlotId) (id : Nat) (rest : List Nat) :
    ((s.fillSlot i id rest).marking.slot i).message = labelMessage i ((s.record id).labelling i) := by
  rw [fillSlot_eq]
  exact (startMessage_message _ i).trans (congrArg Slot.message (Marking.filled_slot_self ..))

theorem fillSlot_slot_other (rests : (s.marking.slot i.other).state ≠ .waitLine) :
    (s.fillSlot i id rest).marking.slot i.other = s.marking.slot i.other := by
  rw [fillSlot_eq]
  have same := s.marking.filled_slot_other i id rest (labelMessage i ((s.record id).labelling i))
  exact (startMessage_slot_resting (by rwa [same])).trans same

/-- On an IDLE line the message starts (R147). -/
theorem fillSlot_starts (idle : s.marking.transmitter = .idle) (rests : (s.marking.slot i.other).state ≠ .waitLine) :
    ((s.fillSlot i id rest).marking.slot i).state = .sending ∧
      (s.fillSlot i id rest).marking.transmitter = .sending i 0 := by
  rw [fillSlot_eq,
    startMessage_starts ((Marking.filled_transmitter ..).trans idle) (nextMessage_filled _ i _ _ _ rests)]
  exact ⟨congrArg Slot.state (Marking.started_slot_self _ i), rfl⟩

/-- On a busy line it waits (R147). -/
theorem fillSlot_waits (busy : s.marking.transmitter ≠ .idle) :
    ((s.fillSlot i id rest).marking.slot i).state = .waitLine ∧
      (s.fillSlot i id rest).marking.transmitter = s.marking.transmitter := by
  rw [fillSlot_eq, startMessage_busy (by rwa [Marking.filled_transmitter])]
  exact ⟨congrArg Slot.state (Marking.filled_slot_self ..), Marking.filled_transmitter ..⟩

end Fill

/-- Settles O32, by the one fill that the check makes. -/
theorem slotIsFilled : Obligations.SlotIsFilled := by
  intro s
  refine ⟨fun nothing => congrArg _ (fillSlots_nothing 2 (nothing.imp_right fun ⟨a, b⟩ => freeSlot_eq_none a b)),
    fun id rest i queue inTable free choice => ?_⟩
  have slot : s.marking.freeSlot = some i := by
    refine freeSlot_eq_some free fun other => (choice other).2.trans ?_
    cases s.marking.lastFilled <;> rfl
  have fills := fillCheck_fills queue slot fun other => (choice other).1
  obtain ⟨emptied, last, record⟩ := fillSlot_marking s i id rest
  exact ⟨s.fillSlot i id rest, congrArg _ fills, (moves_fillSlot s i id rest).keepsLink, emptied, last, record, fillSlot_message ..,
    fillSlot_record inTable, fun m other => State.record_setRecord_ne s other _, fillSlot_starts, fillSlot_waits,
    fillSlot_slot_other⟩

end Sys2Proof.Machine
end

section
/-! Applicator replies and ack timers, and what retires a slot's record (O35). -/

namespace Sys2Proof.Machine

/-! ### A character's parity and the receiver's table (R149, R150) -/

/-- The exclusive-or of some bits is the parity of their number. -/
theorem foldl_xor_eq (bit : Nat → Bool) (l : List Nat) (b : Bool) :
    l.foldl (fun p i => xor p (bit i)) b = decide ((l.countP bit + b.toNat) % 2 = 1) := by
  induction l generalizing b with
  | nil => cases b <;> rfl
  | cons i l ih =>
    rw [List.foldl_cons, ih, List.countP_cons, decide_eq_decide]
    cases bit i with
    | false => simp
    | true =>
      cases b
      · simp
      · simp; omega

theorem evenParity_iff (c : Byte) (parity : Bool) :
    evenParity c parity = true ↔ ((List.range 8).countP (fun i => c.getLsbD i) + parity.toNat) % 2 = 0 := by
  have folded := foldl_xor_eq (fun i => c.getLsbD i) (List.range 8) parity
  unfold evenParity
  rw [beq_iff_eq, show ([0, 1, 2, 3, 4, 5, 6, 7] : List Nat) = List.range 8 from rfl, folded, decide_eq_false_iff_not]
  omega

theorem setReceiver_self {s : State} {r : Receiver} (h : s.marking.receiver = r) : s.setReceiver r = s := by
  subst h
  rfl

section Characters
variable {s : State} {c : Byte}

theorem assembleReply_expectKind (expects : s.marking.receiver = .expectKind) :
    s.assembleReply c =
      if c = 0x41 then s.setReceiver (.expectSlot true) else if c = 0x4E then s.setReceiver (.expectSlot false)
      else s.countCharError.setReceiver .expectKind := by
  have stays : s.countCharError.setReceiver .expectKind = s.countCharError := setReceiver_self expects
  unfold State.assembleReply
  rw [expects, stays]

theorem assembleReply_expectSlot {ack : Bool} (expects : s.marking.receiver = .expectSlot ack) :
    s.assembleReply c =
      if c = 0x41 then s.setReceiver (.expectEnd ack .a) else if c = 0x42 then s.setReceiver (.expectEnd ack .b)
      else s.countCharError.setReceiver .expectKind := by
  unfold State.assembleReply
  rw [expects]

theorem assembleReply_notEnd {ack : Bool} {i : SlotId} (expects : s.marking.receiver = .expectEnd ack i) (other : c ≠ 0x03) :
    s.assembleReply c =
      if c = 0x41 then s.countCharError.setReceiver (.expectSlot true)
      else if c = 0x4E then s.countCharError.setReceiver (.expectSlot false)
      else s.countCharError.setReceiver .expectKind := by
  unfold State.assembleReply
  rw [expects]
  exact if_neg other

theorem assembleReply_end {ack : Bool} {i : SlotId} (expects : s.marking.receiver = .expectEnd ack i) :
    s.assembleReply 0x03 = (s.setReceiver .expectKind).completeReply ack i := by
  unfold State.assembleReply
  rw [expects]
  rfl

end Characters

/-! ### What the fill check leaves alone -/

/-- What stays in the blocks and the receiver when slots are filled. -/
structure FillsOnly (s t : State) : Prop where
  port : t.port = s.port
  yield : t.yield = s.yield
  nests : t.nests = s.nests
  receiver : t.marking.receiver = s.marking.receiver
  strayAcks : t.marking.strayAcks = s.marking.strayAcks

theorem FillsOnly.refl (s : State) : FillsOnly s s := ⟨rfl, rfl, rfl, rfl, rfl⟩

theorem FillsOnly.trans {s t u : State} (h : FillsOnly s t) (k : FillsOnly t u) : FillsOnly s u :=
  ⟨k.port.trans h.port, k.yield.trans h.yield, k.nests.trans h.nests, k.receiver.trans h.receiver,
    k.strayAcks.trans h.strayAcks⟩

theorem fillsOnly_fillSlot (s : State) (i : SlotId) (id : Nat) (rest : List Nat) : FillsOnly s (s.fillSlot i id rest) := by
  rw [fillSlot_eq]
  set m := s.marking.filled i id rest (labelMessage i ((s.record id).labelling i))
  have started := startMessage_rest m
  have filled : m = _ := Marking.filled_rest ..
  exact ⟨rfl, rfl, rfl, (congrArg Marking.receiver started :).trans (congrArg Marking.receiver filled :),
    (congrArg Marking.strayAcks started :).trans (congrArg Marking.strayAcks filled :)⟩

theorem fillsOnly_fillSlots (fuel : Nat) (s : State) : FillsOnly s (s.fillSlots fuel) := by
  induction fuel generalizing s with
  | zero => exact .refl s
  | succ fuel ih =>
    unfold State.fillSlots
    split
    · exact (fillsOnly_fillSlot s _ _ _).trans (ih _)
    · exact .refl s

/-! ### Retirement (R153) -/

section Retire
variable {s : State} {i : SlotId} {id : Nat} {o : LabelOutcome}

/-- The record retired and its slot FREE, before the fill check. -/
def State.slotFreed (s : State) (i : SlotId) (id : Nat) (o : LabelOutcome) : State := (s.retire id o).setSlot i .free

theorem retireSlot_eq (hid : (s.marking.slot i).record = some id) :
    s.retireSlot i o = (s.slotFreed i id o).fillCheck := by
  unfold State.retireSlot
  rw [hid]
  rfl

theorem fillsOnly_retireSlot (hid : (s.marking.slot i).record = some id) :
    FillsOnly (s.slotFreed i id o) (s.retireSlot i o) := by
  rw [retireSlot_eq hid]
  exact fillsOnly_fillSlots 2 _

theorem setSlot_receiver (m : Marking) (i : SlotId) (x : Slot) :
    (m.setSlot i x).receiver = m.receiver ∧ (m.setSlot i x).strayAcks = m.strayAcks := by
  cases i <;> exact ⟨rfl, rfl⟩

theorem holders_setSlot_free {m : Marking} (hid : (m.slot i).record = some id) :
    m.holders.Perm (id :: (m.setSlot i .free).holders) := by
  unfold Marking.holders
  cases i with
  | a =>
    rw [show m.slotA.record = some id from hid]
    exact List.perm_middle
  | b =>
    rw [show m.slotB.record = some id from hid, ← List.append_assoc]
    refine List.perm_append_comm.trans (List.Perm.cons id ?_)
    show (m.queue ++ m.slotA.record.toList).Perm (m.queue ++ (m.slotA.record.toList ++ []))
    rw [List.append_nil]

/-- In a sound state a record has one holder, so its slot freed holds it no more. -/
theorem not_mem_holders_slotFreed (h : Sound s) (hid : (s.marking.slot i).record = some id) :
    id ∉ (s.slotFreed i id o).marking.holders := by
  have nodup := h.2.nodup
  rw [holdersBut_eq] at nodup
  exact (List.nodup_cons.1 ((holders_setSlot_free hid).nodup_iff.1 nodup.of_append_right)).1

theorem retireSlot_record (h : Sound s) (hid : (s.marking.slot i).record = some id) :
    (s.retireSlot i o).record id = .free := by
  rw [retireSlot_eq hid]
  obtain ⟨-, same⟩ := (labelsPass_fillSlots (id := id) 2 (s.slotFreed i id o)).still (not_mem_holders_slotFreed h hid)
  exact same.trans ((retire_record s id id o).trans (if_pos rfl))

/-- A record waiting in the queue is one of the table's. -/
theorem queued_inTable {k : Nat} (h : Sound s) (queued : k ∈ s.marking.queue) : k < s.records.length := by
  refine record_lt ((h.2.held k).1 ?_)
  rw [holdersBut_eq]
  exact List.mem_append_right _ (mem_holders.2 (Or.inl queued))

theorem slotFreed_queue (s : State) (i : SlotId) (id : Nat) (o : LabelOutcome) :
    (s.slotFreed i id o).marking.queue = s.marking.queue := setSlot_queue s.marking i .free

/-- With nothing waiting the slot stays FREE. -/
theorem retireSlot_empties (hid : (s.marking.slot i).record = some id) (empty : s.marking.queue = []) :
    (s.retireSlot i o).marking.slot i = .free ∧
      (s.retireSlot i o).marking.slot i.other = s.marking.slot i.other := by
  have nothing : (s.slotFreed i id o).fillCheck = s.slotFreed i id o :=
    fillSlots_nothing 2 (Or.inl ((slotFreed_queue s i id o).trans empty))
  rw [retireSlot_eq hid, nothing]
  exact ⟨Marking.slot_setSlot_self .., Marking.slot_setSlot_other ..⟩

/-- With a record waiting and the other slot taken the slot is filled from the head of the queue (R145). -/
theorem retireSlot_refills {k : Nat} {rest : List Nat} (h : Sound s) (hid : (s.marking.slot i).record = some id)
    (queue : s.marking.queue = k :: rest) (taken : (s.marking.slot i.other).state ≠ .free) :
    (s.retireSlot i o).marking.queue = rest ∧ ((s.retireSlot i o).marking.slot i).record = some k ∧
      ((s.retireSlot i o).record k).state = .labelling ∧ ((s.retireSlot i o).record k).slot = some i := by
  set t := s.slotFreed i id o with ht
  have own : (t.marking.slot i).state = .free := congrArg Slot.state (Marking.slot_setSlot_self ..)
  have other : (t.marking.slot i.other).state ≠ .free := by
    rwa [show t.marking.slot i.other = s.marking.slot i.other from Marking.slot_setSlot_other ..]
  have fills : t.fillCheck = t.fillSlot i k rest :=
    fillCheck_fills ((slotFreed_queue s i id o).trans queue) (freeSlot_eq_some own fun free => absurd free other)
      fun free => absurd free other
  have inTable : k < t.records.length := by
    rw [show t.records.length = s.records.length from (moves_retire s id o).records]
    exact queued_inTable h (by rw [queue]; exact List.mem_cons_self)
  obtain ⟨emptied, -, held⟩ := fillSlot_marking t i k rest
  rw [retireSlot_eq hid, ← ht, fills, fillSlot_record inTable]
  exact ⟨emptied, held, rfl, rfl⟩

theorem retireSlot_retires (h : Sound s) (hid : (s.marking.slot i).record = some id) :
    s.retiredFrom (s.retireSlot i o) i id o := by
  have fills := fillsOnly_retireSlot (o := o) hid
  exact ⟨retireSlot_record h hid, fills.port, congrArg Yield.counts fills.yield, retireSlot_empties hid,
    fun k rest => retireSlot_refills h hid⟩

end Retire

/-! ### The two events -/

theorem setReceiver_slot (s : State) (r : Receiver) (i : SlotId) : (s.setReceiver r).marking.slot i = s.marking.slot i := by
  cases i <;> rfl

theorem retiredFrom_setReceiver (s t : State) (r : Receiver) (i : SlotId) (id : Nat) (o : LabelOutcome) :
    (s.setReceiver r).retiredFrom t i id o ↔ s.retiredFrom t i id o := by
  unfold State.retiredFrom
  rw [setReceiver_slot]
  rfl

/-- A complete reply for a slot that awaits it, with the receiver back at its start (R150, R151). -/
theorem completeReply_retires {s : State} {i : SlotId} {id : Nat} {ack : Bool} (awaits : (s.marking.slot i).state = .awaitAck)
    (hid : (s.marking.slot i).record = some id) (sound : s.sound) :
    let t := (s.setReceiver .expectKind).completeReply ack i
    s.KeepsLink t ∧ t.marking.receiver = .expectKind ∧ t.marking.strayAcks = s.marking.strayAcks ∧
      s.retiredFrom t i id (if ack then .applied else .rejected) := by
  intro t
  have slot : (s.setReceiver .expectKind).marking.slot i = s.marking.slot i := setReceiver_slot s .expectKind i
  have held : ((s.setReceiver .expectKind).marking.slot i).record = some id := by rw [slot, hid]
  have retires : t = (s.setReceiver .expectKind).retireSlot i (if ack then .applied else .rejected) :=
    if_pos (by rw [slot, awaits])
  have ok : Sound (s.setReceiver .expectKind) := setReceiver_ok _ ((sound_iff s).2 sound)
  have fills := fillsOnly_retireSlot (o := if ack then .applied else .rejected) held
  obtain ⟨receiver, strays⟩ := setSlot_receiver (s.setReceiver .expectKind).marking i .free
  rw [retires]
  exact ⟨((moves_retireSlot _ i _).after (moves_marking s _)).keepsLink, fills.receiver.trans receiver,
    fills.strayAcks.trans strays, (retiredFrom_setReceiver ..).1 (retireSlot_retires ok held)⟩

theorem completeReply_stray {s : State} {i : SlotId} {ack : Bool} (away : (s.marking.slot i).state ≠ .awaitAck) :
    (s.setReceiver .expectKind).completeReply ack i =
      { s with marking := { s.marking with receiver := .expectKind, strayAcks := count s.marking.strayAcks 1 } } := by
  exact if_neg (by rwa [setReceiver_slot])

/-- Settles O35: the receiver's table, and the retirement behind a complete reply and an expired timer. -/
theorem labelAnswers : Obligations.LabelAnswers := by
  refine ⟨?_, fun s i => ⟨fun early => ?_, fun id awaits due hid sound => ?_⟩⟩
  · intro s c parity stop m ones good wrong moved
    have run : exec (.markingCharacter c parity stop) s =
        .next (if good then s.assembleReply c else s.countCharError.setReceiver .expectKind) :=
      congrArg Host.Outcome.next (if_congr (and_congr_left' (evenParity_iff c parity)) rfl rfl)
    rw [run]
    refine ⟨fun bad => ?_, fun well expects => ?_, fun ack well expects => ?_,
      fun ack i well expects => ⟨fun other => ?_, fun ends away => ?_, fun id ends awaits hid sound => ?_⟩⟩
    · rw [if_neg bad]
      rfl
    · rw [if_pos well, assembleReply_expectKind expects]
      rfl
    · rw [if_pos well, assembleReply_expectSlot expects]
      rfl
    · rw [if_pos well, assembleReply_notEnd expects other]
      rfl
    · rw [if_pos well, ends, assembleReply_end expects, completeReply_stray away]
    · rw [if_pos well, ends, assembleReply_end expects]
      exact ⟨_, rfl, completeReply_retires awaits hid sound⟩
  · exact congrArg _ (if_neg (by tauto))
  · have fills := fillsOnly_retireSlot (o := .noAck) hid
    exact ⟨s.retireSlot i .noAck, congrArg _ (if_pos ⟨awaits, due⟩), (moves_retireSlot s i _).keepsLink, fills.nests,
      (congrArg Yield.window fills.yield :), retireSlot_retires ((sound_iff s).2 sound) hid⟩

end Sys2Proof.Machine
end

section
/-! The label message's characters (O33). -/

namespace Sys2Proof.Machine

/-! ### Fields of a message -/

section Fields
variable {m pre field post : List Byte} {n k : Nat}

/-- The bytes of a field that stands behind `n` others. -/
theorem take_drop_field (split : m = pre ++ field ++ post) (before : pre.length = n) (size : field.length = k) :
    (m.drop n).take k = field := by
  subst split before size
  rw [List.append_assoc, List.drop_left, List.take_left]

theorem getD_field {j : Nat} (split : m = pre ++ field ++ post) (before : pre.length = n) (inside : j < field.length) :
    m.getD (n + j) 0 = field.getD j 0 := by
  subst split before
  rw [List.append_assoc, List.getD_append_right _ _ _ _ (Nat.le_add_right ..), Nat.add_sub_cancel_left,
    List.getD_append _ _ _ _ inside]

end Fields

/-! ### Decimal digits and the padded code -/

@[simp] theorem decimalDigits_length (k v : Nat) : (decimalDigits k v).length = k := by
  induction k generalizing v with
  | zero => rfl
  | succ k ih => rw [decimalDigits, List.length_append, ih]; rfl

/-- Digit `j` of `k` stands for 10 to the power of the digits behind it. -/
theorem decimalDigits_getD {k j : Nat} (v : Nat) (inside : j < k) :
    ((decimalDigits k v).getD j 0).toNat = 0x30 + v / 10 ^ (k - 1 - j) % 10 := by
  induction k generalizing v with
  | zero => exact absurd inside (Nat.not_lt_zero j)
  | succ k ih =>
    rw [decimalDigits]
    by_cases last : j = k
    · subst last
      rw [List.getD_append_right _ _ _ _ (decimalDigits_length ..).le, decimalDigits_length]
      simp
      omega
    · have earlier : j < k := by omega
      have power : k + 1 - 1 - j = (k - 1 - j) + 1 := by omega
      rw [List.getD_append _ _ _ _ (by rwa [decimalDigits_length]), ih _ earlier, power, Nat.pow_succ',
        Nat.div_div_eq_div_mul]

/-- A label code with its padding (R146). -/
def paddedCode (code : List Byte) : List Byte := (code ++ List.replicate 8 0x20).take 8

theorem paddedCode_eq {code : List Byte} (fits : code.length ≤ 8) :
    paddedCode code = code ++ List.replicate (8 - code.length) 0x20 := by
  rw [paddedCode, List.take_append, List.take_of_length_le fits, List.take_replicate, Nat.min_eq_left (Nat.sub_le ..)]

@[simp] theorem paddedCode_length (code : List Byte) : (paddedCode code).length = 8 := by
  simp [paddedCode]

@[simp] theorem UnitClass.chars_length (c : UnitClass) : c.chars.length = 2 := by cases c <;> rfl

/-! ### The message -/

/-- Characters 2 to 24 of a label message: slot letter, code, carrier number, bin and class code. -/
def labelBody (i : SlotId) (b : BinEntry) (carrier : Nat) (c : UnitClass) : List Byte :=
  [slotLetter i] ++ paddedCode b.code ++ decimalDigits 10 carrier ++ decimalDigits 2 b.bin ++ c.chars

@[simp] theorem labelBody_length (i : SlotId) (b : BinEntry) (carrier : Nat) (c : UnitClass) :
    (labelBody i b carrier c).length = 23 := by
  simp [labelBody]

theorem labelMessage_eq {i : SlotId} {u : UnitRecord} {b : BinEntry} {c : UnitClass} (bin : u.binCopy = some b)
    (cls : u.unitClass = some c) :
    labelMessage i u =
      [0x02] ++ labelBody i b u.carrier.toNat c ++
        [(labelBody i b u.carrier.toNat c).foldl (fun x y => x ^^^ y) 0, 0x03] := by
  unfold labelMessage
  rw [bin, cls]
  exact List.append_assoc ([0x02] ++ labelBody i b u.carrier.toNat c) [_] [0x03]

/-- Settles O33, field by field of the message. -/
theorem labelMessageForm : Obligations.LabelMessageForm := by
  intro i u b c bin cls _ fits small m
  set carrier := u.carrier.toNat
  set body := labelBody i b carrier c with hbody
  set check := body.foldl (fun x y => x ^^^ y) 0
  set code := paddedCode b.code
  set digits := decimalDigits 10 carrier
  set bins := decimalDigits 2 b.bin
  have whole : m = [0x02] ++ body ++ [check, 0x03] := labelMessage_eq bin cls
  have layout : m = [0x02, slotLetter i] ++ code ++ digits ++ bins ++ c.chars ++ [check, 0x03] := by
    rw [whole, hbody]
    simp [labelBody, code, digits, bins]
  have length : body.length = 23 := labelBody_length ..
  have codeLength : code.length = 8 := paddedCode_length _
  have digitsLength : digits.length = 10 := decimalDigits_length ..
  have binsLength : bins.length = 2 := decimalDigits_length ..
  have codeAt : m = [0x02, slotLetter i] ++ code ++ (digits ++ bins ++ c.chars ++ [check, 0x03]) := by
    simp only [layout, List.append_assoc]
  have digitsAt : m = ([0x02, slotLetter i] ++ code) ++ digits ++ (bins ++ c.chars ++ [check, 0x03]) := by
    simp only [layout, List.append_assoc]
  have binsAt : m = ([0x02, slotLetter i] ++ code ++ digits) ++ bins ++ (c.chars ++ [check, 0x03]) := by
    simp only [layout, List.append_assoc]
  have endAt : m = ([0x02] ++ body) ++ [check, 0x03] ++ [] := by rw [whole, List.append_nil]
  refine ⟨?_, ?_, ?_, ?_, ?_, fun j inside => ?_, ?_, ?_, ?_, ?_⟩
  · rw [whole]; simp [length]
  · rw [whole]; rfl
  · exact getD_field (n := 24) (j := 1) endAt (by simp [length]) Nat.one_lt_two
  · rw [layout]; cases i <;> rfl
  · exact (take_drop_field codeAt rfl codeLength).trans (paddedCode_eq fits)
  · rw [getD_field digitsAt (by simp [codeLength]) (digitsLength.symm ▸ inside), decimalDigits_getD carrier inside]
  · rw [getD_field (n := 20) (j := 0) binsAt (by simp [codeLength, digitsLength]) (by omega),
      decimalDigits_getD b.bin Nat.two_pos]
    omega
  · rw [getD_field (n := 20) (j := 1) binsAt (by simp [codeLength, digitsLength]) (by omega),
      decimalDigits_getD b.bin Nat.one_lt_two]
    omega
  · exact take_drop_field layout (by simp [codeLength, digitsLength, binsLength]) c.chars_length
  · rw [show (m.drop 1).take 23 = body from take_drop_field whole rfl length]
    exact getD_field (n := 24) (j := 0) endAt (by simp [length]) Nat.two_pos

end Sys2Proof.Machine
end

section
/-! SET MARKING and READ MARKING (O47). -/

namespace Sys2Proof.Machine

theorem actSetMarking_outside {ops : List Byte} (outside : fieldAt ops 0 2 < 50 ∨ 5000 < fieldAt ops 0 2) (s : State) :
    actSetMarking ops s = refuse .range [] s := if_pos (by omega)

theorem actSetMarking_within {ops : List Byte} (low : 50 ≤ fieldAt ops 0 2) (high : fieldAt ops 0 2 ≤ 5000) (s : State) :
    actSetMarking ops s = ({ s with marking := { s.marking with ackMs := fieldAt ops 0 2 } }, .done []) :=
  if_neg (not_not.2 ⟨low, high⟩)

/-- READ MARKING's look at the transmitter: kept for the next read, and told in the reply (R158, log 9). -/
theorem actReadMarking_eq {ops : List Byte} {s : State} {x : Transmitter}
    (looked : s.marking.transmitter.lookedAt (Config.markingProgress s.freeCount) = x) :
    actReadMarking ops s =
      (({ s with marking := { s.marking with transmitter := x } } : State).spend,
        .done (markingBytes { s.marking with transmitter := x })) := by
  unfold actReadMarking
  rw [looked]

/-- A transmitter that sends no message is as the look finds it. -/
theorem actReadMarking_resting {ops : List Byte} {s : State} (rests : ∀ i k, s.marking.transmitter ≠ .sending i k) :
    actReadMarking ops s = (s.spend, .done (markingBytes s.marking)) := by
  refine actReadMarking_eq ?_
  cases line : s.marking.transmitter with
  | idle => rfl
  | sending i k => exact absurd line (rests i k)
  | stopping k => rfl

theorem markingBytes_transmitter (m : Marking) (x : Transmitter) :
    markingBytes { m with transmitter := x } =
      toBytes 2 m.ackMs ++ slotByte m.lastFilled ++ listBytes (toBytes 1) m.queue ++ m.slotA.bytes ++ m.slotB.bytes ++
        toBytes 1 m.receiver.code ++ x.bytes ++ toBytes 4 m.charErrors ++ toBytes 4 m.strayAcks := rfl

/-- Settles O47, by the transmitter that READ MARKING finds. -/
theorem markingCommands : Obligations.MarkingCommands := by
  intro s tag ops rest
  refine ⟨fun takes length => ⟨fun outside => ?_, fun low high => ?_⟩, fun takes length => ?_⟩
  · exact congrArg _ (takeCommand_refused takes (operands_length length) (actSetMarking_outside outside _))
  · exact congrArg _ (takeCommand_done takes (operands_length length) (actSetMarking_within low high _))
  · have fits : operands 0 ops = true := operands_length length
    intro m ackFrames slot data
    have told (x : Transmitter) : markingBytes { m with transmitter := x } = data x.bytes := markingBytes_transmitter m x
    have resting (x : Transmitter) (stands : m.transmitter = x) (rests : ∀ i k, x ≠ .sending i k) :
        exec .readMarking s = .next ((s.taken rest).spend.done tag 0x49 (data x.bytes)) := by
      subst stands
      refine congrArg _ (takeCommand_done takes fits ((actReadMarking_resting (s := s.taken rest) rests).trans ?_))
      exact congrArg (fun bytes => ((s.taken rest).spend, Answer.done bytes)) (told m.transmitter)
    refine ⟨fun idle => resting .idle idle nofun, fun k stopping => resting (.stopping k) stopping nofun,
      fun i k sending few => ?_⟩
    set free := Config.markingProgress s.freeCount
    obtain ⟨more, most⟩ := charsSent_bounds free few
    have looked : (s.taken rest).marking.transmitter.lookedAt free = .sending i (charsSent k free) :=
      congrArg (Transmitter.lookedAt · free) sending
    refine ⟨charsSent k free, more, most, congrArg _ (takeCommand_done takes fits ((actReadMarking_eq looked).trans ?_))⟩
    exact congrArg (fun bytes => (_, Answer.done bytes)) (told (.sending i (charsSent k free)))

end Sys2Proof.Machine
end

section
/-! RESUME LINE, ENABLE NEST and SET YIELD (O48). -/

namespace Sys2Proof.Machine

/-! ### RESUME LINE and ENABLE NEST -/

theorem actResumeLine_running {s : State} (running : s.yield.line = .running) (ops : List Byte) :
    actResumeLine ops s = refuse .notHeld [] s := if_pos running

theorem actResumeLine_held {s : State} (held : s.yield.line = .held) (ops : List Byte) :
    actResumeLine ops s =
      (({ s with yield := { s.yield with line := .running, window := [], passCount := 0 } } : State).notice
        (.clear s.yield.window.length s.yield.passCount s.link.frameIndex), .done []) :=
  if_neg (by rw [held]; decide)

theorem actEnableNest_outside {ops : List Byte} (outside : Nest.ofNum (fieldAt ops 0 1) = none) (s : State) :
    actEnableNest ops s = refuse .range [] s := by
  unfold actEnableNest
  rw [outside]

theorem actEnableNest_enabled {ops : List Byte} {n : Nest} (nest : Nest.ofNum (fieldAt ops 0 1) = some n) {s : State}
    (enabled : s.yield.admission.get n = .enabled) : actEnableNest ops s = refuse .notQuarantined [] s := by
  unfold actEnableNest
  rw [nest]
  exact if_pos enabled

theorem actEnableNest_quarantined {ops : List Byte} {n : Nest} (nest : Nest.ofNum (fieldAt ops 0 1) = some n)
    {s : State} (quarantined : s.yield.admission.get n = .quarantined) :
    actEnableNest ops s =
      ({ s with yield := { s.yield with streak := s.yield.streak.set n 0
                                        admission := s.yield.admission.set n .enabled } }, .done []) := by
  unfold actEnableNest
  rw [nest]
  exact if_neg (by rw [quarantined]; decide)

/-! ### SET YIELD -/

theorem yieldFieldBad_window {w : Nat} (outside : w < 16 ∨ 1024 < w) (l q : Nat) : yieldFieldBad w l q = some 0 :=
  if_pos (by omega)

theorem yieldFieldBad_hold {w l : Nat} (low : 16 ≤ w) (high : w ≤ 1024) (above : w < l) (q : Nat) :
    yieldFieldBad w l q = some 1 :=
  (if_neg (not_not.2 ⟨low, high⟩)).trans (if_pos (Nat.not_le.2 above))

theorem yieldFieldBad_within {w l q : Nat} (low : 16 ≤ w) (high : w ≤ 1024) (hold : l ≤ w) (level : q < 255) :
    yieldFieldBad w l q = none :=
  (if_neg (not_not.2 ⟨low, high⟩)).trans ((if_neg (not_not.2 hold)).trans (if_neg (Nat.not_le.2 level)))

theorem actSetYield_held {ops : List Byte}
    (within : yieldFieldBad (fieldAt ops 0 2) (fieldAt ops 2 2) (fieldAt ops 4 1) = none) {s : State}
    (held : s.yield.line = .held) : actSetYield ops s = refuse .held [] s := by
  unfold actSetYield
  dsimp only
  rw [within]
  exact if_pos held

/-- A window with its pass count right is trimmed to its newest entries and their pass count. -/
theorem Yield.trim_eq {y : Yield} (right : y.passCount = passesIn y.window) (w : Nat) :
    y.trim w =
      { y with window := y.window.drop (y.window.length - w)
               passCount := passesIn (y.window.drop (y.window.length - w)) } := by
  rw [← show (y.trim w).passCount = passesIn (y.window.drop (y.window.length - w)) from (y.trim_ok w right).2]
  rfl

theorem actSetYield_running {ops : List Byte}
    (within : yieldFieldBad (fieldAt ops 0 2) (fieldAt ops 2 2) (fieldAt ops 4 1) = none) {s : State}
    (running : s.yield.line = .running) :
    actSetYield ops s =
      ({ s with yield :=
          (s.yield.withSettings (fieldAt ops 0 2) (fieldAt ops 2 2) (fieldAt ops 4 1)).trim (fieldAt ops 0 2) },
        .done []) := by
  unfold actSetYield
  dsimp only
  rw [within]
  exact if_neg (by rw [running]; decide)

/-- Settles O48, one command after the other and its checks in their order. -/
theorem yieldCommands : Obligations.YieldCommands := by
  refine ⟨fun s tag ops rest => ⟨fun takes length => ⟨fun running => ?_, fun held => ?_⟩,
    fun takes length => ⟨fun outside => ?_, fun n nest => ⟨fun enabled => ?_, fun quarantined => ?_⟩⟩⟩,
    fun s tag ops rest takes length => ?_⟩
  · exact congrArg _ (takeCommand_refused takes (operands_length length)
      (actResumeLine_running (s := s.taken rest) running ops))
  · exact congrArg _ (takeCommand_done takes (operands_length length) (actResumeLine_held (s := s.taken rest) held ops))
  · exact congrArg _ (takeCommand_refused takes (operands_length length) (actEnableNest_outside outside _))
  · exact congrArg _ (takeCommand_refused takes (operands_length length)
      (actEnableNest_enabled nest (s := s.taken rest) enabled))
  · exact congrArg _ (takeCommand_done takes (operands_length length)
      (actEnableNest_quarantined nest (s := s.taken rest) quarantined))
  · intro w l q window
    have refused {reason : Reason} {data : List Byte}
        (bad : actSetYield ops (s.taken rest) = refuse reason data (s.taken rest)) :
        exec .setYield s = .next ((s.taken rest).refusal tag 0x54 reason data) :=
      congrArg _ (takeCommand_refused takes (operands_length length) bad)
    refine ⟨fun outside => ?_, fun low high above => ?_, fun low high hold level held => ?_,
      fun low high hold level running right => ?_⟩
    · exact refused (actSetYield_fieldBad (yieldFieldBad_window outside _ _) _)
    · exact refused (actSetYield_fieldBad (yieldFieldBad_hold low high above _) _)
    · exact refused (actSetYield_held (yieldFieldBad_within low high hold level) held)
    · refine congrArg _ (takeCommand_done takes (operands_length length) ?_)
      have trimmed := Yield.trim_eq (y := s.yield.withSettings w l q) right w
      refine (actSetYield_running (s := s.taken rest) (yieldFieldBad_within low high hold level) running).trans ?_
      exact congrArg (fun y : Yield => (({ s.taken rest with yield := y } : State), Answer.done [])) trimmed

end Sys2Proof.Machine
end

section
/-! What an operation keeps in order (for O58): the port's relation, the state's, and where a command taken and its
reply fit in. -/

namespace Sys2Proof.Machine

/-! ### The port -/

/-- Nine accumulators, none of them full (R204). -/
def Port.tapsOk (p : Port) : Prop := p.taps.length = 9 ∧ ∀ t ∈ p.taps, t.samples.length < 48

/-- The port after an operation that receives no cell, gives no reply and begins or ends no configuration write. -/
structure PortOrderly (p q : Port) : Prop where
  commands : q.commands.length ≤ p.commands.length
  replies : q.replies.length ≤ p.replies.length
  writes : ∀ tag addr data, q.unit = .writing tag addr data → p.unit = .writing tag addr data
  notices : p.notices.length ≤ 32 → q.notices.length ≤ 32
  tapQueue : p.tapQueue.length ≤ 8 → q.tapQueue.length ≤ 8
  taps : p.tapsOk → q.tapsOk
  streams : ∀ n, (q.streams.get n).length ≤ (p.streams.get n).length
  config : q.config = p.config

theorem PortOrderly.refl (p : Port) : PortOrderly p p where
  commands := le_rfl
  replies := le_rfl
  writes := fun _ _ _ => id
  notices := id
  tapQueue := id
  taps := id
  streams := fun _ => le_rfl
  config := rfl

theorem PortOrderly.trans {p q r : Port} (h : PortOrderly p q) (k : PortOrderly q r) : PortOrderly p r where
  commands := k.commands.trans h.commands
  replies := k.replies.trans h.replies
  writes := fun tag addr data => h.writes tag addr data ∘ k.writes tag addr data
  notices := k.notices ∘ h.notices
  tapQueue := k.tapQueue ∘ h.tapQueue
  taps := k.taps ∘ h.taps
  streams := fun n => (k.streams n).trans (h.streams n)
  config := k.config.trans h.config

theorem PortMoves.orderly {p q : Port} (h : PortMoves p q) : PortOrderly p q where
  commands := h.commands ▸ le_rfl
  replies := h.replies ▸ le_rfl
  writes := fun _ _ _ writing => h.unit ▸ writing
  notices := h.notices
  tapQueue := h.tapQueue ▸ id
  taps := by unfold Port.tapsOk; rw [h.taps]; exact id
  streams := h.streams
  config := h.config

theorem PortOrderly.bounded {p q : Port} (h : PortOrderly p q) : p.bounded → q.bounded := by
  rintro ⟨commands, replies, room, notices, tapQueue, nine, unfilled, streams⟩
  obtain ⟨nine', unfilled'⟩ := h.taps ⟨nine, unfilled⟩
  refine ⟨h.commands.trans commands, h.replies.trans replies, ?_, h.notices notices, h.tapQueue tapQueue, nine',
    unfilled', fun n => (h.streams n).trans (streams n)⟩
  exact room.imp h.replies.trans_lt fun none tag addr data writing =>
    none tag addr data (h.writes tag addr data writing)

/-! ### The drive samples and the tap -/

/-- What a frame does to the port, where its tap and its buffers stay within their sizes. -/
theorem PortOrderly.of_still {p q : Port} (still : q.still = p.still)
    (tapQueue : p.tapQueue.length ≤ 8 → q.tapQueue.length ≤ 8) (taps : p.tapsOk → q.tapsOk)
    (streams : ∀ n, (q.streams.get n).length ≤ (p.streams.get n).length) : PortOrderly p q where
  commands := (congrArg (fun x : Port => x.commands.length) still).le
  replies := (congrArg (fun x : Port => x.replies.length) still).le
  writes := fun _ _ _ writing => (congrArg Port.unit still).symm.trans writing
  notices := ((congrArg (fun x : Port => x.notices.length) still).le).trans
  tapQueue := tapQueue
  taps := taps
  streams := streams
  config := (congrArg Port.config still :)

theorem portOrderly_drainStream (p : Port) (n : Nest) : PortOrderly p (p.drainStream n).2 := by
  refine .of_still (p.still_drainStream n) ?_ ?_ fun m => ?_
  · unfold Port.drainStream
    split <;> exact id
  · unfold Port.drainStream
    split <;> exact id
  · unfold Port.drainStream
    split
    · exact le_rfl
    · rename_i x xs buffer
      dsimp only
      rw [PerNest.get_set]
      split
      · rename_i same
        rw [same, buffer]
        exact Nat.le_succ _
      · exact le_rfl

theorem portOrderly_driveSample (p : Port) (q : NestState) (n : Nest) (x : Sample) :
    PortOrderly p (p.driveSample q n x).2 := by
  unfold Port.driveSample
  split
  · exact portOrderly_drainStream p n
  · exact .refl p

theorem portOrderly_driveSamples (s : State) (f : PerNest ToneFrame) : PortOrderly s.port (s.driveSamples f).2 :=
  (portOrderly_driveSample _ _ _ _).trans ((portOrderly_driveSample _ _ _ _).trans
    ((portOrderly_driveSample _ _ _ _).trans (portOrderly_driveSample _ _ _ _)))

/-- One accumulator replaced by one that is not full. -/
theorem Port.tapsOk_set {p : Port} (h : p.tapsOk) (i : Nat) {t : TapAccumulator} (unfilled : t.samples.length < 48) :
    (p.taps.set i t).length = 9 ∧ ∀ u ∈ p.taps.set i t, u.samples.length < 48 := by
  refine ⟨List.length_set.trans h.1, fun u hu => ?_⟩
  rcases List.mem_or_eq_of_mem_set hu with old | new
  · exact h.2 u old
  · exact new ▸ unfilled

theorem formTapCell_taps (p : Port) (c : Nat) : (p.formTapCell c).taps = p.taps.set (c - 1) .empty := by
  unfold Port.formTapCell
  dsimp only
  split <;> rfl

theorem formTapCell_streams (p : Port) (c : Nat) : (p.formTapCell c).streams = p.streams := by
  unfold Port.formTapCell
  dsimp only
  split <;> rfl

theorem formTapCell_tapQueue {p : Port} (c : Nat) (fits : p.tapQueue.length ≤ 8) :
    (p.formTapCell c).tapQueue.length ≤ 8 := by
  unfold Port.formTapCell
  dsimp only
  split
  · rw [List.length_append]
    exact Nat.succ_le_of_lt ‹_›
  · exact fits

theorem portOrderly_tapCellCheck (p : Port) (c : Nat) : PortOrderly p (p.tapCellCheck c) := by
  unfold Port.tapCellCheck
  split
  · refine .of_still (p.still_formTapCell c) (formTapCell_tapQueue c) (fun h => ?_) fun n => by rw [formTapCell_streams]
    unfold Port.tapsOk
    rw [formTapCell_taps]
    exact Port.tapsOk_set h _ (by decide)
  · exact .refl p

/-- The accumulator that the sample fills is emptied into a cell; any other takes it and is not full yet. -/
theorem portOrderly_tapSample (p : Port) (index : Word) (sub : Bool) (c : Nat) (x : Sample) :
    PortOrderly p (p.tapSample index sub c x) := by
  have still := p.still_tapSample index sub c x
  revert still
  unfold Port.tapSample Port.tapCellCheck
  split
  · set old := p.taps.getD (c - 1) .empty
    set added : Port := { p with taps := p.taps.set (c - 1) (old.add index x sub) } with defined
    split
    · intro still
      refine .of_still still (formTapCell_tapQueue (p := added) c) (fun h => ?_) fun n => by rw [formTapCell_streams]
      unfold Port.tapsOk
      rw [formTapCell_taps, defined, List.set_set]
      exact Port.tapsOk_set h _ (by decide)
    · rename_i notFull
      refine fun still => .of_still still id (fun h => ?_) fun _ => le_rfl
      by_cases inside : c - 1 < p.taps.length
      · refine Port.tapsOk_set h _ ?_
        have below : old.samples.length < 48 := by
          have member : old ∈ p.taps := by
            simp only [old, List.getD_eq_getElem?_getD, List.getElem?_eq_getElem inside, Option.getD_some]
            exact List.getElem_mem inside
          exact h.2 old member
        have grown : (old.add index x sub).samples.length = old.samples.length + 1 := by simp [TapAccumulator.add]
        have held : added.taps.getD (c - 1) .empty = old.add index x sub := by
          simp [defined, inside]
        rw [held, grown] at notFull
        rw [grown]
        exact Nat.lt_of_le_of_ne below notFull
      · unfold Port.tapsOk
        rw [defined]
        dsimp only
        rw [List.set_eq_of_length_le (Nat.le_of_not_lt inside)]
        exact h
  · exact fun _ => .refl p

theorem portOrderly_tapFrom (p : Port) (index : Word) (sub : Bool) (c : Nat) (xs : List Sample) :
    PortOrderly p (p.tapFrom index sub c xs) := by
  induction xs generalizing p c with
  | nil => exact .refl p
  | cons x xs ih => exact (portOrderly_tapSample p index sub c x).trans (ih _ _)

/-- A new selection keeps the accumulators or empties them (R205). -/
theorem portOrderly_select (p : Port) (sel : BitVec 9) : PortOrderly p (p.select sel) := by
  refine { PortOrderly.refl p with taps := fun h => ⟨by simp [Port.select], fun t ht => ?_⟩ }
  obtain ⟨i, hi, rfl⟩ := List.mem_map.1 ht
  split
  · have inside : i < p.taps.length := h.1 ▸ List.mem_range.1 hi
    rw [List.getD_eq_getElem?_getD, List.getElem?_eq_getElem inside]
    exact h.2 _ (List.getElem_mem inside)
  · decide

/-- A cell sent leaves its source shorter (R206). -/
theorem portOrderly_slot (p : Port) : PortOrderly p p.slot.2 := by
  unfold Port.slot
  split
  · exact { PortOrderly.refl p with }
  · split
    · rename_i waiting
      exact { PortOrderly.refl p with replies := by rw [waiting]; exact Nat.le_succ _ }
    · split
      · rename_i waiting
        exact { PortOrderly.refl p with notices := by rw [waiting]; exact Nat.le_of_succ_le }
      · split
        · rename_i waiting
          exact { PortOrderly.refl p with tapQueue := by rw [waiting]; exact Nat.le_of_succ_le }
        · exact .refl p

/-! ### The state -/

/-- The statement's seven invariants, each kept from `s` to `t`. -/
structure InOrder (s t : State) : Prop where
  yield : s.yield.ok → t.yield.ok
  pool : s.analyser.pool → t.analyser.pool
  retries : s.retriesOk → t.retriesOk
  memories : s.memoriesOk → t.memoriesOk
  bounded : s.port.bounded → t.port.bounded
  tables : s.tablesOk → t.tablesOk
  ring : s.capture.ok → t.capture.ok

/-- The same with more about the port, so that a command's reply finds its room behind the operation. -/
structure Orderly (s t : State) : Prop where
  yield : s.yield.ok → t.yield.ok
  pool : s.analyser.pool → t.analyser.pool
  retries : s.retriesOk → t.retriesOk
  memories : s.memoriesOk → t.memoriesOk
  tables : s.tablesOk → t.tablesOk
  ring : s.capture.ok → t.capture.ok
  port : PortOrderly s.port t.port

theorem InOrder.refl (s : State) : InOrder s s := ⟨id, id, id, id, id, id, id⟩

/-- The last operation first, as in `Moves.after`. -/
theorem InOrder.after {s t u : State} (k : InOrder t u) (h : InOrder s t) : InOrder s u :=
  ⟨k.yield ∘ h.yield, k.pool ∘ h.pool, k.retries ∘ h.retries, k.memories ∘ h.memories, k.bounded ∘ h.bounded,
    k.tables ∘ h.tables, k.ring ∘ h.ring⟩

theorem Orderly.refl (s : State) : Orderly s s := ⟨id, id, id, id, id, id, .refl _⟩

/-- The last operation first, as in `Moves.after`. -/
theorem Orderly.after {s t u : State} (k : Orderly t u) (h : Orderly s t) : Orderly s u :=
  ⟨k.yield ∘ h.yield, k.pool ∘ h.pool, k.retries ∘ h.retries, k.memories ∘ h.memories, k.tables ∘ h.tables,
    k.ring ∘ h.ring, h.port.trans k.port⟩

theorem Orderly.inOrder {s t : State} (h : Orderly s t) : InOrder s t :=
  ⟨h.yield, h.pool, h.retries, h.memories, h.port.bounded, h.tables, h.ring⟩

theorem Moves.orderly {s t : State} (h : Moves s t) : Orderly s t where
  yield := h.yield
  pool := h.lanes.trans
  retries := h.retries
  memories := by
    rintro ⟨rows, config, words⟩
    exact ⟨h.rows ▸ rows, h.port.config ▸ config, h.words words⟩
  tables := by
    rintro ⟨directory, uses, bins, records⟩
    exact ⟨h.directory ▸ directory, h.uses.trans uses, h.bins ▸ bins, h.records.trans records⟩
  ring := h.ring
  port := h.port.orderly

variable (s : State)

theorem orderly_port {p : Port} (h : PortOrderly s.port p) : Orderly s { s with port := p } :=
  { Orderly.refl s with
    memories := fun ⟨rows, config, words⟩ => ⟨rows, (congrArg (Memory.wf erased) h.config).trans config, words⟩
    port := h }

/-- What none of the invariants is about: the link, the STOP input, the link outputs, the queue of events. -/
theorem orderly_around (l : Link) (stopLine : Bool) (out : Outputs) (pending : List Instr) :
    Orderly s { s with link := l, stopLine := stopLine, out := out, pending := pending } := { Orderly.refl s with }

/-- A recipe memory with rows in canonical form and tables of the same sizes. -/
theorem orderly_recipe {r : Recipe} (rows : Memory.wf 0 s.recipe.rows = true → Memory.wf 0 r.rows = true)
    (directory : r.directory.length = s.recipe.directory.length) (uses : r.useCount = s.recipe.useCount)
    (bins : s.recipe.bins.length = 10 → r.bins.length = 10) : Orderly s { s with recipe := r } :=
  { Orderly.refl s with
    memories := fun ⟨canonical, config, words⟩ => ⟨rows canonical, config, words⟩
    tables := fun ⟨eight, eightUses, ten, records⟩ =>
      ⟨directory.trans eight, (congrArg List.length uses).trans eightUses, bins ten, records⟩ }

/-! ### A command taken and its reply -/

variable {s}

theorem orderly_popCommand : Orderly s s.popCommand :=
  orderly_port s { PortOrderly.refl s.port with commands := by rw [List.length_tail]; exact Nat.sub_le _ _ }

/-- A reply joins where fewer than 8 wait and no configuration write is going on (R200). -/
theorem Orderly.replied {t : State} (h : Orderly s t) (idle : s.port.unit = .idle) (room : s.port.replies.length < 8)
    (r : Reply) : InOrder s (t.reply r) :=
  { h.inOrder with
    bounded := fun bounded => by
      obtain ⟨commands, -, -, rest⟩ := h.port.bounded bounded
      refine ⟨commands, ?_, Or.inr fun tag addr data writing => ?_, rest⟩
      · show (t.port.replies ++ [r]).length ≤ 8
        rw [List.length_append]
        exact Nat.succ_le_of_lt (h.port.replies.trans_lt room)
      · have same := h.port.writes tag addr data writing
        rw [idle] at same
        cases same }

/-- A cell taken and answered, with an orderly operation between. -/
theorem answered_inOrder {cell : CommandCell} (taken : s.port.takeable = some cell) {t : State}
    (h : Orderly s.popCommand t) (a : Answer) : InOrder s (t.answer cell a) := by
  obtain ⟨idle, room, -⟩ := (Port.takeable_eq_some _ _).1 taken
  have all : Orderly s t := h.after orderly_popCommand
  cases a with
  | done data => exact all.replied idle room _
  | refused reason data => exact all.replied idle room _
  | later => exact all.inOrder

theorem takeCommand_inOrder_of {code : Byte} {fits : List Byte → Bool} {act : List Byte → State → State × Answer}
    (h : ∀ cell, s.port.takeable = some cell →
      InOrder s ((act cell.payload.tail s.popCommand).1.answer cell (act cell.payload.tail s.popCommand).2)) :
    InOrder s (takeCommand code fits act s) :=
  takeCommand_keeps (InOrder s) (.refl s) (fun _ _ taken => answered_inOrder taken (.refl _) _) h

theorem takeCommand_inOrder {code : Byte} {fits : List Byte → Bool} {act : List Byte → State → State × Answer}
    (h : ∀ bs t, Orderly t (act bs t).1) : InOrder s (takeCommand code fits act s) :=
  takeCommand_inOrder_of fun _ taken => answered_inOrder taken (h _ _) _

end Sys2Proof.Machine
end

section
/-! Each command's own rule keeps everything in order (for O58). -/

namespace Sys2Proof.Machine

variable (s : State)

/-! ### Recipe memory -/

theorem orderly_setEntry (e : Nat) (d : DirEntry) : Orderly s (s.setEntry e d) :=
  orderly_recipe s id List.length_set rfl id

theorem orderly_actWriteRows (bs : List Byte) : Orderly s (actWriteRows bs s).1 := by
  unfold actWriteRows
  dsimp only
  split
  · exact .refl s
  · split
    · exact .refl s
    · exact orderly_recipe s (Memory.wf_writeMany _ _) (List.length_map _) rfl id

theorem orderly_actReadRows (bs : List Byte) : Orderly s (actReadRows bs s).1 := by
  unfold actReadRows
  dsimp only
  split <;> exact .refl s

theorem orderly_actWriteDirectory (bs : List Byte) : Orderly s (actWriteDirectory bs s).1 := by
  unfold actWriteDirectory
  dsimp only
  split
  · exact .refl s
  · split
    · exact .refl s
    · split
      · exact orderly_setEntry s _ _
      · split
        · exact .refl s
        · exact orderly_setEntry s _ _

theorem orderly_actReadDirectory (bs : List Byte) : Orderly s (actReadDirectory bs s).1 := by
  unfold actReadDirectory
  dsimp only
  split <;> exact .refl s

theorem orderly_actActivate (bs : List Byte) : Orderly s (actActivate bs s).1 := by
  unfold actActivate
  dsimp only
  split
  · exact .refl s
  · split
    · exact .refl s
    · exact .refl s
    · split
      · exact .refl s
      · exact orderly_setEntry s _ _

theorem orderly_actDeactivate (bs : List Byte) : Orderly s (actDeactivate bs s).1 := by
  unfold actDeactivate
  dsimp only
  split
  · exact .refl s
  · split
    · exact .refl s
    · split <;> exact .refl s
    · split
      · exact .refl s
      · exact orderly_setEntry s _ _

theorem orderly_actWriteBins (bs : List Byte) : Orderly s (actWriteBins bs s).1 := by
  unfold actWriteBins
  dsimp only
  split
  · exact .refl s
  · split
    · exact .refl s
    · split
      · exact .refl s
      · exact orderly_recipe s id rfl rfl (writeBinsAt_length _ _ _).trans

/-! ### Units and streams -/

theorem moves_actArrive (bs : List Byte) : Moves s (actArrive bs s).1 := by
  unfold actArrive
  dsimp only
  split
  · exact .refl s
  · split
    · exact moves_admit s _ _ _ _ _
    · exact .refl s

theorem moves_actRelease (bs : List Byte) : Moves s (actRelease bs s).1 := by
  unfold actRelease
  split
  · exact .refl s
  · split
    · exact .refl s
    · split
      · exact .refl s
      · split
        · exact .refl s
        · split
          · exact .refl s
          · exact moves_releaseUnit s _ _ _

theorem moves_actAbort (bs : List Byte) : Moves s (actAbort bs s).1 := by
  unfold actAbort
  split
  · exact .refl s
  · split
    · exact .refl s
    · split
      · exact moves_discardJudged s _ _
      · exact moves_abortRunning s _

/-- A stream's reservation and its release: the buffer emptied, the nest in its new state (R64, R65). -/
theorem moves_streamState (n : Nest) (x : NestState) :
    Moves s (({ s with port := s.port.emptyStream n } : State).modNest n fun q => { q with state := x }) :=
  (moves_emptyStream s n).trans (moves_modNest _ n _ fun _ h => h)

theorem moves_actReserveStream (bs : List Byte) : Moves s (actReserveStream bs s).1 := by
  unfold actReserveStream
  split
  · exact .refl s
  · rename_i n _
    split
    · exact .refl s
    · split
      · exact .refl s
      · dsimp only
        exact (moves_streamState s n .reserved).trans (moves_modTone _ n _)

theorem moves_actReleaseStream (bs : List Byte) : Moves s (actReleaseStream bs s).1 := by
  unfold actReleaseStream
  split
  · exact .refl s
  · rename_i n _
    split
    · exact .refl s
    · exact moves_streamState s n .idle

theorem orderly_actReadUnit (bs : List Byte) : Orderly s (actReadUnit bs s).1 := by
  unfold actReadUnit
  dsimp only
  split
  · exact .refl s
  · split <;> exact .refl s

/-! ### Settings of the analyser, the guard, the marking port and the yield block -/

theorem moves_calibration (c : PerNest Int) : Moves s { s with analyser := { s.analyser with calibration := c } } :=
  moves_modAnalyser s (fun a => { a with calibration := c }) rfl

theorem moves_actSetCalibration (bs : List Byte) : Moves s (actSetCalibration bs s).1 := by
  unfold actSetCalibration
  dsimp only
  split
  · exact .refl s
  · split
    · exact .refl s
    · exact moves_calibration s _

theorem moves_actSetGuard (bs : List Byte) : Moves s (actSetGuard bs s).1 := by
  unfold actSetGuard
  split
  · exact .refl s
  · exact moves_setGuard s _

theorem moves_actSetMarking (bs : List Byte) : Moves s (actSetMarking bs s).1 := by
  unfold actSetMarking
  dsimp only
  split
  · exact .refl s
  · exact moves_marking s _

theorem moves_actReadMarking (bs : List Byte) : Moves s (actReadMarking bs s).1 :=
  (moves_spend _).after (moves_marking s _)

theorem moves_actClearCounts (bs : List Byte) : Moves s (actClearCounts bs s).1 :=
  Moves.after (moves_marking _ _) (moves_withCounts s fun _ => .zero)

/-- An emptied window has no PASS entry. -/
theorem Yield.ok_resumed (y : Yield) : ({ y with line := .running, window := [], passCount := 0 } : Yield).ok :=
  ⟨Nat.zero_le _, rfl⟩

theorem moves_actResumeLine (bs : List Byte) : Moves s (actResumeLine bs s).1 := by
  unfold actResumeLine
  split
  · exact .refl s
  · exact (moves_notice _ _).after (moves_yield s _ fun _ => Yield.ok_resumed s.yield)

theorem moves_actEnableNest (bs : List Byte) : Moves s (actEnableNest bs s).1 := by
  unfold actEnableNest
  split
  · exact .refl s
  · split
    · exact .refl s
    · exact moves_yield s _ id

/-- New settings with the window trimmed to the new length (R172). -/
theorem moves_yieldSettings (w l q : Nat) : Moves s { s with yield := (s.yield.withSettings w l q).trim w } :=
  moves_yield s _ fun h => Yield.trim_ok (s.yield.withSettings w l q) w h.2

theorem moves_actSetYield (bs : List Byte) : Moves s (actSetYield bs s).1 := by
  unfold actSetYield
  dsimp only
  split
  · exact .refl s
  · split
    · exact .refl s
    · exact moves_yieldSettings s _ _ _

/-! ### The capture read-out -/

theorem moves_releaseHead : Moves s { s with capture := s.capture.releaseHead } := by
  refine moves_capture s _ (fun h => ?_) Capture.ok_releaseHead
  unfold Capture.releaseHead
  split <;> exact h

theorem moves_setHeadCursor (k : Nat) : Moves s { s with capture := s.capture.setHeadCursor k } := by
  refine moves_capture s _ (fun h => ?_) (Capture.ok_setHeadCursor k)
  unfold Capture.setHeadCursor
  split <;> exact h

theorem moves_withHead {act : CaptureRecord → State → State × Answer} (h : ∀ r t, Moves t (act r t).1) :
    Moves s (s.withHead act).1 := by
  unfold State.withHead
  split
  · exact .refl s
  · split
    · exact .refl s
    · exact (h _ _).after (moves_capture s _ id Capture.ok_reclaim)
    · exact .refl s

theorem moves_actCaptureHead (bs : List Byte) : Moves s (actCaptureHead bs s).1 := moves_withHead s fun _ t => .refl t

theorem moves_actCaptureRead (bs : List Byte) : Moves s (actCaptureRead bs s).1 := by
  unfold actCaptureRead
  dsimp only
  split
  · exact .refl s
  · split
    · exact .refl s
    · refine moves_withHead s fun r t => ?_
      split
      · exact .refl t
      · split
        · exact moves_releaseHead t
        · exact moves_setHeadCursor t _

theorem moves_actCaptureDrop (bs : List Byte) : Moves s (actCaptureDrop bs s).1 :=
  moves_withHead s fun _ t => moves_releaseHead t

/-! ### The port's own commands -/

theorem orderly_actStatus (bs : List Byte) : Orderly s (actStatus bs s).1 :=
  orderly_port s { PortOrderly.refl s.port with }

theorem orderly_actSetNotices (bs : List Byte) : Orderly s (actSetNotices bs s).1 :=
  orderly_port s { PortOrderly.refl s.port with }

theorem orderly_actSetTap (bs : List Byte) : Orderly s (actSetTap bs s).1 := by
  unfold actSetTap
  dsimp only
  split
  · exact .refl s
  · exact orderly_port s (portOrderly_select _ _)

theorem orderly_actReboot (bs : List Byte) : Orderly s (actReboot bs s).1 :=
  orderly_port s { PortOrderly.refl s.port with writes := nofun }

theorem orderly_actConfigRead (bs : List Byte) : Orderly s (actConfigRead bs s).1 := by
  unfold actConfigRead
  dsimp only
  split <;> exact .refl s

/-- A configuration write begins where fewer than 8 replies wait, and gives none yet (R200, R212). -/
theorem inOrder_writing (room : s.port.replies.length < 8) (tag : Byte) (addr : Nat) (data : List Byte) :
    InOrder s { s with port := { s.port with unit := .writing tag addr data } } :=
  { InOrder.refl s with
    bounded := fun ⟨commands, replies, _, rest⟩ => ⟨commands, replies, Or.inl room, rest⟩ }

theorem takeConfigWrite_inOrder {code : Byte} {fits : List Byte → Bool} (tag : Byte) :
    InOrder s (takeCommand code fits (actConfigWrite tag) s) := by
  refine takeCommand_inOrder_of fun cell taken => ?_
  obtain ⟨-, room, -⟩ := (Port.takeable_eq_some _ _).1 taken
  unfold actConfigWrite
  dsimp only
  split
  · exact answered_inOrder taken (.refl _) _
  · exact (inOrder_writing s.popCommand room _ _ _).after orderly_popCommand.inOrder

end Sys2Proof.Machine
end

section
/-! The start-up load, the frames and the events keep everything in order, and with the commands every step does
(O58). -/

namespace Sys2Proof.Machine

variable (s : State)

/-! ### POWER ON and the start-up load -/

theorem configAtReset_wf (h : Memory.wf erased s.port.config = true) : Memory.wf erased s.configAtReset = true := by
  unfold State.configAtReset
  split
  · exact Memory.wf_tornWrite _ _ _ _ h
  · exact h
  · exact h

/-- POWER ON brings every block to its reset values, which are in order, and keeps the configuration memory. -/
theorem inOrder_powerOn : InOrder s s.powerOn := by
  obtain ⟨yield, pool, retries, ⟨rows, -, words⟩, bounded, tables, ring, -⟩ := resetHasInvariants
  exact
    { yield := fun _ => yield, pool := fun _ => pool, retries := fun _ => retries
      memories := fun ⟨_, config, _⟩ => ⟨rows, configAtReset_wf s config, words⟩
      bounded := fun _ => bounded, tables := fun _ => tables, ring := fun _ => ring }

theorem orderly_groupResult {o : Option State} (h : ∀ t, o = some t → Orderly s t) : Orderly s (groupResult s o).1 := by
  unfold groupResult
  split
  · exact .refl s
  · exact h _ rfl

theorem orderly_loadGroup (control i : Nat) {load : State → State × GroupResult} (h : Orderly s (load s).1) :
    Orderly s (loadGroup control i load s).1 := by
  unfold loadGroup
  split
  · exact h
  · exact .refl s

theorem orderly_loadCal : Orderly s (loadCal s).1 := by
  refine orderly_groupResult s fun t ht => ?_
  split at ht
  · cases ht
    exact (moves_calibration s _).orderly
  · cases ht

theorem orderly_loadGuard : Orderly s (loadGuard s).1 := by
  refine orderly_groupResult s fun t ht => ?_
  split at ht
  · cases ht
  · cases ht
    exact (moves_guard s _).orderly

theorem orderly_loadYield : Orderly s (loadYield s).1 := by
  refine orderly_groupResult s fun t ht => ?_
  split at ht
  · cases ht
  · cases ht
    exact (moves_yieldSettings s _ _ _).orderly

theorem orderly_loadMarking : Orderly s (loadMarking s).1 := by
  refine orderly_groupResult s fun t ht => ?_
  split at ht
  · cases ht
    exact (moves_marking s _).orderly
  · cases ht

theorem orderly_loadBins : Orderly s (loadBins s).1 := by
  refine orderly_groupResult s fun t ht => ?_
  split at ht
  · cases ht
  · cases ht
    exact orderly_recipe s id rfl rfl fun _ => by simp [binFieldsAt]

theorem orderly_loadNotices : Orderly s (loadNotices s).1 := orderly_port s { PortOrderly.refl s.port with }

/-- One entry of the directory image sets one entry of the directory (R216). -/
theorem takeEntry_sets (image : List Byte) (x : Recipe × List FailedEntry) (e : Nat) :
    ∃ d, (takeEntry image x e).1 = x.1.setEntry e d := by
  unfold takeEntry
  dsimp only
  split
  · exact ⟨_, rfl⟩
  · split
    · exact ⟨_, rfl⟩
    · split
      · exact ⟨_, rfl⟩
      · rename_i f _
        split
        · exact ⟨_, rfl⟩
        · split
          · exact ⟨_, rfl⟩
          · refine ⟨.active f, ?_⟩
            unfold Recipe.setEntry
            rw [List.set_set]

/-- The recipe image sets the rows and directory entries, and nothing else of the recipe memory (R216). -/
theorem takeRecipe_sets (r : Recipe) (image rows : List Byte) :
    ∃ directory, (takeRecipe r image rows).1 = { r with rows := Memory.ofBytes 0 0 rows, directory := directory } ∧
      directory.length = r.directory.length := by
  have entries (es : List Nat) (x : Recipe × List FailedEntry) :
      ∃ directory, (es.foldl (takeEntry image) x).1 = { x.1 with directory := directory } ∧
        directory.length = x.1.directory.length := by
    induction es generalizing x with
    | nil => exact ⟨_, rfl, rfl⟩
    | cons e es ih =>
      obtain ⟨d, set⟩ := takeEntry_sets image x e
      obtain ⟨directory, rest, length⟩ := ih (takeEntry image x e)
      rw [set] at rest length
      exact ⟨directory, rest, length.trans List.length_set⟩
  exact entries _ _

theorem orderly_loadRecipe : Orderly s (loadRecipe s).1.1 := by
  unfold loadRecipe
  dsimp only
  split
  · obtain ⟨directory, taken, length⟩ :=
      takeRecipe_sets s.recipe (s.port.configBytes 256 160) (s.port.configBytes 1024 65536)
    rw [taken]
    exact orderly_recipe s (fun _ => (Memory.wf_ofBytes _ _ _).1) length rfl id
  · exact .refl s

theorem orderly_loadGroups : Orderly s s.loadGroups.1 := by
  unfold State.loadGroups
  dsimp only
  generalize fieldAt (s.port.configBytes 6 2) 0 2 = control
  refine (orderly_loadGroup _ control 6 (orderly_loadNotices _)).after ?_
  have bins := (orderly_loadGroup _ control 4 (orderly_loadBins _)).after
    ((orderly_loadGroup _ control 3 (orderly_loadMarking _)).after
      ((orderly_loadGroup _ control 2 (orderly_loadYield _)).after
        ((orderly_loadGroup _ control 1 (orderly_loadGuard _)).after
          (orderly_loadGroup s control 0 (orderly_loadCal s)))))
  split
  · exact (orderly_loadRecipe _).after bins
  · exact bins

theorem orderly_endLoad : Orderly s s.endLoad := by
  have loaded : Orderly s s.startupLoad.1 := by
    unfold State.startupLoad
    split
    · exact orderly_loadGroups s
    · exact .refl s
  exact Orderly.after (orderly_port _ { PortOrderly.refl _ with }) loaded

/-! ### Frames and the link -/

theorem orderly_answerFrame (f : PerNest ToneFrame) : Orderly s (s.answerFrame f) :=
  Orderly.after (orderly_around _ _ _ _ _)
    (orderly_port s ((portOrderly_driveSamples s f).trans (portOrderly_tapFrom _ _ _ _ _)))

theorem orderly_frameUp : Orderly s s.frameUp := by
  unfold State.frameUp
  have consumed (t : State) (f : PerNest ToneFrame) : Moves t (t.consumeWithAcks fun u => u.consumeFrame f).spend :=
    (moves_spend _).after (moves_consumeWithAcks t _ fun u => moves_consumeFrame u f)
  have advanced : Moves s s.beginTones.advanceTones := Moves.after (moves_tones _ _) (moves_tones s _)
  exact (consumed _ _).orderly.after ((orderly_answerFrame _ _).after advanced.orderly)

theorem orderly_withLink (l : Link) : Orderly s (s.withLink l) := orderly_around s _ _ _ _

theorem orderly_substitutes (d : Nat) : Orderly s (State.substitutes d s) := by
  induction d generalizing s with
  | zero => exact .refl s
  | succ d ih =>
    exact (ih _).after ((moves_betweenFrames _).orderly.after ((orderly_frameUp _).after (orderly_withLink s _)))

theorem orderly_linkNotice : Orderly s s.linkNotice := (moves_notice s _).orderly

/-- The loss of the link empties the nine accumulators (R204). -/
theorem portOrderly_emptyTaps (p : Port) : PortOrderly p { p with taps := List.replicate 9 .empty } :=
  { PortOrderly.refl p with
    taps := fun _ => ⟨rfl, fun t ht => by rw [List.eq_of_mem_replicate ht]; decide⟩ }

theorem orderly_linkLoss : Orderly s s.linkLoss := by
  unfold State.linkLoss
  have down : Orderly s { s with link := s.link.goDown, port := { s.port with taps := List.replicate 9 .empty } } :=
    Orderly.after (orderly_around _ _ _ _ _) (orderly_port s (portOrderly_emptyTaps s.port))
  exact (orderly_linkNotice _).after ((moves_inNestOrder _ _ fun n t => moves_endForLink t n).orderly.after down)

theorem orderly_acquisitionFault : Orderly s s.acquisitionFault := orderly_withLink s _

theorem orderly_badRunLimit : Orderly s s.badRunLimit := by
  unfold State.badRunLimit
  split
  · exact orderly_linkLoss s
  · exact .refl s

theorem orderly_acquisitionEnd : Orderly s s.acquisitionEnd := by
  unfold State.acquisitionEnd
  split
  · exact (orderly_linkNotice _).after (orderly_withLink s _)
  · exact .refl s

theorem orderly_arriveDown (f : Option UpstreamFrame) : Orderly s (s.arriveDown f) := by
  cases f with
  | none => exact .refl s
  | some f => exact (moves_frameAcquiring _).orderly.after (orderly_withLink s _)

theorem orderly_arriveAcquiring (f : Option UpstreamFrame) : Orderly s (s.arriveAcquiring f) := by
  unfold State.arriveAcquiring
  split
  · exact (orderly_acquisitionFault _).after (orderly_withLink s _)
  · split
    · exact (orderly_acquisitionEnd _).after ((moves_frameAcquiring _).orderly.after (orderly_withLink s _))
    · exact orderly_acquisitionFault s

theorem orderly_arriveUp (f : Option UpstreamFrame) : Orderly s (s.arriveUp f) := by
  unfold State.arriveUp
  split
  · dsimp only
    split
    · exact (orderly_frameUp _).after (orderly_withLink s _)
    · exact (orderly_badRunLimit _).after (orderly_withLink s _)
  · dsimp only
    split
    · exact orderly_linkLoss s
    · exact (orderly_frameUp _).after
        ((orderly_withLink _ _).after ((orderly_substitutes _ _).after (orderly_withLink s _)))

/-! ### Cells and the configuration memory -/

theorem inOrder_port {p : Port} (config : p.config = s.port.config) (bounded : s.port.bounded → p.bounded) :
    InOrder s { s with port := p } :=
  { InOrder.refl s with
    memories := fun ⟨rows, canonical, words⟩ => ⟨rows, (congrArg (Memory.wf erased) config).trans canonical, words⟩
    bounded := bounded }

theorem takeCell_inOrder (c : CommandCell) : InOrder s { s with port := s.port.takeCell c } := by
  unfold Port.takeCell
  split
  · rename_i room
    refine inOrder_port s rfl fun ⟨_, rest⟩ => ⟨?_, rest⟩
    rw [List.length_append]
    exact Nat.succ_le_of_lt room
  · exact inOrder_port s rfl id

/-- A buffer takes the samples that fit (R197). -/
theorem takeStream_inOrder (q : NestState) (n : Nest) (xs : List Sample) :
    InOrder s { s with port := s.port.takeStream q n xs } := by
  unfold Port.takeStream
  split
  · refine inOrder_port s rfl fun ⟨commands, replies, room, notices, tapQueue, nine, unfilled, streams⟩ =>
      ⟨commands, replies, room, notices, tapQueue, nine, unfilled, fun m => ?_⟩
    unfold Port.appendStream
    dsimp only
    rw [PerNest.get_set]
    split
    · have fits := streams n
      rw [List.length_append, List.length_take]
      simp only [Config.streamSize]
      omega
    · exact streams m
  · exact inOrder_port s rfl id

/-- The write that completes had room for its reply (R200, R212). -/
theorem inOrder_written {tag : Byte} {addr : Nat} {data : List Byte} (writing : s.port.unit = .writing tag addr data)
    (r : Reply) :
    InOrder s (({ s with port := { s.port.writeConfig addr data with unit := .idle } } : State).reply r) :=
  { InOrder.refl s with
    memories := fun ⟨rows, config, words⟩ => ⟨rows, Memory.wf_writeMany _ _ config, words⟩
    bounded := fun ⟨commands, _, room, rest⟩ => by
      have fewer := room.resolve_right fun none => none tag addr data writing
      refine ⟨commands, ?_, Or.inr nofun, rest⟩
      show (s.port.replies ++ [r]).length ≤ 8
      rw [List.length_append]
      exact Nat.succ_le_of_lt fewer }

/-! ### Events -/

/-- A command or event keeps everything in order, where it completes. -/
def StaysInOrder (c : Instr) (s : State) : Prop := ∀ t, exec c s = .next t → InOrder s t

variable {s}

theorem InOrder.stays {c : Instr} {u : State} (h : InOrder s u) (hc : exec c s = .next u) : StaysInOrder c s := by
  intro t ht
  cases hc.symm.trans ht
  exact h

theorem Orderly.stays {c : Instr} {u : State} (h : Orderly s u) (hc : exec c s = .next u) : StaysInOrder c s :=
  h.inOrder.stays hc

theorem Moves.stays {c : Instr} {u : State} (h : Moves s u) (hc : exec c s = .next u) : StaysInOrder c s :=
  h.orderly.stays hc

/-- An event whose moment may not have come (log 1). -/
theorem Moves.ite {t : State} (h : Moves s t) (P : Prop) [Decidable P] : Moves s (if P then t else s) := by
  split
  · exact h
  · exact .refl s

/-- An event whose moment may not have come (log 1). -/
theorem Orderly.ite {t : State} (h : Orderly s t) (P : Prop) [Decidable P] : Orderly s (if P then t else s) := by
  split
  · exact h
  · exact .refl s

variable (s)

theorem frameArrival_stays (bytes : List Byte) : StaysInOrder (.frameArrival bytes) s := by
  refine Orderly.stays ?_ rfl
  have cleared : Orderly s { s with out := { s.out with downstream := [] } } := orderly_around s _ _ _ _
  split
  · exact (orderly_arriveDown _ _).after cleared
  · exact (orderly_arriveAcquiring _ _).after cleared
  · exact (orderly_arriveUp _ _).after cleared

theorem silenceTimeout_stays : StaysInOrder .silenceTimeout s := by
  refine Orderly.stays (Orderly.ite ?_ _) rfl
  split
  · exact .refl s
  · exact orderly_acquisitionFault s
  · exact orderly_linkLoss s

theorem stopLineAssert_stays : StaysInOrder .stopLineAssert s := by
  refine Orderly.stays ?_ rfl
  split
  · exact .refl s
  · exact Orderly.after (orderly_around _ _ _ _ _) (moves_stopAll s).orderly

theorem cellArrival_stays (bytes : List Byte) : StaysInOrder (.cellArrival bytes) s := by
  refine InOrder.stays ?_ rfl
  split
  · exact inOrder_port s rfl id
  · exact takeCell_inOrder s _
  · exact takeStream_inOrder s _ _ _

theorem arbiterSlot_stays : StaysInOrder .arbiterSlot s := by
  refine InOrder.stays ?_ rfl
  have sent : InOrder s { s with port := s.port.slot.2, out := { s.out with upstream := s.port.slot.1 } } :=
    (Orderly.after (orderly_around _ _ _ _ _) (orderly_port s (portOrderly_slot s.port))).inOrder
  split
  · exact (inOrder_powerOn _).after sent
  · exact sent

theorem markingCharacter_stays (data : Byte) (parity stop : Bool) :
    StaysInOrder (.markingCharacter data parity stop) s := by
  refine Moves.stays ?_ rfl
  split
  · exact moves_assembleReply s data
  · exact Moves.after (moves_marking _ _) (moves_marking s _)

theorem configWriteComplete_stays : StaysInOrder .configWriteComplete s := by
  refine InOrder.stays ?_ rfl
  split
  · rename_i writing
    exact inOrder_written s writing _
  · exact .refl s
  · exact .refl s

theorem unknownCommand_stays : StaysInOrder .unknownCommand s := by
  refine InOrder.stays ?_ rfl
  split
  · exact .refl s
  · rename_i taken
    split
    · exact answered_inOrder taken (.refl _) _
    · exact .refl s

theorem guardBlockEnd_stays : StaysInOrder .guardBlockEnd s :=
  Moves.stays (Moves.ite (Moves.after (moves_finish _) (moves_guardBlockEnd (Turn.start s true))) _) rfl

/-- ARRIVE stops the part or is taken like any command (log 26). -/
theorem arrive_stays : StaysInOrder .arrive s := by
  intro t ht
  change (if s.arriveStuck then _ else _) = _ at ht
  split at ht
  · cases ht
  · cases ht
    exact takeCommand_inOrder fun bs u => (moves_actArrive u bs).orderly

/-! ### Every command and event -/

variable {s}

/-- A command taken from the queue. -/
theorem command_stays {c : Instr} {code : Byte} {fits : List Byte → Bool} {act : List Byte → State → State × Answer}
    (hc : exec c s = .next (takeCommand code fits act s)) (h : ∀ bs t, Orderly t (act bs t).1) : StaysInOrder c s :=
  (takeCommand_inOrder h).stays hc

/-- A command taken from the queue whose rule is among the moves. -/
theorem move_stays {c : Instr} {code : Byte} {fits : List Byte → Bool} {act : List Byte → State → State × Answer}
    (hc : exec c s = .next (takeCommand code fits act s)) (h : ∀ bs t, Moves t (act bs t).1) : StaysInOrder c s :=
  command_stays hc fun bs t => (h bs t).orderly

/-- A command that reads and changes nothing. -/
theorem read_stays {c : Instr} {code : Byte} {fits : List Byte → Bool} {data : State → List Byte}
    (hc : exec c s = .next (takeCommand code fits (fun _ t => answerOnly (data t) t) s)) : StaysInOrder c s :=
  command_stays hc fun _ t => .refl t

theorem exec_inOrder (c : Instr) (s : State) : StaysInOrder c s := by
  cases c with
  | powerOnReset => exact (inOrder_powerOn s).stays rfl
  | startupLoadEnd => exact ((orderly_endLoad s).ite _).stays rfl
  | frameArrival bytes => exact frameArrival_stays s bytes
  | acquisitionComplete => exact (orderly_acquisitionEnd s).stays rfl
  | badRunLimit => exact (orderly_badRunLimit s).stays rfl
  | silenceTimeout => exact silenceTimeout_stays s
  | tapCellFormed c => exact ((orderly_port s (portOrderly_tapCellCheck _ c)).ite _).stays rfl
  | guardBlockEnd => exact guardBlockEnd_stays s
  | guardHoldEnd => exact (moves_guardHoldEnd s).stays rfl
  | gapPhaseEnd n => exact ((moves_withVerdict s n (moves_gapPhaseEnd s n)).ite _).stays rfl
  | settleTimeElapsed n => exact ((moves_requestLanes s n).ite _).stays rfl
  | settleBlockEnd n =>
    exact ((moves_withVerdict s n (Moves.after (moves_testSettle _ n) (moves_settleBlockEnd s n))).ite _).stays rfl
  | settleCapReached n =>
    exact ((moves_withVerdict s n (Moves.after (moves_finishStep _ n true) (moves_unsettle s n))).ite _).stays rfl
  | laneGrant => exact (moves_grantCheck s).stays rfl
  | windowComplete n => exact ((moves_windowComplete s n).ite _).stays rfl
  | evaluationComplete n => exact ((moves_withVerdict s n (moves_completeEvaluation s n)).ite _).stays rfl
  | burstCountEnd n => exact ((moves_withVerdict s n (moves_burstPhaseEnd s n)).ite _).stays rfl
  | glideEnd n => exact (moves_setTone s n _).stays rfl
  | rampEnd n => exact (moves_setTone s n _).stays rfl
  | deadlineExpiry n => exact (moves_expire s n).stays rfl
  | stopLineAssert => exact stopLineAssert_stays s
  | stopLineRelease => exact (orderly_around s _ _ _ _).stays rfl
  | cellArrival bytes => exact cellArrival_stays s bytes
  | arbiterSlot => exact arbiterSlot_stays s
  | slotFill => exact (moves_fillCheck s).stays rfl
  | messageStart => exact (moves_marking s _).stays rfl
  | labelMessageSent => exact (moves_marking s _).stays rfl
  | markingCharacter data parity stop => exact markingCharacter_stays s data parity stop
  | ackTimeout i => exact (moves_ackExpired s i).stays rfl
  | configWriteComplete => exact configWriteComplete_stays s
  | writeRows => exact command_stays rfl fun bs t => orderly_actWriteRows t bs
  | readRows => exact command_stays rfl fun bs t => orderly_actReadRows t bs
  | writeDirectory => exact command_stays rfl fun bs t => orderly_actWriteDirectory t bs
  | readDirectory => exact command_stays rfl fun bs t => orderly_actReadDirectory t bs
  | activate => exact command_stays rfl fun bs t => orderly_actActivate t bs
  | deactivate => exact command_stays rfl fun bs t => orderly_actDeactivate t bs
  | writeBins => exact command_stays rfl fun bs t => orderly_actWriteBins t bs
  | readBins => exact read_stays rfl
  | arrive => exact arrive_stays s
  | release => exact move_stays rfl fun bs t => moves_actRelease t bs
  | abort => exact move_stays rfl fun bs t => moves_actAbort t bs
  | stop => exact move_stays rfl fun _ t => moves_stopAll t
  | reserveStream => exact move_stays rfl fun bs t => moves_actReserveStream t bs
  | releaseStream => exact move_stays rfl fun bs t => moves_actReleaseStream t bs
  | setCalibration => exact move_stays rfl fun bs t => moves_actSetCalibration t bs
  | readCalibration => exact read_stays rfl
  | readLanes => exact read_stays rfl
  | setGuard => exact move_stays rfl fun bs t => moves_actSetGuard t bs
  | readGuard => exact read_stays rfl
  | readUnit => exact command_stays rfl fun bs t => orderly_actReadUnit t bs
  | setMarking => exact move_stays rfl fun bs t => moves_actSetMarking t bs
  | readMarking => exact move_stays rfl fun bs t => moves_actReadMarking t bs
  | readCounts => exact read_stays rfl
  | clearCounts => exact move_stays rfl fun bs t => moves_actClearCounts t bs
  | resumeLine => exact move_stays rfl fun bs t => moves_actResumeLine t bs
  | enableNest => exact move_stays rfl fun bs t => moves_actEnableNest t bs
  | setYield => exact move_stays rfl fun bs t => moves_actSetYield t bs
  | readYield => exact read_stays rfl
  | captureHead => exact move_stays rfl fun bs t => moves_actCaptureHead t bs
  | captureRead => exact move_stays rfl fun bs t => moves_actCaptureRead t bs
  | captureDrop => exact move_stays rfl fun bs t => moves_actCaptureDrop t bs
  | readCapture => exact read_stays rfl
  | status => exact command_stays rfl fun bs t => orderly_actStatus t bs
  | setNotices => exact command_stays rfl fun bs t => orderly_actSetNotices t bs
  | setTap => exact command_stays rfl fun bs t => orderly_actSetTap t bs
  | restart => exact move_stays rfl fun _ t => moves_restart t
  | reboot => exact command_stays rfl fun bs t => orderly_actReboot t bs
  | configRead => exact command_stays rfl fun bs t => orderly_actConfigRead t bs
  | configWrite => exact (takeConfigWrite_inOrder s _).stays rfl
  | unknownCommand => exact unknownCommand_stays s
  | transmitterStopped => exact (moves_marking s _).stays rfl

/-- A step keeps everything in order: there is nothing to do, or the front command does. -/
theorem step_inOrder {s t : State} (h : step s = .next t) : InOrder s t := by
  unfold step at h
  split at h
  · cases h
    exact .refl s
  · rename_i c rest _
    have popped : Orderly s { s with pending := rest } := orderly_around s _ _ _ _
    exact (exec_inOrder _ _ t h).after popped.inOrder

/-- Settles O58: every operation keeps the blocks in order, and a command's reply finds its room. -/
theorem stepsKeepInvariants : Obligations.StepsKeepInvariants := by
  intro s t h
  obtain ⟨yield, pool, retries, memories, bounded, tables, ring⟩ := step_inOrder h
  exact ⟨yield, pool, retries, memories, bounded, tables, ring⟩

end Sys2Proof.Machine
end

section
/-! The read-out of the capture ring: CAPTURE HEAD, CAPTURE READ and CAPTURE DROP (O49). -/

namespace Sys2Proof.Machine

/-! ### The head of the ring -/

/-- VOID records at the ring's head, and behind them the first record that is not VOID. -/
structure Capture.HeadAt (c : Capture) (voids : List CaptureRecord) (r : CaptureRecord) (behind : List CaptureRecord) :
    Prop where
  records : c.records = voids ++ r :: behind
  void : ∀ v ∈ voids, v.state = .void
  live : r.state ≠ .void

theorem CaptureRecord.isVoid_iff (r : CaptureRecord) : r.isVoid = true ↔ r.state = .void := decide_eq_true_iff

/-- A ring whose every record is VOID is EMPTY to a read-out command. -/
theorem Capture.firstLive_eq_none {c : Capture} (h : ∀ r ∈ c.records, r.state = .void) : c.firstLive = none :=
  List.find?_eq_none.2 fun r mem => by simp [CaptureRecord.isVoid, h r mem]

variable {c : Capture} {voids behind : List CaptureRecord} {r : CaptureRecord}

theorem Capture.HeadAt.firstLive (h : c.HeadAt voids r behind) : c.firstLive = some r := by
  have past : voids.find? (fun r => !r.isVoid) = none :=
    List.find?_eq_none.2 fun v mem => by simp [CaptureRecord.isVoid, h.void v mem]
  rw [Capture.firstLive, h.records, List.find?_append, past, Option.none_or]
  exact List.find?_cons_of_pos (by simp [CaptureRecord.isVoid, h.live])

/-- Reclamation removes exactly the VOID records before the head (R186). -/
theorem Capture.HeadAt.reclaim (h : c.HeadAt voids r behind) :
    c.reclaim = { c with records := r :: behind, occupied := c.occupied - (voids.map CaptureRecord.size).sum } := by
  have void : ∀ v ∈ voids, v.isVoid = true := fun v mem => v.isVoid_iff.2 (h.void v mem)
  have live : ¬ r.isVoid = true := fun e => h.live (r.isVoid_iff.1 e)
  rw [Capture.reclaim, h.records, List.takeWhile_append_of_pos void, List.dropWhile_append_of_pos void,
    List.takeWhile_cons_of_neg live, List.dropWhile_cons_of_neg live, List.append_nil]

/-! ### A command finds its record (R187) -/

variable {s : State} {act : CaptureRecord → State → State × Answer}

theorem withHead_empty (h : ∀ r ∈ s.capture.records, r.state = .void) : s.withHead act = refuse .empty [] s := by
  rw [State.withHead, Capture.firstLive_eq_none h]

theorem withHead_pending (h : s.capture.HeadAt voids r behind) (hr : r.state = .provisional) :
    s.withHead act = refuse .pending [] s := by
  rw [State.withHead, h.firstLive]
  simp only [hr]

/-- The state with the VOID records before the head gone. -/
theorem withHead_committed (h : s.capture.HeadAt voids r behind) (hr : r.state = .committed) :
    s.withHead act =
      act r { s with capture := { s.capture with
                                    records := r :: behind
                                    occupied := s.capture.occupied - (voids.map CaptureRecord.size).sum } } := by
  rw [State.withHead, h.firstLive, ← h.reclaim]
  simp only [hr]

/-! ### CAPTURE READ's operands and modes (R189) -/

/-- What CAPTURE READ does with the head record once its operands have passed. -/
def readHead (k mode : Nat) (r : CaptureRecord) (s : State) : State × Answer :=
  let returned := min k (r.length - r.cursor)
  let data := fun (released : Bool) =>
    toBytes 4 r.first.toNat ++ toBytes 4 r.cursor ++
      listBytes (fun w => toBytes 4 w.toNat) (s.capture.bodyWords r returned) ++ boolByte released
  if mode = 1 then answerOnly (data false) s
  else if r.cursor + returned = r.length then ({ s with capture := s.capture.releaseHead }, .done (data true))
  else ({ s with capture := s.capture.setHeadCursor (r.cursor + returned) }, .done (data false))

theorem actCaptureRead_range {ops : List Byte} (h : fieldAt ops 0 1 < 1 ∨ 56 < fieldAt ops 0 1 ∨ 1 < fieldAt ops 1 1) :
    actCaptureRead ops s = refuse .range [] s := by
  by_cases count : 1 ≤ fieldAt ops 0 1 ∧ fieldAt ops 0 1 ≤ 56
  · exact (if_neg (not_not.2 count)).trans (if_pos (by omega))
  · exact if_pos count

theorem actCaptureRead_inRange {ops : List Byte} (low : 1 ≤ fieldAt ops 0 1) (high : fieldAt ops 0 1 ≤ 56)
    (mode : fieldAt ops 1 1 ≤ 1) :
    actCaptureRead ops s = s.withHead (readHead (fieldAt ops 0 1) (fieldAt ops 1 1)) := by
  refine ((if_neg (not_not.2 ⟨low, high⟩)).trans (if_neg (Nat.not_lt.2 mode))).trans ?_
  congr 1
  funext r t
  rcases (by omega : fieldAt ops 1 1 = 0 ∨ fieldAt ops 1 1 = 1) with advance | peek
  · by_cases atEnd : r.cursor + min (fieldAt ops 0 1) (r.length - r.cursor) = r.length
    · simp [readHead, advance, atEnd]
    · simp [readHead, advance, atEnd]
  · simp [readHead, peek]

/-! ### The commands -/

variable {tag code : Byte} {ops : List Byte} {rest : List CommandCell}

section ReadOut

variable {i : Instr} {command : List Byte → State → State × Answer} {k : Nat}
  (h : s.takes tag code ops rest) (hl : ops.length = k)
  (runs : exec i s = .next (takeCommand code (operands k) command s))
  (finds : command ops (s.taken rest) = (s.taken rest).withHead act)
include h hl runs finds

/-- A read-out command refuses EMPTY and PENDING, whatever it does with a record. -/
theorem exec_withHead_refused :
    ((∀ r ∈ s.capture.records, r.state = .void) → exec i s = .next ((s.taken rest).refusal tag code .empty [])) ∧
    ∀ voids r behind, s.capture.records = voids ++ r :: behind → (∀ v ∈ voids, v.state = .void) →
      r.state = .provisional → exec i s = .next ((s.taken rest).refusal tag code .pending []) := by
  refine ⟨fun void => ?_, fun voids r behind records void pending => ?_⟩
  · rw [runs, takeCommand_refused h (operands_length hl) (finds.trans (withHead_empty void))]
  · have head : (s.taken rest).capture.HeadAt voids r behind := ⟨records, void, by rw [pending]; decide⟩
    rw [runs, takeCommand_refused h (operands_length hl) (finds.trans (withHead_pending head pending))]

/-- A read-out command carried out on a COMMITTED head, the VOID records before it gone. -/
theorem exec_withHead_done {t : State} {data : List Byte} (head : s.capture.HeadAt voids r behind)
    (hr : r.state = .committed)
    (ha : act r { s.taken rest with
                    capture := { s.capture with
                                   records := r :: behind
                                   occupied := s.capture.occupied - (voids.map CaptureRecord.size).sum } } =
      (t, .done data)) :
    exec i s = .next (t.done tag code data) := by
  have taken : (s.taken rest).capture.HeadAt voids r behind := head
  rw [runs, takeCommand_done h (operands_length hl) (finds.trans ((withHead_committed taken hr).trans ha))]

end ReadOut

/-- Settles O49: the operands' check, then R187's three steps, then what each command does with the head. -/
theorem captureReadOut : Obligations.CaptureReadOut := by
  intro s tag ops rest
  refine ⟨fun h hl outside => ?_, fun i code which h hl => ?_, fun voids r behind records void hr => ?_⟩
  · exact congrArg _ (takeCommand_refused h (operands_length hl) (actCaptureRead_range outside))
  · have length : ∀ {k : Nat}, operandLength i = some k → ops.length = k :=
      fun hk => Option.some.inj (hl.symm.trans hk)
    simp only [Prod.mk.injEq] at which
    obtain ⟨rfl, rfl⟩ | ⟨rfl, rfl⟩ | ⟨⟨rfl, rfl⟩, low, high, mode⟩ := which
    · exact exec_withHead_refused h (length rfl) (command := actCaptureHead) rfl rfl
    · exact exec_withHead_refused h (length rfl) (command := actCaptureDrop) rfl rfl
    · exact exec_withHead_refused h (length rfl) rfl (actCaptureRead_inRange low high mode)
  · have head : s.capture.HeadAt voids r behind := ⟨records, void, by rw [hr]; decide⟩
    refine ⟨fun h hl => ?_, fun h hl => ?_, fun h hl low high mode => ?_⟩
    · exact exec_withHead_done h hl (command := actCaptureHead) rfl rfl head hr rfl
    · exact exec_withHead_done h hl (command := actCaptureDrop) rfl rfl head hr rfl
    · have read := fun t data => exec_withHead_done (i := .captureRead) (t := t) (data := data) h hl rfl
        (actCaptureRead_inRange low high mode) head hr
      refine ⟨fun peek => read _ _ (if_pos peek), fun advance more => ?_, fun advance atEnd => ?_⟩
      · have noPeek : fieldAt ops 1 1 ≠ 1 := by omega
        exact read _ _ ((if_neg noPeek).trans (if_neg more))
      · have noPeek : fieldAt ops 1 1 ≠ 1 := by omega
        exact read _ _ ((if_neg noPeek).trans (if_pos atEnd))

end Sys2Proof.Machine
end

section
/-! A window's attempt at a capture record (O50). -/

namespace Sys2Proof.Machine

/-! ### Ring words (R178) -/

/-- The first words of a record are different ring words, also where the record wraps. -/
theorem CaptureRecord.word_inj (r : CaptureRecord) {i j : Nat} (hi : i < Config.ringSize) (hj : j < Config.ringSize) :
    r.word i = r.word j ↔ i = j := by
  simp only [CaptureRecord.word, Config.ringSize] at *
  omega

/-- A word of a record read back after one of its words is written. -/
theorem Capture.readWord_writeWord {c : Capture} (h : Memory.wf 0 c.words = true) (r : CaptureRecord) {i j : Nat}
    (hi : i < Config.ringSize) (hj : j < Config.ringSize) (w : Word) :
    (c.writeWord r i w).readWord r j = if j = i then w else c.readWord r j := by
  rw [Capture.readWord, Capture.writeWord, Memory.read_write _ _ _ h]
  simp only [r.word_inj hj hi, Capture.readWord]

/-- The four header words of R179 read back, the cause absent. -/
theorem Capture.readWord_writeHeader {c : Capture} (h : Memory.wf 0 c.words = true) (r : CaptureRecord) (carrier : Word)
    (stepIndex frequency : Nat) :
    (c.writeHeader r carrier stepIndex frequency).readWord r 0 = carrier ∧
    (c.writeHeader r carrier stepIndex frequency).readWord r 1 =
      BitVec.ofNat 32 (r.owner.num * 2 ^ 24 + stepIndex * 2 ^ 16) ∧
    (c.writeHeader r carrier stepIndex frequency).readWord r 2 = BitVec.ofNat 32 frequency ∧
    (c.writeHeader r carrier stepIndex frequency).readWord r 3 = causeWord none r.length := by
  have inRing : ∀ {i : Nat}, i ≤ 3 → i < Config.ringSize := fun hi => by simp only [Config.ringSize]; omega
  have wf0 := Capture.writeWord_wf r 0 carrier h
  have wf1 := Capture.writeWord_wf r 1 (BitVec.ofNat 32 (r.owner.num * 2 ^ 24 + stepIndex * 2 ^ 16)) wf0
  have wf2 := Capture.writeWord_wf r 2 (BitVec.ofNat 32 frequency) wf1
  have read : ∀ j ≤ 3, (c.writeHeader r carrier stepIndex frequency).readWord r j =
      if j = 3 then causeWord none r.length else if j = 2 then BitVec.ofNat 32 frequency
      else if j = 1 then BitVec.ofNat 32 (r.owner.num * 2 ^ 24 + stepIndex * 2 ^ 16)
      else if j = 0 then carrier else c.readWord r j := fun j hj => by
    rw [Capture.writeHeader, Capture.readWord_writeWord wf2 r (inRing (by omega)) (inRing hj),
      Capture.readWord_writeWord wf1 r (inRing (by omega)) (inRing hj),
      Capture.readWord_writeWord wf0 r (inRing (by omega)) (inRing hj),
      Capture.readWord_writeWord h r (inRing (by omega)) (inRing hj)]
  exact ⟨read 0 (by omega), read 1 (by omega), read 2 (by omega), read 3 (by omega)⟩

/-! ### Room behind the reclamation (R186) -/

/-- The words free once the VOID records at the head have left are those that no record left takes. -/
theorem Capture.freeWords_reclaim {c : Capture} (h : c.ok) :
    c.reclaim.freeWords =
      Config.ringSize - ((c.records.dropWhile fun r => decide (r.state = .void)).map fun r => r.length + 4).sum :=
  congrArg (Config.ringSize - ·) (Capture.ok_reclaim h).1

/-! ### The cases of R181 -/

variable {s : State} {n : Nest} {id : Nat} {st : Step}

theorem reserveCapture_notAttempted
    (h : (s.nest n).settings.policy = .off ∨
      ∀ id, (s.nest n).record = some id → (s.nest n).settings.captureLimit ≤ (s.record id).capturesCommitted) :
    s.reserveCapture n = s := by
  unfold State.reserveCapture
  split
  · rename_i id st record _
    split
    · rfl
    · rename_i on
      exact if_pos ((h.resolve_left on) id record)
  · rfl

section Attempted

variable (record : (s.nest n).record = some id) (step : (s.nest n).step = some st)
  (on : (s.nest n).settings.policy ≠ .off) (below : (s.record id).capturesCommitted < (s.nest n).settings.captureLimit)
include record step on below

theorem reserveCapture_skipped (short : s.capture.reclaim.freeWords < st.window + 4) :
    s.reserveCapture n =
      ({ s with capture := s.capture.reclaim } : State).setRecord id
        { s.record id with capturesSkipped := min ((s.record id).capturesSkipped + 1) 65535 } := by
  simp only [State.reserveCapture, record, step, if_neg on, if_neg (Nat.not_le.2 below), if_pos short]

theorem reserveCapture_reserved (fits : st.window + 4 ≤ s.capture.reclaim.freeWords) :
    s.reserveCapture n =
      { s with capture := s.capture.reclaim.reserve n (s.record id).carrier (s.nest n).stepIndex st
                            (s.link.frameIndex + 1) } := by
  simp only [State.reserveCapture, record, step, if_neg on, if_neg (Nat.not_le.2 below), if_neg (Nat.not_lt.2 fits)]

end Attempted

/-- The descriptor of R182. -/
def CaptureRecord.reserved (start : Nat) (n : Nest) (window : Nat) (first : Word) : CaptureRecord :=
  { state := .provisional, owner := n, start := start, length := window, first := first, fill := 0, cursor := 0 }

theorem Capture.reserve_records (c : Capture) (carrier : Word) (i : Nat) (first : Word) :
    (c.reserve n carrier i st first).records = c.records ++ [.reserved c.nextStart n st.window first] := rfl

theorem Capture.reserve_mark (c : Capture) (carrier : Word) (i : Nat) (first : Word) :
    (c.reserve n carrier i st first).mark.get n = some c.nextStart := PerNest.get_set_self _ _ _

/-- Settles O50, by R181's cases; the header is `Capture.readWord_writeHeader`'s. -/
theorem captureReservation : Obligations.CaptureReservation := by
  intro s n id st record step _ ring
  have free := Capture.freeWords_reclaim ring
  refine ⟨fun idle => ?_, fun on below short => ?_, fun on below room => ?_⟩
  · refine reserveCapture_notAttempted (idle.imp_right fun limit i hi => ?_)
    rwa [← Option.some.inj (record.symm.trans hi)]
  · have skipped := reserveCapture_skipped record step on below (free ▸ short)
    rw [skipped]
    exact ⟨rfl, rfl, rfl⟩
  · have fits : st.window + 4 ≤ s.capture.reclaim.freeWords := free ▸ room
    rw [reserveCapture_reserved record step on below fits]
    refine ⟨.reserved s.capture.nextStart n st.window (s.link.frameIndex + 1), Capture.reserve_records _ _ _ _, rfl,
      Capture.ok_reserve _ _ _ _ _ (Nat.not_lt.2 fits) (Capture.ok_reclaim ring), rfl, rfl, rfl, rfl, rfl, rfl,
      Capture.reserve_mark _ _ _ _, fun wf => ?_⟩
    have reclaimed : Memory.wf 0 s.capture.reclaim.words = true := wf
    obtain ⟨carrier, place, frequency, cause⟩ := Capture.readWord_writeHeader reclaimed
      (.reserved s.capture.nextStart n st.window (s.link.frameIndex + 1)) (s.record id).carrier (s.nest n).stepIndex
      st.frequency
    exact ⟨carrier, frequency, place, cause⟩

end Sys2Proof.Machine
end

section
/-! Fields, cells, frames and entries read back as they were written (O57). -/

namespace Sys2Proof.Machine

/-! ### Numbers in bytes -/

@[simp] theorem toBytes_length (k v : Nat) : (toBytes k v).length = k := by
  induction k generalizing v with
  | zero => rfl
  | succ k ih => rw [toBytes, List.length_append, ih]; rfl

theorem unsignedOf_concat (bs : List Byte) (b : Byte) : unsignedOf (bs ++ [b]) = 256 * unsignedOf bs + b.toNat :=
  List.foldl_append

/-- `k` bytes hold a number modulo 256^k, -/
theorem unsignedOf_toBytes (k v : Nat) : unsignedOf (toBytes k v) = v % 256 ^ k := by
  induction k generalizing v with
  | zero => exact (Nat.mod_one v).symm
  | succ k ih =>
    rw [toBytes, unsignedOf_concat, ih, BitVec.toNat_ofNat, Nat.pow_succ' (m := 256), Nat.mod_mul, Nat.add_comm]

/-- and so a number of that size whole. -/
theorem unsignedOf_toBytes_of_lt {k v : Nat} (fits : v < 256 ^ k) : unsignedOf (toBytes k v) = v := by
  rw [unsignedOf_toBytes, Nat.mod_eq_of_lt fits]

theorem unsignedOf_lt (bs : List Byte) : unsignedOf bs < 256 ^ bs.length := by
  induction bs using List.reverseRecOn with
  | nil => exact Nat.one_pos
  | append_singleton bs b ih =>
    rw [unsignedOf_concat, List.length_append, List.length_singleton, Nat.pow_succ']
    have := b.isLt
    omega

/-- Bytes are those of the number they hold. -/
theorem toBytes_unsignedOf (bs : List Byte) : toBytes bs.length (unsignedOf bs) = bs := by
  induction bs using List.reverseRecOn with
  | nil => rfl
  | append_singleton bs b ih =>
    have high : (256 * unsignedOf bs + b.toNat) / 256 = unsignedOf bs := by omega
    have low : BitVec.ofNat 8 (256 * unsignedOf bs + b.toNat) = b := by
      apply BitVec.eq_of_toNat_eq
      rw [BitVec.toNat_ofNat]
      omega
    rw [unsignedOf_concat, List.length_append, List.length_singleton, toBytes, high, low, ih]

/-- Two's complement in `k` bytes. -/
theorem signedOf_signedBytes {k : Nat} {v : Int} (low : -(256 ^ k : Int) ≤ 2 * v) (high : 2 * v < (256 ^ k : Int)) :
    signedOf (signedBytes k v) = v := by
  have size : ((256 ^ k : Nat) : Int) = 256 ^ k := by norm_num
  unfold signedOf signedBytes
  rw [toBytes_length, unsignedOf_toBytes, size]
  generalize 256 ^ k = m at size
  rw [← size] at low high ⊢
  rcases lt_or_ge v 0 with negative | positive
  · have wrapped : v % (m : Int) = v + m := by rw [← Int.add_emod_right, Int.emod_eq_of_lt] <;> omega
    rw [wrapped, Nat.mod_eq_of_lt (by omega)]
    dsimp only
    rw [if_neg (by omega)]
    omega
  · have whole : v % (m : Int) = v := Int.emod_eq_of_lt positive (by omega)
    rw [whole, Nat.mod_eq_of_lt (by omega)]
    dsimp only
    rw [if_pos (by omega)]
    omega

/-! ### Fields at an offset -/

section Fields
variable {m pre field post : List Byte} {off len : Nat}

theorem fieldAt_split (split : m = pre ++ field ++ post) (before : pre.length = off) (size : field.length = len) :
    fieldAt m off len = unsignedOf field := congrArg unsignedOf (take_drop_field split before size)

theorem fieldAt_of_bytesAt {v : Nat} (bytes : bytesAt m off len = toBytes len v) (fits : v < 256 ^ len) :
    fieldAt m off len = v := (congrArg unsignedOf bytes).trans (unsignedOf_toBytes_of_lt fits)

theorem fieldAt_toBytes {v : Nat} (split : m = pre ++ toBytes len v ++ post) (before : pre.length = off)
    (fits : v < 256 ^ len) : fieldAt m off len = v :=
  fieldAt_of_bytesAt (take_drop_field split before (toBytes_length ..)) fits

theorem signedAt_signedBytes {v : Int} (split : m = pre ++ signedBytes len v ++ post) (before : pre.length = off)
    (low : -(256 ^ len : Int) ≤ 2 * v) (high : 2 * v < (256 ^ len : Int)) : signedAt m off len = v :=
  (congrArg signedOf (take_drop_field split before (toBytes_length ..))).trans (signedOf_signedBytes low high)

end Fields

/-- Of fields one behind the other, one that starts behind the first, -/
theorem fieldAt_append_behind {k off : Nat} (v : Nat) (rest : List Byte) (len : Nat) (behind : k ≤ off) :
    fieldAt (toBytes k v ++ rest) off len = fieldAt rest (off - k) len := by
  rw [fieldAt, bytesAt, List.drop_append, toBytes_length, List.drop_of_length_le ((toBytes_length ..).trans_le behind)]
  rfl

/-- and the first. -/
theorem fieldAt_append_first {k v : Nat} (rest : List Byte) (fits : v < 256 ^ k) :
    fieldAt (toBytes k v ++ rest) 0 k = v := fieldAt_toBytes (pre := []) rfl rfl fits

theorem fieldAt_lt (bs : List Byte) (off len : Nat) : fieldAt bs off len < 256 ^ len :=
  (unsignedOf_lt _).trans_le (Nat.pow_le_pow_right (by decide) (List.length_take_le ..))

/-- A one-byte field is its byte, and 0 where the bytes end before it. -/
theorem fieldAt_one (bs : List Byte) (off : Nat) : fieldAt bs off 1 = (bs.getD off 0).toNat := by
  rw [fieldAt, bytesAt, List.take_one, List.head?_drop, List.getD_eq_getElem?_getD]
  cases bs[off]? with
  | none => rfl
  | some b => exact Nat.zero_add _

theorem boolByte_eq (b : Bool) : boolByte b = toBytes 1 b.toNat := by cases b <;> rfl

/-! ### Cells (R195, R219) -/

/-- A good cell: at most 240 bytes of payload, as many bytes as it says, its check behind them. -/
theorem cellGood_iff (bs : List Byte) :
    cellGood bs = true ↔
      (bs.getD 2 0).toNat ≤ 240 ∧ bs.length = (bs.getD 2 0).toNat + 5 ∧
        bs.drop ((bs.getD 2 0).toNat + 3) = toBytes 2 (crc16 (bs.take ((bs.getD 2 0).toNat + 3))).toNat := by
  unfold cellGood
  rw [fieldAt_one, Bool.and_eq_true, Bool.and_eq_true, decide_eq_true_eq, decide_eq_true_eq, decide_eq_true_eq, and_assoc]
  generalize (bs.getD 2 0).toNat = n
  refine and_congr_right fun _ => and_congr_right fun length => ?_
  rw [Nat.add_comm 3 n]
  have two : (bs.drop (n + 3)).length = 2 := by rw [List.length_drop]; omega
  have check : fieldAt bs (n + 3) 2 = unsignedOf (bs.drop (n + 3)) := by
    rw [fieldAt, bytesAt, List.take_of_length_le two.le]
  rw [check]
  constructor
  · intro equal
    rw [← equal]
    conv => lhs; rw [← toBytes_unsignedOf (bs.drop (n + 3)), two]
  · intro equal
    rw [equal]
    exact unsignedOf_toBytes_of_lt (crc16 _).isLt

/-- The bytes of a cell: kind, tag, length, payload, check. -/
theorem cellBytes_split (kind tag : Byte) (payload : List Byte) :
    ∃ check : BitVec 16, check = crc16 ([kind, tag, BitVec.ofNat 8 payload.length] ++ payload) ∧
      cellBytes kind tag payload = [kind, tag, BitVec.ofNat 8 payload.length] ++ payload ++ toBytes 2 check.toNat :=
  ⟨_, rfl, rfl⟩

section Cells
variable {payload : List Byte} (kind tag : Byte) (short : payload.length ≤ 240)
include short

theorem cellBytes_size : ((cellBytes kind tag payload).getD 2 0).toNat = payload.length :=
  Nat.mod_eq_of_lt (by omega)

theorem cellGood_cellBytes : cellGood (cellBytes kind tag payload) = true := by
  rw [cellGood_iff, cellBytes_size kind tag short]
  obtain ⟨check, crc, bytes⟩ := cellBytes_split kind tag payload
  have front : ([kind, tag, BitVec.ofNat 8 payload.length] ++ payload).length = payload.length + 3 := by
    simp only [List.length_append, List.length_cons, List.length_nil]; omega
  rw [bytes]
  refine ⟨short, ?_, ?_⟩
  · rw [List.length_append, front, toBytes_length]
  · rw [List.drop_left' front, List.take_left' front, crc]

omit short in
theorem cellBytes_payload : bytesAt (cellBytes kind tag payload) 3 payload.length = payload := by
  obtain ⟨check, -, bytes⟩ := cellBytes_split kind tag payload
  exact take_drop_field bytes rfl rfl

/-- A good cell's parts read back. -/
theorem cellBytes_fields :
    fieldAt (cellBytes kind tag payload) 0 1 = kind.toNat ∧ fieldAt (cellBytes kind tag payload) 1 1 = tag.toNat ∧
      fieldAt (cellBytes kind tag payload) 2 1 = payload.length :=
  ⟨fieldAt_one _ 0, fieldAt_one _ 1, (fieldAt_one _ 2).trans (cellBytes_size kind tag short)⟩

end Cells

theorem Cell.ofBytes_command (tag : Byte) {payload : List Byte} (short : payload.length ≤ 240) :
    Cell.ofBytes (cellBytes 1 tag payload) = some (.command ⟨tag, payload⟩) := by
  obtain ⟨kindAt, -, sizeAt⟩ := cellBytes_fields 1 tag short
  unfold Cell.ofBytes
  dsimp only
  rw [if_pos (cellGood_cellBytes 1 tag short), kindAt, if_pos (by decide), sizeAt, cellBytes_payload]
  rfl

theorem ofNum_num (n : Nest) : Nest.ofNum (BitVec.ofNat 8 n.num).toNat = some n := by cases n <;> rfl

theorem sampleBytes_flatMap_length (xs : List Sample) : (xs.flatMap sampleBytes).length = 3 * xs.length := by
  induction xs with
  | nil => rfl
  | cons x xs ih =>
    rw [List.flatMap_cons, List.length_append, ih, sampleBytes, toBytes_length, List.length_cons]
    omega

theorem ofNat_unsignedOf_sampleBytes (x : Sample) : BitVec.ofNat 24 (unsignedOf (sampleBytes x)) = x := by
  rw [sampleBytes, unsignedOf_toBytes_of_lt x.isLt, BitVec.ofNat_toNat, BitVec.setWidth_eq]

/-- Samples read back from their bytes. -/
theorem samplesOf_flatMap (xs : List Sample) : samplesOf (xs.flatMap sampleBytes) xs.length = xs := by
  induction xs with
  | nil => rfl
  | cons x xs ih =>
    have first : fieldAt ((x :: xs).flatMap sampleBytes) 0 3 = unsignedOf (sampleBytes x) :=
      fieldAt_split (pre := []) rfl rfl rfl
    have later : ((x :: xs).flatMap sampleBytes).drop 3 = xs.flatMap sampleBytes := rfl
    rw [List.length_cons, samplesOf, first, later, ih, ofNat_unsignedOf_sampleBytes]

theorem Cell.ofBytes_stream (n : Nest) {xs : List Sample} (length : xs.length = 48) :
    Cell.ofBytes (cellBytes 2 (BitVec.ofNat 8 n.num) (xs.flatMap sampleBytes)) = some (.stream n xs) := by
  have size : (xs.flatMap sampleBytes).length = 144 := by rw [sampleBytes_flatMap_length, length]
  have samples : samplesOf (xs.flatMap sampleBytes) Config.cellSamples = xs :=
    (congrArg (samplesOf _) length.symm).trans (samplesOf_flatMap xs)
  obtain ⟨kindAt, tagAt, sizeAt⟩ := cellBytes_fields 2 (BitVec.ofNat 8 n.num) (size.trans_le (by decide))
  unfold Cell.ofBytes
  dsimp only
  rw [if_pos (cellGood_cellBytes _ _ (size.trans_le (by decide))), kindAt, if_neg (by decide), if_pos (by decide), tagAt,
    ofNum_num, sizeAt, cellBytes_payload]
  exact (if_pos size).trans (by rw [samples])

/-! ### Upstream frames (R23, R222) -/

/-- A frame's payload with its check behind it is a good frame with the payload's fields. -/
theorem UpstreamFrame.ofBytes_withCheck {bs : List Byte} (length : bs.length = 18) :
    UpstreamFrame.ofBytes (withCheck bs) =
      some
        { number := BitVec.ofNat 16 (fieldAt (withCheck bs) 0 2)
          samples := [2, 5, 8, 11, 14].map fun off => BitVec.ofNat 24 (fieldAt (withCheck bs) off 3)
          overloads := [0, 1, 2, 3, 4].map fun i => (fieldAt (withCheck bs) 17 1).testBit i } := by
  refine if_pos ⟨by rw [withCheck, List.length_append, toBytes_length, length], ?_⟩
  rw [withCheck, fieldAt_toBytes (post := []) (List.append_nil _).symm length (crc16 bs).isLt, List.take_left' length]

theorem UpstreamFrame.ofBytes_formed (number : BitVec 16) (a b c d e : Sample) (flags : Byte) :
    UpstreamFrame.ofBytes (withCheck (toBytes 2 number.toNat ++ [a, b, c, d, e].flatMap sampleBytes ++ [flags])) =
      some ⟨number, [a, b, c, d, e],
        [flags.getLsbD 0, flags.getLsbD 1, flags.getLsbD 2, flags.getLsbD 3, flags.getLsbD 4]⟩ := by
  rw [ofBytes_withCheck rfl]
  set frame := withCheck (toBytes 2 number.toNat ++ [a, b, c, d, e].flatMap sampleBytes ++ [flags])
  have numberAt : BitVec.ofNat 16 (fieldAt frame 0 2) = number := by
    rw [show fieldAt frame 0 2 = number.toNat from fieldAt_of_bytesAt rfl number.isLt, BitVec.ofNat_toNat,
      BitVec.setWidth_eq]
  have samplesAt : ([2, 5, 8, 11, 14].map fun off => BitVec.ofNat 24 (fieldAt frame off 3)) = [a, b, c, d, e] :=
    List.cons_eq_cons.2 ⟨ofNat_unsignedOf_sampleBytes a, List.cons_eq_cons.2 ⟨ofNat_unsignedOf_sampleBytes b,
      List.cons_eq_cons.2 ⟨ofNat_unsignedOf_sampleBytes c, List.cons_eq_cons.2 ⟨ofNat_unsignedOf_sampleBytes d,
        List.cons_eq_cons.2 ⟨ofNat_unsignedOf_sampleBytes e, rfl⟩⟩⟩⟩⟩
  have flagsAt : fieldAt frame 17 1 = flags.toNat := fieldAt_one _ 17
  rw [numberAt, samplesAt, flagsAt]
  rfl

/-! ### Directory entries (R221) -/

/-- The ranges of R5's fields but for the two codes, which have no value outside. -/
structure ProgramFields.InRange (f : ProgramFields) : Prop where
  firstStep : f.firstStep ≤ 4095
  stepCount : 1 ≤ f.stepCount ∧ f.stepCount ≤ 256
  firstLimit : f.firstLimit ≤ 4095
  limitCount : f.limitCount ≤ 256
  takt : 100 ≤ f.taktMs ∧ f.taktMs ≤ 60000
  retryBudget : f.retryBudget ≤ 15
  captureLimit : f.captureLimit ≤ 16
  gradeMargin : f.gradeMargin ≤ 3000
  rangeGap : f.rangeGapMs ≤ 50

theorem CapturePolicy.ofCode_code (p : CapturePolicy) : CapturePolicy.ofCode p.code = some p := by cases p <;> rfl

theorem CapturePolicy.code_le (p : CapturePolicy) : p.code ≤ 2 := by cases p <;> decide

/-- An entry's bytes as one field behind the other. -/
theorem ProgramFields.bytes_spelled (f : ProgramFields) (state : Byte) (after : List Byte) :
    [state] ++ f.bytes ++ after =
      toBytes 1 state.toNat ++ (toBytes 2 f.firstStep ++ (toBytes 2 f.stepCount ++ (toBytes 2 f.firstLimit ++
        (toBytes 2 f.limitCount ++ (toBytes 2 f.taktMs ++ (toBytes 1 f.retryBudget ++ (toBytes 1 f.stopOnFail.toNat ++
          (toBytes 1 f.policy.code ++ (toBytes 1 f.captureLimit ++ (toBytes 2 f.gradeMargin ++
            (toBytes 1 f.rangeGapMs ++ after))))))))))) := by
  have first : [state] = toBytes 1 state.toNat := by simp [toBytes]
  simp only [bytes, boolByte_eq, first, List.append_assoc]

/-- An entry with its fields in range reads back. -/
theorem ProgramFields.ofBytes_bytes {f : ProgramFields} (h : f.InRange) (state : Byte) (after : List Byte) :
    ofBytes ([state] ++ f.bytes ++ after) = .ok f := by
  obtain ⟨firstStep, stepCount, firstLimit, limitCount, takt, retryBudget, captureLimit, gradeMargin, rangeGap⟩ := h
  have policy := f.policy.code_le
  have stop := f.stopOnFail.toNat_le
  rw [ofBytes_eq, bytes_spelled]
  unfold faults carried
  simp (disch := omega) only [fieldAt_append_behind, fieldAt_append_first, Nat.reduceSub, CapturePolicy.ofCode_code,
    Option.getD_some]
  have same : decide (f.stopOnFail.toNat = 1) = f.stopOnFail := by cases f.stopOnFail <;> rfl
  rw [same]
  refine firstRefusal_eq_ok _ ?_
  simp only [List.findIdx?_eq_none_iff, List.forall_mem_cons, decide_eq_false_iff_not]
  exact ⟨by omega, by omega, by omega, by omega, by omega, by omega, by omega, by omega, by omega, by omega, by omega,
    nofun⟩

/-! ### Notice enables (R219) -/

/-- Every combination of the eight enables is the one its code stands for. -/
theorem Enables.ofByte_code (e : Enables) : Enables.ofByte (BitVec.ofNat 8 e.code) = e := by
  obtain ⟨a, b, c, d, e, f, g, h⟩ := e
  revert a b c d e f g h
  decide +kernel

/-- Settles O57: each format by its own lemma. -/
theorem codesReadBack : Obligations.CodesReadBack :=
  ⟨fun _ _ _ _ fits => fieldAt_toBytes rfl rfl fits,
    fun _ _ _ _ _ low high => signedAt_signedBytes rfl rfl low high,
    fun tag _ short => Cell.ofBytes_command tag short,
    fun n _ length => Cell.ofBytes_stream n length,
    UpstreamFrame.ofBytes_formed,
    fun _ state after h1 h2 h3 h4 h5 h6 h7 h8 h9 h10 h11 =>
      ProgramFields.ofBytes_bytes ⟨h1, ⟨h2, h3⟩, h4, h5, ⟨h6, h7⟩, h8, h9, h10, h11⟩ state after,
    Enables.ofByte_code⟩

end Sys2Proof.Machine
end

section
/-! The line port's events: TAP_CELL_FORMED (O13), CELL_ARRIVAL (O30) and ARBITER_SLOT (O31). -/

namespace Sys2Proof.Machine

/-! ### The tap -/

/-- Settles O13, by the room of the tap queue. -/
theorem tapCellFormed : Obligations.TapCellFormed := by
  intro s c low high full t
  refine congrArg Host.Outcome.next ((if_pos ⟨low, high⟩).trans ?_)
  have formed : s.port.tapCellCheck c = s.port.formTapCell c := if_pos full
  rw [formed, Port.formTapCell]
  split <;> rfl

/-! ### Cells received (R195 to R197) -/

theorem ofNum_outside {k : Nat} (outside : k < 1 ∨ 4 < k) : Nest.ofNum k = none := by
  match k, outside with
  | 0, _ => rfl
  | k + 5, _ => rfl

/-- The cells that are discarded as bad. -/
theorem Cell.ofBytes_eq_none {bs : List Byte}
    (bad : 240 < (bs.getD 2 0).toNat ∨ bs.length ≠ (bs.getD 2 0).toNat + 5 ∨
      bs.drop ((bs.getD 2 0).toNat + 3) ≠ toBytes 2 (crc16 (bs.take ((bs.getD 2 0).toNat + 3))).toNat ∨
      (bs.getD 0 0 ≠ 1 ∧ bs.getD 0 0 ≠ 2) ∨
      (bs.getD 0 0 = 2 ∧ ((bs.getD 1 0).toNat < 1 ∨ 4 < (bs.getD 1 0).toNat ∨ (bs.getD 2 0).toNat ≠ 144))) :
    Cell.ofBytes bs = none := by
  unfold Cell.ofBytes
  dsimp only
  by_cases good : cellGood bs = true
  case neg => exact if_neg good
  rw [if_pos good, fieldAt_one, fieldAt_one, fieldAt_one]
  obtain ⟨short, length, check⟩ := (cellGood_iff bs).1 good
  rcases bad with long | wrong | broken | ⟨notCommand, notStream⟩ | ⟨stream, fault⟩
  · exact absurd short (Nat.not_le.2 long)
  · exact absurd length wrong
  · exact absurd check broken
  · have command : ¬ (bs.getD 0 0).toNat = 1 := fun h => notCommand (BitVec.eq_of_toNat_eq h)
    have stream : ¬ (bs.getD 0 0).toNat = 2 := fun h => notStream (BitVec.eq_of_toNat_eq h)
    rw [if_neg command, if_neg stream]
  · rw [stream, if_neg (by decide), if_pos (by decide)]
    by_cases channel : (bs.getD 1 0).toNat < 1 ∨ 4 < (bs.getD 1 0).toNat
    · rw [ofNum_outside channel]
    · split
      · rfl
      · exact if_neg (by omega)

section Arrival
variable {s : State} {bytes : List Byte}

theorem exec_cellArrival_bad (bad : Cell.ofBytes bytes = none) :
    exec (.cellArrival bytes) s = .next { s with port := { s.port with badCells := count s.port.badCells 1 } } := by
  show execCellArrival bytes s = _
  unfold execCellArrival
  rw [bad]

theorem exec_cellArrival_command {c : CommandCell} (good : Cell.ofBytes bytes = some (.command c)) :
    exec (.cellArrival bytes) s = .next { s with port := s.port.takeCell c } := by
  show execCellArrival bytes s = _
  unfold execCellArrival
  rw [good]

theorem exec_cellArrival_stream {n : Nest} {xs : List Sample} (good : Cell.ofBytes bytes = some (.stream n xs)) :
    exec (.cellArrival bytes) s = .next { s with port := s.port.takeStream (s.nest n).state n xs } := by
  show execCellArrival bytes s = _
  unfold execCellArrival
  rw [good]

end Arrival

/-- What fits of a STREAM cell's samples is appended, the rest counted, and the pace rule applied once (R197, R199). -/
theorem Port.appendStream_eq (p : Port) (n : Nest) {xs : List Sample} (length : xs.length = 48) :
    let old := p.streams.get n
    let fit := min 48 (2048 - old.length)
    p.appendStream n xs =
      { p with
          streams := p.streams.set n (old ++ xs.take fit)
          streamOverruns := p.streamOverruns.set n (count (p.streamOverruns.get n) (48 - fit))
          pace := p.pace.set n
            (if 1536 ≤ old.length + fit ∧ (p.pace.get n).current = .go then
              { p.pace.get n with pendingState := if (p.pace.get n).lastSent = .stop then none else some .stop }
            else p.pace.get n) } := by
  intro old fit
  have kept : xs.take (2048 - old.length) = xs.take fit := by
    rw [List.take_eq_take_iff, length]; omega
  have keptLength : (xs.take fit).length = fit := by rw [List.length_take, length]; omega
  have unfolded : p.appendStream n xs =
      { p with
          streams := p.streams.set n (old ++ xs.take (2048 - old.length))
          streamOverruns := p.streamOverruns.set n
            (count (p.streamOverruns.get n) (xs.length - (xs.take (2048 - old.length)).length))
          pace := p.pace.set n ((p.pace.get n).afterAppend (old ++ xs.take (2048 - old.length)).length) } := rfl
  rw [unfolded, kept, List.length_append, keptLength, length]
  simp only [Pace.afterAppend, Pace.change, eq_comm (a := PaceState.stop)]

/-- Settles O30: how each kind of cell is read, and what its reception does. -/
theorem cellsAreReceived : Obligations.CellsAreReceived := by
  intro s
  refine ⟨?_, fun tag payload short => ?_, ?_⟩
  · intro bytes n kind channel bad
    exact exec_cellArrival_bad (Cell.ofBytes_eq_none bad)
  · rw [exec_cellArrival_command (Cell.ofBytes_command tag short), Port.takeCell]
    split <;> rfl
  · intro n xs length cell old fit
    have arrives := exec_cellArrival_stream (s := s) (Cell.ofBytes_stream n length)
    refine ⟨fun elsewhere => arrives.trans ?_, fun reserved => arrives.trans ?_⟩
    · rw [Port.takeStream, if_neg elsewhere]
    · rw [Port.takeStream, if_pos reserved, Port.appendStream_eq _ _ length]

/-! ### The arbiter (R206) -/

/-- No nest has a pending pace state. -/
def Port.Quiet (p : Port) : Prop := ∀ n, (p.pace.get n).pendingState = none

/-- The nests before one in nest order have the lower numbers. -/
theorem order_lower (n : Nest) :
    ∃ before later, Nest.order = before ++ n :: later ∧ ∀ m ∈ before, m.num < n.num := by
  cases n with
  | n1 => exact ⟨[], _, rfl, by decide⟩
  | n2 => exact ⟨[.n1], _, rfl, by decide⟩
  | n3 => exact ⟨[.n1, .n2], _, rfl, by decide⟩
  | n4 => exact ⟨[.n1, .n2, .n3], _, rfl, by decide⟩

section Slot
variable {p : Port}

theorem Port.Quiet.paceReady (quiet : p.Quiet) : p.paceReady = none :=
  List.findSome?_eq_none_iff.2 fun n _ => by rw [quiet n]; rfl

theorem Port.paceReady_eq_some {n : Nest} {x : PaceState} (pending : (p.pace.get n).pendingState = some x)
    (lowest : ∀ m : Nest, m.num < n.num → (p.pace.get m).pendingState = none) : p.paceReady = some (n, x) := by
  obtain ⟨before, later, order, lower⟩ := order_lower n
  refine List.findSome?_eq_some_iff.2 ⟨before, n, later, order, by rw [pending]; rfl, fun m hm => ?_⟩
  rw [lowest m (lower m hm)]
  rfl

theorem Port.slot_pace {n : Nest} {x : PaceState} (ready : p.paceReady = some (n, x)) :
    p.slot = (some (paceCell n x), { p with pace := p.pace.set n ⟨x, none⟩ }) := by
  unfold Port.slot
  rw [ready]

section Quiet
variable (quiet : p.Quiet)
include quiet

theorem Port.slot_reply {r : Reply} {rest : List Reply} (replies : p.replies = r :: rest) :
    p.slot = (some r.cell, { p with replies := rest }) := by
  unfold Port.slot
  rw [quiet.paceReady, replies]

theorem Port.slot_notice {x : Notice} {rest : List Notice} (replies : p.replies = []) (notices : p.notices = x :: rest) :
    p.slot = (some x.cell, { p with notices := rest }) := by
  unfold Port.slot
  rw [quiet.paceReady, replies, notices]

theorem Port.slot_tap {t : TapCell} {rest : List TapCell} (replies : p.replies = []) (notices : p.notices = [])
    (taps : p.tapQueue = t :: rest) : p.slot = (some t.cell, { p with tapQueue := rest }) := by
  unfold Port.slot
  rw [quiet.paceReady, replies, notices, taps]

theorem Port.slot_idle (replies : p.replies = []) (notices : p.notices = []) (taps : p.tapQueue = []) :
    p.slot = (none, p) := by
  unfold Port.slot
  rw [quiet.paceReady, replies, notices, taps]

end Quiet

/-- The last reply goes out, behind a REBOOT (R210). -/
theorem Port.sendsReboot_iff (p : Port) :
    p.sendsReboot = true ↔ p.unit = .rebooting ∧ p.paceReady = none ∧ p.replies.length = 1 := by
  simp [Port.sendsReboot, and_assoc]

end Slot

/-- A slot that sends no REBOOT reply, -/
theorem exec_arbiterSlot {s : State} {cell : Option (List Byte)} {p : Port} (slot : s.port.slot = (cell, p))
    (stays : ¬ s.port.sendsReboot = true) :
    exec .arbiterSlot s = .next { s with port := p, out := { s.out with upstream := cell } } := by
  refine congrArg Host.Outcome.next ((if_neg stays).trans ?_)
  rw [slot]

/-- and one that does. -/
theorem exec_arbiterSlot_reboot {s : State} {cell : Option (List Byte)} {p : Port} (slot : s.port.slot = (cell, p))
    (reboots : s.port.sendsReboot = true) :
    exec .arbiterSlot s = .next ({ s with port := p, out := { s.out with upstream := cell } } : State).powerOn := by
  refine congrArg Host.Outcome.next ((if_pos reboots).trans ?_)
  rw [slot]

/-- The configuration memory is kept where no write was going on. -/
theorem configAtReset_of_not_writing {s : State} (rests : ∀ tag addr data, s.port.unit ≠ .writing tag addr data) :
    s.configAtReset = s.port.config := by
  unfold State.configAtReset
  split
  · exact absurd ‹_› (rests _ _ _)
  · rfl
  · rfl

/-- Settles O31, source by source in R206's order. -/
theorem arbiterSendsOneCell : Obligations.ArbiterSendsOneCell := by
  intro s p quiet
  have noReply (empty : p.replies = []) : ¬ p.sendsReboot = true := by
    rw [Port.sendsReboot_iff, empty]
    exact fun h => absurd h.2.2 (by decide)
  refine ⟨fun n x pending lowest => ?_, fun r rest none replies last => ?_, fun x rest none replies notices => ?_,
    fun x rest none replies notices taps => ?_, fun none replies notices taps => ?_, fun r none unit replies => ?_⟩
  · have ready := Port.paceReady_eq_some pending lowest
    refine exec_arbiterSlot (Port.slot_pace ready) ?_
    rw [Port.sendsReboot_iff, ready]
    exact fun h => nomatch h.2.1
  · refine exec_arbiterSlot (Port.slot_reply none replies) ?_
    rw [Port.sendsReboot_iff]
    rintro ⟨unit, -, one⟩
    have one : (r :: rest).length = 1 := replies ▸ one
    exact last unit (List.length_eq_zero_iff.1 (Nat.succ.inj one))
  · exact exec_arbiterSlot (Port.slot_notice none replies notices) (noReply replies)
  · exact exec_arbiterSlot (Port.slot_tap none replies notices taps) (noReply replies)
  · exact exec_arbiterSlot (Port.slot_idle none replies notices taps) (noReply replies)
  · refine (exec_arbiterSlot_reboot (Port.slot_reply none replies)
      ((Port.sendsReboot_iff p).2 ⟨unit, Port.Quiet.paceReady none, congrArg List.length replies⟩)).trans ?_
    rw [State.powerOn, configAtReset_of_not_writing]
    intro tag addr data writing
    exact nomatch unit.symm.trans writing

end Sys2Proof.Machine
end

section
/-! The command unit's general checks (O2). -/

namespace Sys2Proof.Machine

/-! ### The commands of the catalogue -/

/-- The commands in the catalogue's order. -/
def catalogueCommands : List Instr :=
  [.writeRows, .readRows, .writeDirectory, .readDirectory, .activate, .deactivate, .writeBins, .readBins, .arrive, .release,
   .abort, .stop, .reserveStream, .releaseStream, .setCalibration, .readCalibration, .readLanes, .setGuard, .readGuard,
   .readUnit, .setMarking, .readMarking, .readCounts, .clearCounts, .resumeLine, .enableNest, .setYield, .readYield,
   .captureHead, .captureRead, .captureDrop, .readCapture, .status, .setNotices, .setTap, .restart, .reboot, .configRead,
   .configWrite]

theorem catalogueCommands_codes : catalogueCommands.map commandCode = catalogue.map some := rfl

/-- Every code of the catalogue is a command's. -/
theorem commandCode_of_mem_catalogue {code : Byte} (known : code ∈ catalogue) : ∃ c, commandCode c = some code := by
  have coded : some code ∈ catalogueCommands.map commandCode :=
    catalogueCommands_codes ▸ List.mem_map_of_mem known
  obtain ⟨c, -, hc⟩ := List.mem_map.1 coded
  exact ⟨c, hc⟩

theorem CommandCell.unknown_of_no_code {tag : Byte} {payload : List Byte}
    (none : ∀ c code, commandCode c = some code → payload.head? ≠ some code) :
    CommandCell.unknown ⟨tag, payload⟩ = true := by
  cases payload with
  | nil => rfl
  | cons code ops =>
    refine (Bool.not_eq_true' _).mpr (Bool.eq_false_iff.2 fun known => ?_)
    obtain ⟨c, hc⟩ := commandCode_of_mem_catalogue (List.contains_iff_mem.1 known)
    exact none c code hc rfl

/-! ### Every command through the command unit -/

theorem operands_iff (n : Nat) (ops : List Byte) : operands n ops = true ↔ some n = some ops.length := by
  rw [operands, decide_eq_true_eq, Option.some_inj, eq_comm]

/-- The command is the event of the command unit's taking a cell with this code, its length check as `operandsFit` has it;
only an ARRIVE that finds no FREE record is not (log 26). -/
def TakenAs (c : Instr) (code : Byte) (s : State) : Prop :=
  ∃ (fits : List Byte → Bool) (act : List Byte → State → State × Answer),
    ((c = .arrive → s.arriveStuck = false) → exec c s = .next (takeCommand code fits act s)) ∧
      ∀ ops, fits ops = true ↔ operandsFit c ops

theorem command_takenAs {c : Instr} {code : Byte} (s : State) (hc : commandCode c = some code) : TakenAs c code s := by
  cases c <;> cases hc
  case writeRows => exact ⟨_, _, fun _ => rfl, fun ops => decide_eq_true_iff⟩
  case writeDirectory => exact ⟨_, _, fun _ => rfl, directoryOperands_iff⟩
  case writeBins => exact ⟨_, _, fun _ => rfl, binOperands_iff⟩
  case configWrite => exact ⟨_, _, fun _ => rfl, fun ops => decide_eq_true_iff⟩
  case arrive =>
    refine ⟨operands 6, actArrive, fun free => ?_, operands_iff 6⟩
    exact if_neg (Bool.eq_false_iff.1 (free rfl))
  all_goals exact ⟨_, _, fun _ => rfl, operands_iff _⟩

/-- An ARRIVE that cannot find a FREE record is one that the unit takes and that passes R200's checks. -/
theorem arriveStuck_taken {s : State} (stuck : s.arriveStuck = true) :
    ∃ cell, s.port.takeable = some cell ∧ cell.payload.head? = some 0x20 ∧ s.port.part = .ready ∧
      operands 6 cell.payload.tail = true := by
  unfold State.arriveStuck at stuck
  split at stuck
  · cases stuck
  · rename_i cell takeable
    simp only [Bool.and_eq_true, decide_eq_true_eq] at stuck
    obtain ⟨⟨⟨⟨code, ready⟩, length⟩, -⟩, -⟩ := stuck
    exact ⟨cell, takeable, code, ready, length⟩

/-- Where the unit can take no cell, or another command's, nothing happens (log 1). -/
theorem exec_command_untaken {c : Instr} {code : Byte} {s : State} (hc : commandCode c = some code)
    (away : ∀ cell, s.port.takeable = some cell → cell.payload.head? ≠ some code) : exec c s = .next s := by
  obtain ⟨fits, act, run, -⟩ := command_takenAs s hc
  rw [run]
  · unfold takeCommand
    split
    · rfl
    · rename_i cell takeable
      rw [if_neg (away cell takeable)]
  · rintro rfl
    cases hc
    refine Bool.eq_false_iff.2 fun stuck => ?_
    obtain ⟨cell, takeable, head, -⟩ := arriveStuck_taken stuck
    exact away cell takeable head

section Waiting
variable {c : Instr} {code tag : Byte} {ops : List Byte} {rest : List CommandCell} {s : State}
  (hc : commandCode c = some code) (idle : s.port.unit = .idle) (room : s.port.replies.length < 8)
  (head : s.port.commands = ⟨tag, code :: ops⟩ :: rest)
include hc idle room head

/-- R200's check 1. -/
theorem exec_command_starting (starting : s.port.part = .starting) :
    exec c s = .next ((s.taken rest).refusal tag code .starting []) := by
  obtain ⟨fits, act, run, -⟩ := command_takenAs s hc
  rw [run fun _ => Bool.eq_false_iff.2 fun stuck => ?_, takeCommand_starting starting idle room head]
  obtain ⟨-, -, -, ready, -⟩ := arriveStuck_taken stuck
  exact nomatch starting.symm.trans ready

/-- R200's check 3. -/
theorem exec_command_range (ready : s.port.part = .ready) (unfit : ¬ operandsFit c ops) :
    exec c s = .next ((s.taken rest).refusal tag code .range []) := by
  obtain ⟨fits, act, run, fit⟩ := command_takenAs s hc
  have takes : s.takes tag code ops rest := ⟨ready, idle, room, head⟩
  rw [run ?_, takeCommand_wrongLength takes (Bool.eq_false_iff.2 (mt (fit ops).1 unfit))]
  rintro rfl
  refine Bool.eq_false_iff.2 fun stuck => unfit ((operands_iff 6 ops).1 ?_)
  obtain ⟨cell, takeable, -, -, length⟩ := arriveStuck_taken stuck
  rw [State.takes_takeable takes] at takeable
  cases takeable
  exact length

end Waiting

/-- R200's checks 1 and 2 of a payload without a code of the catalogue. -/
theorem exec_unknownCommand {tag : Byte} {payload : List Byte} {rest : List CommandCell} {s : State}
    (idle : s.port.unit = .idle) (room : s.port.replies.length < 8) (head : s.port.commands = ⟨tag, payload⟩ :: rest)
    (none : ∀ c code, commandCode c = some code → payload.head? ≠ some code) :
    exec .unknownCommand s =
      .next ((s.taken rest).reply
        ⟨tag, payload.headD 0, some (if s.port.part = .starting then .starting else .unknown), []⟩) := by
  have takeable : s.port.takeable = some ⟨tag, payload⟩ := (Port.takeable_eq_some _ _).2 ⟨idle, room, by rw [head]; rfl⟩
  have popped : s.popCommand = s.taken rest := by rw [State.popCommand, State.taken, head]; rfl
  show execUnknownCommand s = _
  unfold execUnknownCommand
  rw [takeable]
  dsimp only
  rw [if_pos (CommandCell.unknown_of_no_code none), popped]
  rfl

/-- Settles O2, by R200's checks. -/
theorem commandUnit : Obligations.CommandUnit := by
  refine ⟨fun c code s hc waits => exec_command_untaken hc fun cell takeable => ?_,
    fun c code tag ops rest s hc idle room head =>
      ⟨exec_command_starting hc idle room head, exec_command_range hc idle room head⟩,
    fun tag payload rest s idle room head none => exec_unknownCommand idle room head none⟩
  obtain ⟨idle, room, front⟩ := (Port.takeable_eq_some _ _).1 takeable
  rcases waits with busy | full | empty | ⟨other, rest, head, away⟩
  · exact absurd idle busy
  · exact absurd room (Nat.not_lt.2 full)
  · rw [empty] at front
    cases front
  · rw [head] at front
    cases front
    exact away

end Sys2Proof.Machine
end

section
/-! POWER-ON (O3) and the configuration memory (O36). -/

namespace Sys2Proof.Machine

/-! ### A write that POWER-ON cuts (R212) -/

/-- Bytes outside a cut write are as before, -/
theorem read_tornWrite_outside (free : Nat) (bs : List Byte) (i addr : Nat) {m : List Host.Cell}
    (wf : Memory.wf erased m = true) {a : Nat} (outside : a < addr ∨ addr + bs.length ≤ a) :
    Memory.read erased (tornWrite free i addr bs m) a = Memory.read erased m a := by
  induction bs generalizing i addr m with
  | nil => rfl
  | cons b bs ih =>
    rw [List.length_cons] at outside
    rw [tornWrite]
    split
    · rw [ih _ _ (Memory.wf_write addr b wf) (by omega), Memory.read_write _ _ _ wf, if_neg (by omega)]
    · exact ih _ _ wf (by omega)

/-- and each byte of it is the old or the new one. -/
theorem read_tornWrite_inside (free : Nat) (bs : List Byte) (i addr : Nat) {m : List Host.Cell}
    (wf : Memory.wf erased m = true) {j : Nat} {b : Byte} (new : bs[j]? = some b) :
    Memory.read erased (tornWrite free i addr bs m) (addr + j) = Memory.read erased m (addr + j) ∨
      Memory.read erased (tornWrite free i addr bs m) (addr + j) = b := by
  induction bs generalizing i addr m j with
  | nil => cases new
  | cons x bs ih =>
    rw [tornWrite]
    set next := if Config.byteLanded free i then Memory.write erased addr x m else m with landing
    have wfNext : Memory.wf erased next = true := by
      rw [landing]; split
      · exact Memory.wf_write addr x wf
      · exact wf
    have readNext (a : Nat) :
        Memory.read erased next a = Memory.read erased m a ∨ (a = addr ∧ Memory.read erased next a = x) := by
      rw [landing]; split
      · rw [Memory.read_write _ _ _ wf]
        by_cases h : a = addr <;> simp [h]
      · exact Or.inl rfl
    cases j with
    | zero =>
      cases new
      rw [show addr + 0 = addr from rfl, read_tornWrite_outside _ _ _ _ wfNext (Or.inl (show addr < addr + 1 by omega))]
      exact (readNext addr).imp_right And.right
    | succ j =>
      have later : addr + (j + 1) = addr + 1 + j := by omega
      have untouched : Memory.read erased next (addr + 1 + j) = Memory.read erased m (addr + 1 + j) :=
        (readNext _).resolve_right fun h => by omega
      rw [later, ← untouched]
      exact ih _ _ wfNext new

/-- Settles O3; the configuration memory by the command unit's state. -/
theorem powerOnReset : Obligations.PowerOnReset := by
  intro s wf
  refine ⟨s.configAtReset, rfl, configAtReset_of_not_writing, fun tag addr data writing => ?_⟩
  have torn : s.configAtReset = tornWrite s.freeCount 0 addr data s.port.config := by
    rw [State.configAtReset, writing]
  rw [torn]
  exact ⟨fun a outside => read_tornWrite_outside _ _ _ _ wf outside, fun i b new => read_tornWrite_inside _ _ _ _ wf new⟩

/-! ### CONFIG WRITE (R212) -/

theorem configOutside_eq_false_iff (addr n : Nat) : configOutside addr n = false ↔ 1 ≤ n ∧ n ≤ 64 ∧ addr + n ≤ 131072 := by
  simp [configOutside, and_assoc]

section ConfigWrite
variable {s : State} {tag : Byte} {ops : List Byte} {rest : List CommandCell} (takes : s.takes tag 0x76 ops rest)
include takes

theorem exec_configWrite :
    exec .configWrite s = .next (takeCommand 0x76 writeOperands (actConfigWrite tag) s) := by
  obtain ⟨-, -, -, head⟩ := takes
  have tagged : s.headTag = tag := by rw [State.headTag, head]; rfl
  show execConfigWrite s = _
  rw [execConfigWrite, tagged]

theorem exec_configWrite_begins (low : 1 ≤ fieldAt ops 4 1) (high : fieldAt ops 4 1 ≤ 64)
    (inside : fieldAt ops 0 4 + fieldAt ops 4 1 ≤ 131072) (length : (ops.drop 5).length = fieldAt ops 4 1) :
    exec .configWrite s =
      .next { s.taken rest with
                port := { (s.taken rest).port with unit := .writing tag (fieldAt ops 0 4) (ops.drop 5) } } := by
  have fits : writeOperands ops = true := decide_eq_true (by rw [List.length_drop] at length; omega)
  have begins : actConfigWrite tag ops (s.taken rest) =
      ({ s.taken rest with
          port := { (s.taken rest).port with unit := .writing tag (fieldAt ops 0 4) (ops.drop 5) } }, .later) := by
    refine if_neg ?_
    rw [(configOutside_eq_false_iff _ _).2 ⟨low, high, inside⟩, length]
    simp
  rw [exec_configWrite takes, takeCommand_takes takes fits, begins]
  rfl

theorem exec_configWrite_refused
    (bad : ¬ (1 ≤ fieldAt ops 4 1 ∧ fieldAt ops 4 1 ≤ 64 ∧ fieldAt ops 0 4 + fieldAt ops 4 1 ≤ 131072 ∧
      (ops.drop 5).length = fieldAt ops 4 1)) :
    exec .configWrite s = .next ((s.taken rest).refusal tag 0x76 .range []) := by
  rw [exec_configWrite takes]
  cases fits : writeOperands ops
  · rw [takeCommand_wrongLength takes fits]
  · refine congrArg _ (takeCommand_refused takes fits (if_pos ?_))
    by_contra good
    rw [not_or, Bool.not_eq_true, configOutside_eq_false_iff, not_not] at good
    obtain ⟨⟨low, high, inside⟩, length⟩ := good
    exact bad ⟨low, high, inside, length⟩

end ConfigWrite

/-- Settles O36: refused or begun by the command's own checks, and completed with the bytes written. -/
theorem configWrite : Obligations.ConfigWrite := by
  refine ⟨?_, fun s tag addr data writing wf => ?_, fun s rests => ?_⟩
  · intro s tag ops rest takes addr n data
    exact ⟨fun ⟨low, high, inside, length⟩ => exec_configWrite_begins takes low high inside length,
      exec_configWrite_refused takes⟩
  · refine ⟨Memory.writeMany erased addr data s.port.config, ?_, Memory.readMany_writeMany data addr wf,
      fun a outside => ?_⟩
    · show execConfigWriteComplete s = _
      rw [execConfigWriteComplete, writing]
      rfl
    · rw [Memory.read_writeMany data addr a wf, dif_neg (by omega)]
  · show execConfigWriteComplete s = _
    unfold execConfigWriteComplete
    split
    · exact absurd ‹_› (rests _ _ _)
    · rfl
    · rfl

end Sys2Proof.Machine
end

section
/-! The notice rule, STATUS, SET NOTICES and SET TAP (O51). -/

namespace Sys2Proof.Machine

/-! ### The notice rule (R202) -/

section Notices
variable (s : State) {x : Notice}

theorem notice_disabled (off : s.port.enables.allow x = false) : s.notice x = s := by
  rw [State.notice, Port.notice, if_neg (Bool.eq_false_iff.1 off)]

theorem notice_joins (on : s.port.enables.allow x = true) (room : s.port.notices.length < 32) :
    s.notice x = { s with port := { s.port with notices := s.port.notices ++ [x] } } := by
  rw [State.notice, Port.notice, if_pos on, if_pos room]

theorem notice_dropped (on : s.port.enables.allow x = true) (full : 32 ≤ s.port.notices.length) :
    s.notice x = { s with port := { s.port with noticeDrops := count s.port.noticeDrops 1 } } := by
  rw [State.notice, Port.notice, if_pos on, if_neg (Nat.not_lt.2 full)]

end Notices

/-! ### SET TAP (R205) -/

theorem actSetTap_outside {ops : List Byte} (outside : 512 ≤ fieldAt ops 0 2) (s : State) :
    actSetTap ops s = refuse .range [] s := if_pos outside

theorem actSetTap_inside {ops : List Byte} (inside : fieldAt ops 0 2 < 512) (s : State) :
    actSetTap ops s = ({ s with port := s.port.select (BitVec.ofNat 9 (fieldAt ops 0 2)) }, .done []) :=
  if_neg (Nat.not_le.2 inside)

/-- A channel that stays selected keeps its accumulator, every other is empty. -/
theorem Port.select_taps (p : Port) (sel : Nat) {i : Nat} (hi : i < 9) :
    (p.select (BitVec.ofNat 9 sel)).taps.getD i .empty =
      if sel.testBit i = true ∧ p.tapSelection.getLsbD i = true then p.taps.getD i .empty else .empty := by
  simp [Port.select, hi, BitVec.getLsbD_ofNat]

/-- Settles O51, one command after the other. -/
theorem portCommands : Obligations.PortCommands := by
  refine ⟨fun s x => ?_, fun s tag ops rest => ?_⟩
  · intro e on
    have allowed : e.allow x = on := by cases x <;> rfl
    exact ⟨fun off => notice_disabled s (allowed.trans off), fun enabled => notice_joins s (allowed.trans enabled),
      fun enabled => notice_dropped s (allowed.trans enabled)⟩
  · intro p
    refine ⟨fun takes length => ?_, fun takes length => ?_, fun takes length => ?_⟩
    · exact congrArg _ (takeCommand_done takes (operands_length length) rfl)
    · exact congrArg _ (takeCommand_done takes (operands_length length) rfl)
    · refine ⟨fun outside => ?_, fun inside => ?_⟩
      · exact congrArg _ (takeCommand_refused takes (operands_length length) (actSetTap_outside outside _))
      · exact ⟨_, congrArg _ (takeCommand_done takes (operands_length length) (actSetTap_inside inside _)),
          fun i hi => p.select_taps _ hi⟩

end Sys2Proof.Machine
end

section
/-! The directory image of the start-up load, entry by entry (R216; for O5). -/

namespace Sys2Proof.Machine

/-! ### Bytes laid out in a memory -/

theorem Memory.read_ofBytes (d : Byte) (bs : List Byte) (a i : Nat) :
    Memory.read d (Memory.ofBytes d a bs) (a + i) = bs.getD i d := by
  induction bs generalizing a i with
  | nil => rfl
  | cons b bs ih =>
    rw [Memory.ofBytes]
    cases i with
    | zero =>
      have below : Memory.read d (Memory.ofBytes d (a + 1) bs) a = d :=
        Memory.read_below fun c hc => (Memory.wf_ofBytes d bs (a + 1)).2 c hc
      split
      · rename_i unlisted
        exact below.trans unlisted.symm
      · exact if_pos rfl
    | succ i =>
      have later : a + (i + 1) = a + 1 + i := by omega
      rw [later]
      split
      · exact ih (a + 1) i
      · exact (if_neg (by omega)).trans (ih (a + 1) i)

/-- Bytes read from among those read. -/
theorem bytesAt_readMany (d : Byte) (m : List Host.Cell) {a n off len : Nat} (inside : off + len ≤ n) :
    bytesAt (Memory.readMany d m a n) off len = Memory.readMany d m (a + off) len := by
  apply List.ext_getElem?
  intro i
  rw [bytesAt, List.getElem?_take, List.getElem?_drop, Memory.readMany_getElem?, Memory.readMany_getElem?, Nat.add_assoc]
  by_cases hi : i < len
  · rw [if_pos hi, if_pos hi, if_pos (by omega)]
  · rw [if_neg hi, if_neg hi]

/-! ### What an activation looks at -/

theorem Recipe.entry_setEntry_ne (r : Recipe) {e p : Nat} (other : p ≠ e) (d : DirEntry) :
    (r.setEntry e d).entry p = r.entry p := by
  simp only [Recipe.entry, Recipe.setEntry, List.getD_eq_getElem?_getD, List.getElem?_set_ne other.symm]

theorem Recipe.entry_setEntry_self {r : Recipe} {e : Nat} (inside : e < r.directory.length) (d : DirEntry) :
    (r.setEntry e d).entry e = d := by
  simp only [Recipe.entry, Recipe.setEntry, List.getD_eq_getElem?_getD, List.getElem?_set_self inside, Option.getD_some]

theorem Recipe.setEntry_setEntry (r : Recipe) (e : Nat) (d d' : DirEntry) :
    (r.setEntry e d).setEntry e d' = r.setEntry e d' := by
  simp only [Recipe.setEntry, List.set_set]

/-- The steps are checked on the rows alone. -/
theorem Recipe.faultCode_congr {r r' : Recipe} (rows : r'.rows = r.rows) : r'.faultCode = r.faultCode := by
  have read (first n : Nat) : r'.readRows first n = r.readRows first n := by rw [readRows, readRows, rows]
  funext f i
  unfold Recipe.faultCode
  rw [show r'.rawStep f i = r.rawStep f i from congrArg RawStep.ofBytes (read _ _),
    show r'.limits f = r.limits f from funext fun m => congrArg Limits.ofBytes (read _ _)]

section Congr
variable {r r' : Recipe} {other other' : Nat → ProgramFields → Prop} {f : ProgramFields} (rows : r'.rows = r.rows)
  (same : ∀ p g, other' p g ↔ other p g)
include rows same

theorem Recipe.accepts_congr : r'.accepts other' f ↔ r.accepts other f := by
  simp only [accepts, faultCode_congr rows, same]

theorem Recipe.refuses_congr (reason : Reason) (data : List Byte) :
    r'.refuses other' f reason data ↔ r.refuses other f reason data := by
  simp only [refuses, faultCode_congr rows, same]

end Congr

/-! ### One entry taken -/

section Entry
variable (image : List Byte) (x : Recipe × List FailedEntry) (e : Nat)

/-- Taking an entry lists nothing but that entry. -/
theorem takeEntry_lists : ∃ l, (takeEntry image x e).2 = x.2 ++ l ∧ ∀ y ∈ l, y.entry = e := by
  unfold takeEntry
  dsimp only
  split
  · exact ⟨[], (List.append_nil _).symm, nofun⟩
  split
  · exact ⟨_, rfl, by simp⟩
  split
  · exact ⟨_, rfl, by simp⟩
  split
  · exact ⟨[], (List.append_nil _).symm, nofun⟩
  split
  · exact ⟨_, rfl, by simp⟩
  · exact ⟨[], (List.append_nil _).symm, nofun⟩

/-- Of another entry nothing changes and nothing is listed. -/
theorem takeEntry_others {p : Nat} (other : p ≠ e) :
    (takeEntry image x e).1.entry p = x.1.entry p ∧
      (takeEntry image x e).2.filter (fun y => decide (y.entry = p)) = x.2.filter (fun y => decide (y.entry = p)) := by
  obtain ⟨d, set⟩ := takeEntry_sets image x e
  obtain ⟨l, listed, own⟩ := takeEntry_lists image x e
  have none : l.filter (fun y => decide (y.entry = p)) = [] :=
    List.filter_eq_nil_iff.2 fun y hy => by rw [own y hy, decide_eq_true_eq]; exact other.symm
  rw [set, listed, List.filter_append, none, List.append_nil]
  exact ⟨Recipe.entry_setEntry_ne _ other d, rfl⟩

variable {image x e}

/-- Case 1 of R216: a state of EMPTY. -/
theorem takeEntry_empty (state : fieldAt (bytesAt image (20 * e) 20) 0 1 = 0) :
    takeEntry image x e = (x.1.setEntry e .empty, x.2 ++ []) := by
  rw [List.append_nil]
  exact if_pos state

/-- Case 2: a state or a field out of its range. -/
theorem takeEntry_badState (state : 2 < fieldAt (bytesAt image (20 * e) 20) 0 1) :
    takeEntry image x e = (x.1.setEntry e .empty, x.2 ++ [⟨e, .range, []⟩]) :=
  (if_neg (by omega)).trans (if_pos state)

theorem takeEntry_badField {i : Nat}
    (state : fieldAt (bytesAt image (20 * e) 20) 0 1 = 1 ∨ fieldAt (bytesAt image (20 * e) 20) 0 1 = 2)
    (bad : ProgramFields.ofBytes (bytesAt image (20 * e) 20) = .error i) :
    takeEntry image x e = (x.1.setEntry e .empty, x.2 ++ [⟨e, .range, toBytes 1 i⟩]) := by
  unfold takeEntry
  dsimp only
  rw [if_neg (by omega), if_neg (by omega), bad]

section Fields
variable {f : ProgramFields} (fields : ProgramFields.ofBytes (bytesAt image (20 * e) 20) = .ok f)
include fields

/-- Case 3: a state of INACTIVE. -/
theorem takeEntry_inactive (state : fieldAt (bytesAt image (20 * e) 20) 0 1 = 1) :
    takeEntry image x e = (x.1.setEntry e (.inactive f), x.2 ++ []) := by
  unfold takeEntry
  dsimp only
  rw [if_neg (by omega), if_neg (by omega), fields, List.append_nil]
  exact if_pos state

/-- Case 4: a state of ACTIVE, activated -/
theorem takeEntry_active (state : fieldAt (bytesAt image (20 * e) 20) 0 1 = 2)
    (sound : (x.1.setEntry e (.inactive f)).activationFault e f = none) :
    takeEntry image x e = (x.1.setEntry e (.active f), x.2 ++ []) := by
  unfold takeEntry
  dsimp only
  rw [if_neg (by omega), if_neg (by omega), fields, List.append_nil]
  dsimp only
  rw [if_neg (by omega), sound, Recipe.setEntry_setEntry]

/-- or left INACTIVE and listed. -/
theorem takeEntry_refused {reason : Reason} {data : List Byte} (state : fieldAt (bytesAt image (20 * e) 20) 0 1 = 2)
    (fault : (x.1.setEntry e (.inactive f)).activationFault e f = some (reason, data)) :
    takeEntry image x e = (x.1.setEntry e (.inactive f), x.2 ++ [⟨e, reason, data⟩]) := by
  unfold takeEntry
  dsimp only
  rw [if_neg (by omega), if_neg (by omega), fields]
  dsimp only
  rw [if_neg (by omega), fault]

end Fields
end Entry

/-! ### The entries in their order -/

/-- The entries below `n` taken. -/
def takenUpTo (image : List Byte) (r : Recipe) (n : Nat) : Recipe × List FailedEntry :=
  (List.range n).foldl (takeEntry image) (r, [])

theorem takeRecipe_eq (r : Recipe) (image rows : List Byte) :
    takeRecipe r image rows = takenUpTo image { r with rows := Memory.ofBytes 0 0 rows } 8 := rfl

section Order
variable (image : List Byte) (r : Recipe)

theorem takenUpTo_succ (n : Nat) : takenUpTo image r (n + 1) = takeEntry image (takenUpTo image r n) n := by
  rw [takenUpTo, List.range_succ, List.foldl_append]
  rfl

theorem takenUpTo_rest (n : Nat) :
    (takenUpTo image r n).1.rows = r.rows ∧ (takenUpTo image r n).1.directory.length = r.directory.length := by
  induction n with
  | zero => exact ⟨rfl, rfl⟩
  | succ n ih =>
    obtain ⟨rows, size⟩ := ih
    obtain ⟨d, set⟩ := takeEntry_sets image (takenUpTo image r n) n
    rw [takenUpTo_succ, set]
    exact ⟨rows, List.length_set.trans size⟩

/-- An entry not taken yet is as before, and nothing of it is listed. -/
theorem takenUpTo_later {n p : Nat} (later : n ≤ p) :
    (takenUpTo image r n).1.entry p = r.entry p ∧
      (takenUpTo image r n).2.filter (fun y => decide (y.entry = p)) = [] := by
  induction n with
  | zero => exact ⟨rfl, rfl⟩
  | succ n ih =>
    obtain ⟨entry, listed⟩ := ih (by omega)
    obtain ⟨same, none⟩ := takeEntry_others image (takenUpTo image r n) n (p := p) (by omega)
    rw [takenUpTo_succ]
    exact ⟨same.trans entry, none.trans listed⟩

/-- What the taking of an entry has made of it stays. -/
theorem takenUpTo_stays {n m p : Nat} (taken : p < n) (le : n ≤ m) :
    (takenUpTo image r m).1.entry p = (takenUpTo image r n).1.entry p ∧
      (takenUpTo image r m).2.filter (fun y => decide (y.entry = p)) =
        (takenUpTo image r n).2.filter (fun y => decide (y.entry = p)) := by
  induction m, le using Nat.le_induction with
  | base => exact ⟨rfl, rfl⟩
  | succ m le ih =>
    obtain ⟨entry, listed⟩ := ih
    obtain ⟨same, none⟩ := takeEntry_others image (takenUpTo image r m) m (p := p) (by omega)
    rw [takenUpTo_succ]
    exact ⟨same.trans entry, none.trans listed⟩

variable {image r} {e : Nat}

/-- Entry `e` after all are taken: what its own taking has made of it, and what that has listed. -/
theorem takenUpTo_at {d : DirEntry} {l : List FailedEntry} (he : e < 8) (size : r.directory.length = 8)
    (step : takeEntry image (takenUpTo image r e) e =
      ((takenUpTo image r e).1.setEntry e d, (takenUpTo image r e).2 ++ l)) (own : ∀ y ∈ l, y.entry = e) :
    (takenUpTo image r 8).1.entry e = d ∧
      (takenUpTo image r 8).2.filter (fun y => decide (y.entry = e)) = l := by
  obtain ⟨entry, listed⟩ := takenUpTo_stays image r (Nat.lt_succ_self e) he
  obtain ⟨-, length⟩ := takenUpTo_rest image r e
  obtain ⟨-, before⟩ := takenUpTo_later image r (Nat.le_refl e)
  have inside : e < (takenUpTo image r e).1.directory.length := by omega
  have whole : l.filter (fun y => decide (y.entry = e)) = l := List.filter_eq_self.2 fun y hy => decide_eq_true (own y hy)
  rw [entry, listed, Nat.succ_eq_add_one, takenUpTo_succ, step]
  exact ⟨Recipe.entry_setEntry_self inside d, by rw [List.filter_append, before, whole, List.nil_append]⟩

/-- When entry `e` is activated, the other ACTIVE programs are those of the entries before it. -/
theorem activeOther_takenUpTo (he : e < 8) (empty : ∀ p, r.entry p = .empty) (d : DirEntry) (p : Nat) (g : ProgramFields) :
    ((takenUpTo image r e).1.setEntry e d).activeOther e p g ↔ p < e ∧ (takenUpTo image r 8).1.entry p = .active g := by
  constructor
  · rintro ⟨-, other, active⟩
    rw [Recipe.entry_setEntry_ne _ other] at active
    rcases Nat.lt_or_ge p e with before | later
    · exact ⟨before, (takenUpTo_stays image r before he.le).1.trans active⟩
    · rw [(takenUpTo_later image r later).1, empty p] at active
      cases active
  · rintro ⟨before, active⟩
    refine ⟨by omega, by omega, ?_⟩
    rw [Recipe.entry_setEntry_ne _ (by omega)]
    exact (takenUpTo_stays image r before he.le).1.symm.trans active

/-- R216's four cases for entry `e` of a directory image, read off the recipe and the list of failures after the load. -/
def EntryLoaded (image : List Byte) (t : Recipe) (failed : List FailedEntry) (e : Nat) : Prop :=
  let bs := (image.drop (20 * e)).take 20
  let state := fieldAt bs 0 1
  let earlier := fun (p : Nat) (g : ProgramFields) => p < e ∧ t.entry p = .active g
  let gives := fun (d : DirEntry) (l : List FailedEntry) =>
    t.entry e = d ∧ failed.filter (fun x => decide (x.entry = e)) = l
  (state = 0 → gives .empty []) ∧ (2 < state → gives .empty [⟨e, .range, []⟩]) ∧
  (∀ i, state = 1 ∨ state = 2 → ProgramFields.ofBytes bs = .error i → gives .empty [⟨e, .range, toBytes 1 i⟩]) ∧
  ∀ f, ProgramFields.ofBytes bs = .ok f →
    (state = 1 → gives (.inactive f) []) ∧
    (state = 2 → t.accepts earlier f → gives (.active f) []) ∧
    ∀ reason data, state = 2 → t.refuses earlier f reason data → gives (.inactive f) [⟨e, reason, data⟩]

/-- From an empty directory every entry goes through R216's cases. -/
theorem entryLoaded_takenUpTo (he : e < 8) (empty : r.directory = List.replicate 8 .empty) :
    EntryLoaded image (takenUpTo image r 8).1 (takenUpTo image r 8).2 e := by
  have size : r.directory.length = 8 := by rw [empty, List.length_replicate]
  have vacant (p : Nat) : r.entry p = .empty := by
    rw [Recipe.entry, empty, List.getD_eq_getElem?_getD, List.getElem?_replicate]
    split <;> rfl
  have rows (d : DirEntry) : (takenUpTo image r 8).1.rows = ((takenUpTo image r e).1.setEntry e d).rows :=
    (takenUpTo_rest image r 8).1.trans (takenUpTo_rest image r e).1.symm
  have earlier (d : DirEntry) (p : Nat) (g : ProgramFields) := (activeOther_takenUpTo (image := image) he vacant d p g).symm
  refine ⟨fun state => ?_, fun state => ?_, fun i state bad => ?_, fun f fields => ⟨fun state => ?_, fun state sound => ?_,
    fun reason data state fault => ?_⟩⟩
  · exact takenUpTo_at he size (takeEntry_empty state) nofun
  · exact takenUpTo_at he size (takeEntry_badState state) (by simp)
  · exact takenUpTo_at he size (takeEntry_badField state bad) (by simp)
  · exact takenUpTo_at he size (takeEntry_inactive fields state) nofun
  · have activated := Recipe.activationFault_eq_none ((Recipe.accepts_congr (rows (.inactive f)) (earlier _)).1 sound)
    exact takenUpTo_at he size (takeEntry_active fields state activated) nofun
  · have refused := Recipe.activationFault_of_refuses
      ((Recipe.refuses_congr (rows (.inactive f)) (earlier _) reason data).1 fault)
    exact takenUpTo_at he size (takeEntry_refused fields state refused) (by simp)

end Order

end Sys2Proof.Machine
end

section
/-! The end of the start-up load (O5): the seven groups, each at its default, taken or rejected (R214, R215, R224). -/

namespace Sys2Proof.Machine

/-! ### A group of the image -/

/-- The accept code of a group (R224). -/
abbrev acceptCode (control i : Nat) : Nat := control / 4 ^ i % 4

/-- What the load makes of one group: `x` before, `y` what the image carries, `z` and `r` what it leaves and reports. -/
structure GroupLoaded {α : Type} (code : Nat) (ok : Prop) (x y z : α) (r : GroupResult) : Prop where
  default : code ≠ 1 → r = .default ∧ z = x
  rejected : code = 1 → ¬ ok → r = .rejected ∧ z = x
  taken : code = 1 → ok → r = .taken ∧ z = y

/-- A group that is applied to one block of the state where its check passes. -/
theorem groupLoaded_loadGroup {α : Type} {ok : Prop} {x y : α} {s : State} {load : State → State × GroupResult}
    (control i : Nat) (put : α → State) (now : put x = s) (taken : ok → load s = (put y, .taken))
    (rejected : ¬ ok → load s = (s, .rejected)) :
    ∃ z r, loadGroup control i load s = (put z, r) ∧ GroupLoaded (acceptCode control i) ok x y z r := by
  classical
  by_cases code : acceptCode control i = 1
  · have examined : loadGroup control i load s = load s := if_pos (decide_eq_true code)
    by_cases good : ok
    · exact ⟨y, .taken, examined.trans (taken good), fun no => absurd code no, fun _ bad => absurd good bad,
        fun _ _ => ⟨rfl, rfl⟩⟩
    · exact ⟨x, .rejected, examined.trans ((rejected good).trans (by rw [now])), fun no => absurd code no,
        fun _ _ => ⟨rfl, rfl⟩, fun _ yes => absurd yes good⟩
  · have kept : loadGroup control i load s = (s, .default) := if_neg (by rw [accepted, decide_eq_true_eq]; exact code)
    exact ⟨x, .default, kept.trans (by rw [now]), fun _ => ⟨rfl, rfl⟩, fun yes => absurd yes code,
      fun yes => absurd yes code⟩

/-! ### The checks of the groups, each the command's own (R215) -/

section Groups
variable (s : State) (control : Nat)

theorem loadCal_group :
    let cal := fun (i : Nat) => signedAt (s.port.configBytes 16 8) (2 * i) 2
    ∃ a r, loadGroup control 0 loadCal s = ({ s with analyser := a }, r) ∧
      GroupLoaded (acceptCode control 0) (∀ i, i < 4 → -20000 ≤ cal i ∧ cal i ≤ 20000) s.analyser
        { s.analyser with calibration := ⟨cal 0, cal 1, cal 2, cal 3⟩ } a r := by
  intro cal
  have check : (PerNest.mk (cal 0) (cal 1) (cal 2) (cal 3)).toList.all offsetOk = true ↔
      ∀ i, i < 4 → -20000 ≤ cal i ∧ cal i ≤ 20000 := by
    simp only [PerNest.toList, offsetOk, List.all_cons, List.all_nil, Bool.and_true, Bool.and_eq_true, decide_eq_true_eq]
    constructor
    · rintro ⟨h0, h1, h2, h3⟩ i hi
      interval_cases i
      · exact h0
      · exact h1
      · exact h2
      · exact h3
    · exact fun h => ⟨h 0 (by decide), h 1 (by decide), h 2 (by decide), h 3 (by decide)⟩
  refine groupLoaded_loadGroup control 0 (fun a => { s with analyser := a }) rfl (fun ok => ?_) fun bad => ?_
  · exact congrArg (groupResult s) (if_pos (check.2 ok))
  · exact congrArg (groupResult s) (if_neg (mt check.1 bad))

theorem loadGuard_group :
    let ops := s.port.configBytes 24 11
    ∃ g r, loadGroup control 1 loadGuard s = ({ s with guard := g }, r) ∧
      GroupLoaded (acceptCode control 1) (guardFault ops = none) s.guard
        { guardWith s.guard ops with loud := false, holdCount := 0, peakSince := 0, loudestSince := none } g r := by
  intro ops
  refine groupLoaded_loadGroup control 1 (fun g => { s with guard := g }) rfl (fun good => ?_) fun bad => ?_
  · have read : GuardSettings.ofBytes ops = .ok (guardSettings ops) := by rw [ofBytes_eq, good]; rfl
    unfold loadGuard
    rw [read]
    rfl
  · obtain ⟨i, fault⟩ := Option.ne_none_iff_exists'.1 bad
    have read : GuardSettings.ofBytes ops = .error i := by rw [ofBytes_eq, fault]; rfl
    unfold loadGuard
    rw [read]
    rfl

theorem yieldFieldBad_eq_none_iff {w l q : Nat} (byte : q < 256) :
    yieldFieldBad w l q = none ↔ 16 ≤ w ∧ w ≤ 1024 ∧ l ≤ w ∧ q ≠ 255 := by
  unfold yieldFieldBad
  split_ifs <;> simp <;> omega

theorem loadYield_group :
    let w := fieldAt (s.port.configBytes 40 5) 0 2
    let l := fieldAt (s.port.configBytes 40 5) 2 2
    let q := fieldAt (s.port.configBytes 40 5) 4 1
    ∃ y r, loadGroup control 2 loadYield s = ({ s with yield := y }, r) ∧
      GroupLoaded (acceptCode control 2) (16 ≤ w ∧ w ≤ 1024 ∧ l ≤ w ∧ q ≠ 255) s.yield
        ((s.yield.withSettings w l q).trim w) y r := by
  intro w l q
  have check := yieldFieldBad_eq_none_iff (w := w) (l := l) (q := q) (fieldAt_lt _ _ 1)
  refine groupLoaded_loadGroup control 2 (fun y => { s with yield := y }) rfl (fun good => ?_) fun bad => ?_
  · unfold loadYield
    dsimp only
    rw [check.2 good]
    rfl
  · obtain ⟨i, fault⟩ := Option.ne_none_iff_exists'.1 (mt check.1 bad)
    unfold loadYield
    dsimp only
    rw [fault]
    rfl

theorem loadMarking_group :
    let ack := fieldAt (s.port.configBytes 48 2) 0 2
    ∃ m r, loadGroup control 3 loadMarking s = ({ s with marking := m }, r) ∧
      GroupLoaded (acceptCode control 3) (50 ≤ ack ∧ ack ≤ 5000) s.marking { s.marking with ackMs := ack } m r := by
  intro ack
  refine groupLoaded_loadGroup control 3 (fun m => { s with marking := m }) rfl (fun good => ?_) fun bad => ?_
  · exact congrArg (groupResult s) (if_pos good)
  · exact congrArg (groupResult s) (if_neg bad)

theorem configBytes_length (p : Port) (addr n : Nat) : (p.configBytes addr n).length = n := Memory.readMany_length ..

/-- The ten entries of the BINS group (R224). -/
def binImages (p : Port) : List (List Byte) := (List.range 10).map fun i => p.configBytes (52 + 10 * i) 10

theorem binFieldsAt_configBytes (p : Port) : binFieldsAt (p.configBytes 52 100) 0 10 = binImages p := by
  refine List.map_congr_left fun i hi => ?_
  have := List.mem_range.1 hi
  rw [Nat.zero_add]
  exact bytesAt_readMany erased p.config (by omega)

/-- The group's check passes where every entry's fields are in range and its label code is one (R20). -/
theorem binImages_ok_iff (p : Port) :
    ¬ ((binImages p).any binFieldsBad = true ∨ (binImages p).any binCodeBad = true) ↔
      ∀ i, i < 10 → binFieldsOk (p.configBytes (52 + 10 * i) 10) ∧ ∃ c, binCodeIs (p.configBytes (52 + 10 * i) 10) c := by
  have fields (i : Nat) := binFieldsBad_eq_false_iff (p.configBytes (52 + 10 * i) 10)
  have codes (i : Nat) := binCodeBad_eq_false_iff (configBytes_length p (52 + 10 * i) 10)
  simp only [binImages, not_or, Bool.not_eq_true, List.any_eq_false, List.mem_map, List.mem_range,
    forall_exists_index, and_imp, forall_apply_eq_imp_iff₂, fields, codes, ← forall_and]
  exact Iff.rfl

theorem loadBins_group :
    ∃ b r, loadGroup control 4 loadBins s = ({ s with recipe := { s.recipe with bins := b } }, r) ∧
      GroupLoaded (acceptCode control 4)
        (∀ i, i < 10 → binFieldsOk (s.port.configBytes (52 + 10 * i) 10) ∧
          ∃ c, binCodeIs (s.port.configBytes (52 + 10 * i) 10) c)
        s.recipe.bins ((binImages s.port).map BinEntry.ofBytes) b r := by
  refine groupLoaded_loadGroup control 4 (fun b => { s with recipe := { s.recipe with bins := b } }) rfl (fun good => ?_)
    fun bad => ?_
  · unfold loadBins
    dsimp only
    rw [binFieldsAt_configBytes, if_neg ((binImages_ok_iff s.port).2 good)]
    rfl
  · unfold loadBins
    dsimp only
    rw [binFieldsAt_configBytes, if_pos (not_not.1 (mt (binImages_ok_iff s.port).1 bad))]
    rfl

/-- The entries taken, with the codes that their images hold. -/
theorem binImages_entries {p : Port} {codes : Nat → List Byte}
    (held : ∀ i, i < 10 → binCodeIs (p.configBytes (52 + 10 * i) 10) (codes i)) :
    (binImages p).map BinEntry.ofBytes =
      (List.range 10).map fun i =>
        ⟨fieldAt (p.configBytes (52 + 10 * i) 10) 0 1, decide (fieldAt (p.configBytes (52 + 10 * i) 10) 1 1 = 1),
          codes i⟩ := by
  rw [binImages, List.map_map]
  refine List.map_congr_left fun i hi => ?_
  have code := labelCodeOf_binCode (configBytes_length ..) (held i (List.mem_range.1 hi))
  rw [Function.comp_apply, BinEntry.ofBytes, code]

theorem loadNotices_group :
    ∃ e r, loadGroup control 6 loadNotices s = ({ s with port := { s.port with enables := e } }, r) ∧
      GroupLoaded (acceptCode control 6) True s.port.enables (.ofByte (Memory.read erased s.port.config 160)) e r :=
  groupLoaded_loadGroup control 6 (fun e => { s with port := { s.port with enables := e } }) rfl (fun _ => rfl)
    fun no => absurd trivial no

end Groups

/-! ### The RECIPE group (R216) -/

/-- What the load makes of the RECIPE group: `r` the recipe memory before, `r'` after it, `l` the entries it lists. -/
structure RecipeLoaded (code : Nat) (matched : Prop) (image rows : List Byte) (r r' : Recipe) (o : GroupResult)
    (l : List FailedEntry) : Prop where
  default : code ≠ 1 → o = .default ∧ r'.rows = r.rows ∧ r'.directory = r.directory ∧ l = []
  checkFail : code = 1 → ¬ matched → o = .checkFail ∧ r'.rows = r.rows ∧ r'.directory = r.directory ∧ l = []
  taken : code = 1 → matched → o = .taken ∧
    r' = (takenUpTo image { r with rows := Memory.ofBytes 0 0 rows } 8).1 ∧
    l = (takenUpTo image { r with rows := Memory.ofBytes 0 0 rows } 8).2
  useCount : r'.useCount = r.useCount
  bins : r'.bins = r.bins

theorem loadRecipe_group (s : State) (control : Nat) :
    let image := s.port.configBytes 256 160
    let rows := s.port.configBytes 1024 65536
    ∃ r o l, (if accepted control 5 then loadRecipe s else ((s, .default), [])) = (({ s with recipe := r }, o), l) ∧
      RecipeLoaded (acceptCode control 5) (fieldAt (s.port.configBytes 416 4) 0 4 = (crc32 (image ++ rows)).toNat) image rows
        s.recipe r o l := by
  intro image rows
  by_cases code : acceptCode control 5 = 1
  · rw [if_pos (show accepted control 5 = true from decide_eq_true code)]
    by_cases check : fieldAt (s.port.configBytes 416 4) 0 4 = (crc32 (image ++ rows)).toNat
    · obtain ⟨directory, sets, -⟩ := takeRecipe_sets s.recipe image rows
      refine ⟨_, _, _, if_pos check, fun no => absurd code no, fun _ bad => absurd check bad,
        fun _ _ => ⟨rfl, rfl, rfl⟩, ?_, ?_⟩
      · rw [sets]
      · rw [sets]
    · exact ⟨s.recipe, _, _, if_neg check, fun no => absurd code no, fun _ _ => ⟨rfl, rfl, rfl, rfl⟩,
        fun _ good => absurd good check, rfl, rfl⟩
  · rw [if_neg (show ¬ accepted control 5 = true by rw [accepted, decide_eq_true_eq]; exact code)]
    exact ⟨s.recipe, _, _, rfl, fun _ => ⟨rfl, rfl, rfl, rfl⟩, fun yes => absurd yes code,
      fun yes => absurd yes code, rfl, rfl⟩

/-- The rows read as the image's. -/
theorem read_loadedRows (p : Port) {a : Nat} (inside : a < 65536) :
    Memory.read 0 (Memory.ofBytes 0 0 (p.configBytes 1024 65536)) a = Memory.read erased p.config (1024 + a) := by
  have read := Memory.read_ofBytes 0 (p.configBytes 1024 65536) 0 a
  rw [Nat.zero_add, List.getD_eq_getElem?_getD, Port.configBytes, Memory.readMany_getElem?, if_pos inside] at read
  exact read

/-! ### All groups -/

/-- What the load leaves in the blocks it reaches, and what it reports. -/
structure LoadOutcome where
  analyser : Analyser
  guard : Guard
  yield : Yield
  marking : Marking
  recipe : Recipe
  enables : Enables
  cal : GroupResult
  guardGroup : GroupResult
  yieldGroup : GroupResult
  markingGroup : GroupResult
  bins : GroupResult
  recipeGroup : GroupResult
  notices : GroupResult
  failed : List FailedEntry

/-- The part READY with the outcome of its load. -/
def LoadOutcome.apply (x : LoadOutcome) (s : State) : State :=
  { s with
      analyser := x.analyser, guard := x.guard, yield := x.yield, marking := x.marking, recipe := x.recipe
      port :=
        { s.port with
            enables := x.enables, part := .ready
            startup :=
              ⟨[x.cal, x.guardGroup, x.yieldGroup, x.markingGroup, x.bins, x.recipeGroup, x.notices], x.failed⟩ } }

/-- The outcome is the one of an image with these accept codes in the configuration memory of `s`. -/
structure LoadOutcome.Of (x : LoadOutcome) (s : State) (control : Nat) : Prop where
  cal :
    let cal := fun (i : Nat) => signedAt (s.port.configBytes 16 8) (2 * i) 2
    GroupLoaded (acceptCode control 0) (∀ i, i < 4 → -20000 ≤ cal i ∧ cal i ≤ 20000) s.analyser
      { s.analyser with calibration := ⟨cal 0, cal 1, cal 2, cal 3⟩ } x.analyser x.cal
  guard :
    let ops := s.port.configBytes 24 11
    GroupLoaded (acceptCode control 1) (guardFault ops = none) s.guard
      { guardWith s.guard ops with loud := false, holdCount := 0, peakSince := 0, loudestSince := none } x.guard
      x.guardGroup
  yield :
    let w := fieldAt (s.port.configBytes 40 5) 0 2
    let l := fieldAt (s.port.configBytes 40 5) 2 2
    let q := fieldAt (s.port.configBytes 40 5) 4 1
    GroupLoaded (acceptCode control 2) (16 ≤ w ∧ w ≤ 1024 ∧ l ≤ w ∧ q ≠ 255) s.yield
      ((s.yield.withSettings w l q).trim w) x.yield x.yieldGroup
  marking :
    let ack := fieldAt (s.port.configBytes 48 2) 0 2
    GroupLoaded (acceptCode control 3) (50 ≤ ack ∧ ack ≤ 5000) s.marking { s.marking with ackMs := ack } x.marking
      x.markingGroup
  bins :
    GroupLoaded (acceptCode control 4)
      (∀ i, i < 10 → binFieldsOk (s.port.configBytes (52 + 10 * i) 10) ∧
        ∃ c, binCodeIs (s.port.configBytes (52 + 10 * i) 10) c)
      s.recipe.bins ((binImages s.port).map BinEntry.ofBytes) x.recipe.bins x.bins
  recipe :
    let image := s.port.configBytes 256 160
    let rows := s.port.configBytes 1024 65536
    RecipeLoaded (acceptCode control 5) (fieldAt (s.port.configBytes 416 4) 0 4 = (crc32 (image ++ rows)).toNat) image rows
      { s.recipe with bins := x.recipe.bins } x.recipe x.recipeGroup x.failed
  notices :
    GroupLoaded (acceptCode control 6) True s.port.enables (.ofByte (Memory.read erased s.port.config 160)) x.enables
      x.notices

/-- The block of R224 that identifies an image. -/
theorem Port.hasImage_iff (p : Port) :
    p.hasImage = true ↔ fieldAt (p.configBytes 0 4) 0 4 = 0x47583436 ∧ Memory.read erased p.config 4 = 1 := by
  have version : fieldAt (p.configBytes 4 1) 0 1 = (Memory.read erased p.config 4).toNat := fieldAt_one _ 0
  rw [Port.hasImage, Bool.and_eq_true, decide_eq_true_eq, decide_eq_true_eq, version]
  exact and_congr_right fun _ => BitVec.toNat_inj (y := 1)

/-- Each group reads the configuration memory and reaches its own block alone, so they are loaded side by side. -/
theorem endLoad_outcome {s : State} (image : s.port.hasImage = true) :
    ∃ x : LoadOutcome, s.endLoad = x.apply s ∧ x.Of s (fieldAt (s.port.configBytes 6 2) 0 2) := by
  set control := fieldAt (s.port.configBytes 6 2) 0 2 with codes
  obtain ⟨a, o0, calRun, cal⟩ := loadCal_group s control
  obtain ⟨g, o1, guardRun, guard⟩ := loadGuard_group { s with analyser := a } control
  obtain ⟨y, o2, yieldRun, yields⟩ := loadYield_group { s with analyser := a, guard := g } control
  obtain ⟨m, o3, markingRun, marking⟩ := loadMarking_group { s with analyser := a, guard := g, yield := y } control
  obtain ⟨b, o4, binsRun, bins⟩ := loadBins_group { s with analyser := a, guard := g, yield := y, marking := m } control
  obtain ⟨r, o5, failed, recipeRun, recipe⟩ := loadRecipe_group
    { s with analyser := a, guard := g, yield := y, marking := m, recipe := { s.recipe with bins := b } } control
  obtain ⟨e, o6, noticesRun, notices⟩ := loadNotices_group
    { s with analyser := a, guard := g, yield := y, marking := m, recipe := r } control
  have kept : r.bins = b := recipe.bins
  subst kept
  refine ⟨⟨a, g, y, m, r, e, o0, o1, o2, o3, o4, o5, o6, failed⟩, ?_, cal, guard, yields, marking, bins, recipe, notices⟩
  unfold State.endLoad State.startupLoad State.loadGroups
  rw [if_pos image, ← codes]
  dsimp only
  rw [calRun, guardRun, yieldRun, markingRun, binsRun, recipeRun, noticesRun]
  rfl

/-- A report with the value it leaves, from the two equations of a group. -/
theorem group_told {α β : Type} {z w : α} {r o : GroupResult} (h : r = o ∧ z = w) (f : α → β) :
    some r = some o ∧ f z = f w := ⟨congrArg some h.1, congrArg f h.2⟩

/-- Settles O5: no image and a load ended already by the definition, the seven groups by `endLoad_outcome`, and the
entries of a taken RECIPE by `entryLoaded_takenUpTo`. -/
theorem startupLoadEnds : Obligations.StartupLoadEnds := by
  refine ⟨fun s => ⟨fun starting none => ?_, fun ready => ?_⟩, fun s starting word version => ?_⟩
  · refine congrArg Host.Outcome.next ((if_pos starting).trans ?_)
    have absent : ¬ s.port.hasImage = true := by
      rw [Port.hasImage_iff]
      exact fun h => none.elim (fun word => word h.1) fun version => version h.2
    rw [State.endLoad, State.startupLoad, if_neg absent]
  · exact congrArg Host.Outcome.next (if_neg (by rw [ready]; decide))
  obtain ⟨x, ends, loaded⟩ := endLoad_outcome ((Port.hasImage_iff s.port).2 ⟨word, version⟩)
  obtain ⟨cal, guard, yields, marking, bins, recipe, notices⟩ := loaded
  refine ⟨x.apply s, congrArg Host.Outcome.next ((if_pos starting).trans ends), rfl, rfl, rfl, rfl, rfl, rfl,
    recipe.useCount, ?_⟩
  intro control code result failedAt calAt calOk guardOps w l q yieldOk ack bin image rows matched
  refine ⟨fun h => group_told (cal.default h) Analyser.calibration,
    fun h bad => group_told (cal.rejected h bad) Analyser.calibration,
    fun h ok => group_told (cal.taken h ok) Analyser.calibration,
    fun h => group_told (guard.default h) id, fun h bad => group_told (guard.rejected h bad) id,
    fun h ok => group_told (guard.taken h ok) id,
    fun h => group_told (yields.default h) id, fun h bad => group_told (yields.rejected h bad) id, fun h ok => ?_,
    fun h => group_told (marking.default h) id, fun h bad => group_told (marking.rejected h bad) id,
    fun h ok => group_told (marking.taken h ok) id,
    fun h => group_told (bins.default h) id, fun h bad => group_told (bins.rejected h bad) id, fun codes h ok => ?_,
    fun h => ?_, fun h bad => ?_, fun h ok => ?_,
    fun h => group_told (notices.default h) id, fun h => group_told (notices.taken h trivial) id⟩
  · obtain ⟨taken, set⟩ := yields.taken h ok
    exact ⟨congrArg some taken, congrArg Yield.windowLength set, congrArg Yield.holdLevel set,
      congrArg Yield.quarantineLevel set⟩
  · obtain ⟨taken, set⟩ := bins.taken h fun i hi => ⟨(ok i hi).1, codes i, (ok i hi).2⟩
    exact ⟨congrArg some taken, set.trans (binImages_entries fun i hi => (ok i hi).2)⟩
  · obtain ⟨untouched, same⟩ := recipe.default h
    exact ⟨congrArg some untouched, same⟩
  · obtain ⟨failed, same⟩ := recipe.checkFail h bad
    exact ⟨congrArg some failed, same⟩
  · obtain ⟨taken, after, listed⟩ := recipe.taken h ok
    refine ⟨congrArg some taken, fun a inside => ?_, fun empty e he => ?_⟩
    · have rowsSet : x.recipe.rows = Memory.ofBytes 0 0 rows := by rw [after, (takenUpTo_rest ..).1]
      exact (congrArg (Memory.read 0 · a) rowsSet).trans (read_loadedRows s.port inside)
    · have entries : EntryLoaded image x.recipe x.failed e := by
        rw [after, listed]
        exact entryLoaded_takenUpTo he empty
      exact entries

end Sys2Proof.Machine
end


section
/-! One step and the queue of events (00, Conventions; for O1). -/

namespace Sys2Proof.Machine

/-- An empty queue idles (log 4). -/
theorem step_of_pending_nil {s : State} (empty : s.pending = []) : step s = .next s := by
  unfold step
  rw [empty]

/-- The front of the queue is done on the state that keeps only the queue's rest. -/
theorem step_of_pending_cons {c : Instr} {rest : List Instr} {s : State} (front : s.pending = c :: rest) :
    step s = exec c { s with pending := rest } := by
  unfold step
  rw [front]

/-- Settles O1, by what a step does on each form of the queue. -/
theorem stepTakesTheFront : Obligations.StepTakesTheFront :=
  ⟨fun _ _ _ => step_of_pending_cons rfl, fun _ => step_of_pending_nil⟩

end Sys2Proof.Machine
end
